-- ==== Sys2Proof/Word.lean ====
section
/-! DEFINITION. The fixed-width words the manual computes with: registers, ring data units, stored
codewords. Register numbers, counts and addresses that are only compared or indexed are `Nat`. -/

namespace Sys2Proof

/-- A byte. -/
abbrev Byte := BitVec 8
/-- A 32-bit register value (R6). -/
abbrev Word := BitVec 32
/-- A 64-bit memory word or machine-time value (R167, R319). -/
abbrev Dword := BitVec 64
/-- A stored (72,64) codeword: 64 data bits and 8 check bits (R319). -/
abbrev Code72 := BitVec 72
/-- The data bits of one ring unit (Table 09.3). -/
abbrev Unit128 := BitVec 128

end Sys2Proof
end

