-- ==== Sys2Proof/Syntax.lean ====
section
/-! DEFINITION. The commands that the device takes, one constructor of `Instr` per row of
spec/opcode_table.json, in the table's order, and the data they carry. The table gives its rows no bits,
so operands are typed data; an index has the type `Fin n` of what it names, so no operand names a unit
that does not exist. What lies outside the device (the flashes, the format parts' memories, the logic a
user places in a zone, pads and pins, the host) shows in operands (assumption log 5). -/

namespace Sys2Proof

/-- A fabric die, 0 to 3 for F1 to F4. -/
abbrev Die := Fin 4

/-- The number of a die (R4): F1 is die 1. -/
def Die.no (d : Die) : Nat := d.val + 1

/-- A zone of a fabric die. -/
structure ZoneId where
  die : Die
  zone : Fin 64
  deriving DecidableEq, Repr

/-- The zone's 12-bit unit ID (R4). -/
def ZoneId.unit (z : ZoneId) : Nat := (z.die.val + 1) * 512 + z.zone.val
/-- The zone's index 64 × (d − 1) + z (R510). -/
def ZoneId.no (z : ZoneId) : Nat := z.die.val * 64 + z.zone.val

/-- A data unit of a ring packet: 128 data bits and the poison and corrected side bits (Table 09.3). -/
structure DataUnit where
  val : Unit128
  poison : Bool
  corrected : Bool
  deriving DecidableEq, Repr

/-- A pad or lane supply (Table 02.8): a bank's VCCIO (bank number (d − 1) × 8 + b), VMIO, VLANE, VLANET; and VCCP,
as the local detectors of the machine I/O and MLINK pads see it (R44). -/
inductive PadSupply
  | vccio (bank : Fin 32)
  | vmio
  | vlane
  | vlanet
  | vccp
  deriving DecidableEq, Repr

/-- A clock loop: the root loop, or the slave loop of a fabric die (R157, R159). -/
inductive LoopId
  | root
  | slave (d : Die)
  deriving DecidableEq, Repr

/-- The initiators of the ring (chapter 09): the user port of a zone, P-die stops 1, 6, 24, 35 and 36,
configuration stop 96 of a die, and the compute link of a die. -/
inductive Initiator
  | zone (z : ZoneId)
  | mlink
  | events
  | smv
  | cam
  | gaf
  | gather (d : Die)
  | link (d : Die)
  deriving DecidableEq, Repr

/-- A stop of the ring network: die 0 is the P-die; the stop number as Table 09.1 lists it. -/
structure StopId where
  die : Fin 5
  stop : Fin 128
  deriving DecidableEq, Repr

/-- A request as an initiator port gives it: the command and class codes of Tables 09.6 and 09.8, the
48-bit ring address, LEN, byte enables and the data units. -/
structure Request where
  cmd : BitVec 5
  cls : Fin 4
  addr : BitVec 48
  len : BitVec 5
  be : BitVec 16
  data : List DataUnit
  deriving DecidableEq, Repr

/-- The statuses with which a zone's logic answers a request at its user target port (Table 09.7). -/
inductive PortStatus
  | ok
  | error
  | poisoned
  | refused
  deriving DecidableEq, Repr

/-- What the moment of a service gives: the answer of a zone's logic to a request at its user target port; and at a bank
of the pool, how many words of a stream request are performed before a compute access falls between them (R348; 0: all that
are left). -/
structure PortReply where
  status : PortStatus
  data : List DataUnit
  words : Nat
  deriving DecidableEq, Repr

/-- A node of the ring network where a packet waits: ring 0 is the P-die ring, 1 to 4 the die rings, 5 the
spine; the position of Table 09.1; direction 0 clockwise; the request or response lane (R277). -/
structure RingNode where
  ring : Fin 6
  pos : Fin 72
  ccw : Bool
  resp : Bool
  deriving DecidableEq, Repr

/-- A store with an ECC test block: a zone's block memories or a pool group's banks (chapter 11). -/
inductive EccUnit
  | zone (z : ZoneId)
  | pool (g : Fin 8)
  deriving DecidableEq, Repr

/-- Where a fabric channel ends: an endpoint of a zone of the die, or a lane transmitter half. -/
inductive ChanEnd
  | zone (z : Fin 64) (ep : Fin 16)
  | lane (quad : Fin 6) (lane : Fin 4) (half : Bool)
  deriving DecidableEq, Repr

/-- Where a fabric channel starts, as the channel frames of its destination fix it (R206): an endpoint of a zone of the
die, or a lane receiver half (R607). -/
inductive ChanSrc
  | zone (z : Fin 64) (ep : Fin 16)
  | lane
  deriving DecidableEq, Repr

/-- A step across the boundary of a zone to the next: to a row or column one lower or one higher. -/
inductive ZoneStep
  | rowDown
  | rowUp
  | colDown
  | colUp
  deriving DecidableEq, Repr

/-- One channel as the channel frames of its source fix it (R206, R207): where it ends, and the boundaries that a longer
route than the shortest crosses, where the tools recorded one. -/
structure Route where
  dst : ChanEnd
  path : Option (List ZoneStep)
  deriving DecidableEq, Repr

/-- The data sources of a cell's flip-flop and its set/reset configuration (Table 07.1). -/
structure FfCfg where
  bypass : Bool
  async : Bool
  srval : Bool
  init : Bool
  deriving DecidableEq, Repr

/-- What CI of the first cell of a carry run is (R202). -/
inductive CarryIn
  | zero
  | one
  | bx0
  | below
  deriving DecidableEq, Repr

/-- The configuration of one logic cell (R193, R194, R201): its table, split and carry mode, and flip-flops. -/
structure CellCfg where
  table : BitVec 64
  split : Bool
  carry : Bool
  runStart : Bool
  ci : CarryIn
  ff0 : FfCfg
  ff1 : FfCfg
  deriving DecidableEq, Repr

/-- The routed inputs of one cell at a zone edge: A to F (bit 0 is A), BX0, BX1, and CE and SR of FF0, FF1. -/
structure CellIn where
  cell : Fin 20480
  inp : BitVec 6
  bx0 : Bool
  bx1 : Bool
  ce0 : Bool
  sr0 : Bool
  ce1 : Bool
  sr1 : Bool
  deriving DecidableEq, Repr

/-- The pre-adder's function (R246). -/
inductive PreAdd
  | dPlusA
  | dMinusA
  | a
  | negA
  deriving DecidableEq, Repr

/-- The addend of an accumulator (R247). -/
inductive Addend
  | zero
  | c
  | pcin
  deriving DecidableEq, Repr

/-- The configuration of one arithmetic slice (R246 to R251). -/
structure SliceCfg where
  pre : PreAdd
  addend : Addend
  sat : Bool
  rsh : Fin 49
  round : Bool
  dual : Bool
  inReg : Bool
  preReg : Bool
  prodReg : Bool
  deriving DecidableEq, Repr

/-- The operands of one slice at a zone edge (Table 08.6); `sub` is ADD/SUB, `en` the edge enable (R247). -/
structure SliceIn where
  slice : Fin 32
  en : Bool
  a : BitVec 24
  d : BitVec 24
  b : BitVec 24
  c : BitVec 48
  pa : Bool
  pb : Bool
  pc : Bool
  pd : Bool
  load : Bool
  sub : Bool
  deriving DecidableEq, Repr

/-- The shape of a memory port (Table 08.1). -/
inductive BmShape
  | s72
  | s36
  | s18
  | s9
  deriving DecidableEq, Repr

/-- What a port's output shows on a write (R224). -/
inductive WriteMode
  | readFirst
  | writeFirst
  | noChange
  deriving DecidableEq, Repr

/-- The mode of a memory's queue controller (Table 08.4). -/
inductive QueueMode
  | none
  | sync
  | channelIn
  | channelOut
  | cascadeMember
  deriving DecidableEq, Repr

/-- The configuration of one block memory (R221, R224, R233, R236). -/
structure MemCfg where
  ecc : Bool
  lent : Bool
  shapeA : BmShape
  shapeB : BmShape
  modeA : WriteMode
  modeB : WriteMode
  outRegA : Bool
  outRegB : Bool
  queue : QueueMode
  fwft : Bool
  cascade : Fin 5
  ae : Nat
  af : Nat
  deriving DecidableEq, Repr

/-- An access of a zone-logic port to a block memory at a zone edge (R223, R231): a write with its data, byte
write enables and W_POISON, or a read; `addr` is the word address of the port's shape. -/
structure BmAccess where
  write : Bool
  addr : BitVec 12
  data : BitVec 72
  lanes : BitVec 8
  poison : Bool
  deriving DecidableEq, Repr

/-- The configuration of one I/O pin (Table 20.4, IOB_PIN_CFG, and its delay taps). -/
structure PinCfg where
  dir : Fin 4
  term : Fin 4
  oeDdr : Bool
  omode : Fin 4
  imode : Fin 4
  std : Fin 32
  outTap : Fin 512
  inTap : Fin 512
  outInit : Bool
  oeInit : Bool
  deriving DecidableEq, Repr

/-- What reaches one pin of the zone's bank at a zone edge (R522, R523): the output bits D (SDR bit 0; DDR bits 0
and 1; SER4 all), the output-enable bits, the pad's bits (bit 0 at the rising edge, in DDR bit 1 at the falling
edge before it, in SER4 the four bits received, oldest first) and SLIP. -/
structure IoIn where
  pin : Fin 48
  d : BitVec 4
  oe : BitVec 2
  sample : BitVec 4
  slip : Bool
  deriving DecidableEq, Repr

/-- What zone logic and the pads present at one rising zone edge: the inputs of cells, slices and pins (one that
is not listed has all inputs 0), O_VALID of the endpoints that accepted no token at this edge, EV_TAKE, and XB_OUT
and XB_OE of the zone's crossbar port (R537). -/
structure EdgeIn where
  cells : List CellIn
  slices : List SliceIn
  ios : List IoIn
  oValid : BitVec 16
  evTake : Bool
  xbOut : BitVec 16
  xbOe : BitVec 16
  deriving DecidableEq, Repr

/-- What the tools' frames of one zone plane mean to the hardware. The manual gives the bits of these
frames only in part (R380: their contents are produced by the tools), so this meaning arrives with the job
that writes the frames (assumption log 6). The parts whose bits the manual does give (MEM_INIT frames,
boundary records, the OWN bit) are read from the stored frames. -/
structure Image where
  refClk : Bool
  div : Nat
  routes : List (Nat × Route)
  ins : List (Nat × ChanSrc)
  cells : List (Nat × CellCfg)
  slices : List (Nat × SliceCfg)
  mems : List (Nat × MemCfg)
  pins : List (Nat × PinCfg)
  vccio : Fin 4
  deriving DecidableEq, Repr

/-- An image that connects and uses nothing: root clock at divider 16. -/
def Image.blank : Image :=
  { refClk := false, div := 16, routes := [], ins := [], cells := [], slices := [],
    mems := [], pins := [], vccio := 3 }

/-- A flash's directory as the port reads it: the primary copy and the copy at 0x0001_0000 (Table 13.3), each from
its first byte. -/
structure FlashDir where
  primary : List Byte
  copy : List Byte
  deriving DecidableEq, Repr

/-- What the bring-up of a fabric die finds: the failing wires of each path of its bridge (R29), and its flash as the
port reads it (R369, R370): the primary directory copy in 1-1-1, and the header read again in 8D-8D-8D (none where the
switch is not made). -/
structure DieUp where
  wires0 : BitVec 8
  wires1 : BitVec 8
  wires2 : BitVec 8
  wires3 : BitVec 8
  dir : List Byte
  again : Option (List Byte)
  deriving DecidableEq, Repr

/-- What the bring-up of each of the four fabric dies finds. -/
structure DiesUp where
  d1 : DieUp
  d2 : DieUp
  d3 : DieUp
  d4 : DieUp
  deriving DecidableEq, Repr

/-- No failing wire and a flash that gives nothing. -/
def DieUp.blank : DieUp := { wires0 := 0, wires1 := 0, wires2 := 0, wires3 := 0, dir := [], again := none }

/-- Nothing found at any die. -/
def DiesUp.blank : DiesUp := { d1 := DieUp.blank, d2 := DieUp.blank, d3 := DieUp.blank, d4 := DieUp.blank }

/-- The same but for die `die` (1 to 4). -/
def DiesUp.set (u : DiesUp) (die : Nat) (up : DieUp) : DiesUp :=
  if die = 1 then { u with d1 := up } else if die = 2 then { u with d2 := up }
  else if die = 3 then { u with d3 := up } else { u with d4 := up }

/-- What the bring-up of die `die` (1 to 4) finds. -/
def DiesUp.die (u : DiesUp) (die : Nat) : DieUp :=
  if die = 1 then u.d1 else if die = 2 then u.d2 else if die = 3 then u.d3 else u.d4

/-- The commands: one constructor per row of the table, in its order. -/
inductive Instr
  /-- POR_ASSERT (R42): VCCP or VCCAUX falls below its threshold, so POR is asserted and the pad clamp holds every pin. -/
  | porAssert (aux : Bool)
  /-- POR_RELEASE (R42): Once VCCP and VCCAUX have stayed good for 100 to 300 µs, POR is released and reset and start-up can begin. -/
  | porRelease (unstable : Bool)
  /-- BROWNOUT_P (R112): VCCP stays below 0.755 V for 1 µs without POR, which is recognised as a device reset source. -/
  | brownoutP
  /-- RST_N_FALL (R128): RST_N goes low and the pad clamp disables outputs at once, without MCK. -/
  | rstNFall
  /-- RST_N_RESET (R112): After four consecutive low samples of RST_N, the RST_N device reset is recognised. -/
  | rstNReset
  /-- RST_N_RISE (R113): RST_N returns high; if the low period was shorter than 4 samples, the clamp ends and CLAMP_SEEN is set. -/
  | rstNRise
  /-- RST_N_RELEASE (R112): After 16 consecutive high samples following an RST_N reset, start-up begins at step 1. -/
  | rstNRelease (unstable : Bool)
  /-- VCCINT_FALL (R119): VCCINT stays below 0.705 V for 1 µs; an unclocked latch holds the brown-out pending and the fabric pads are clamped. -/
  | vccintFall
  /-- BROWNOUT_INT (R118): At the first MCK edge after a VCCINT fall, the fabric dies are reset while the P-die runs on, and they are later brought up again. -/
  | brownoutInt (ups : DiesUp)
  /-- VCCINT_GOOD (R139): VCCINT becomes good, for example after step 7 of start-up, which starts the late bring-up of the fabric dies. -/
  | vccintGood (ups : DiesUp)
  /-- PAD_SUPPLY_FALL (R44): A pad supply or lane supply falls from good to not good; the local detector disables the outputs and the supply latch is set. -/
  | padSupplyFall (p : PadSupply)
  /-- WDOG_WARN (R127): The watchdog count reaches half of WDOG_TICKS and WDOG_WARN is raised. -/
  | wdogWarn
  /-- WATCHDOG_EXPIRE (R127): The watchdog count reaches 0 and a WATCHDOG device reset occurs. -/
  | watchdogExpire
  /-- RS_WDOG_KICK (R126): A write of 0x6B1C to RS_WDOG_KICK reloads the watchdog; any other value is refused. -/
  | rsWdogKick (value : BitVec 16)
  /-- RS_CMD_DEVICE (R117): A write of RS_CMD.DEVICE with key 0xC3 requests a COMMAND reset; any other key is refused. -/
  | rsCmdDevice (key : BitVec 8)
  /-- COMMAND_RESET (R117): When MCS_N rises at the end of the frame carrying an accepted RS_CMD.DEVICE, the COMMAND reset takes effect. -/
  | commandReset
  /-- OPTION_READ (R96): The option-read step waits for any running ORM commit, scans the status cells, and selects and applies an option slot. -/
  | optionRead (refsel : Bool)
  /-- OSC_STABLE (R153): The reference passes its stability test; the loops start, and the suspect-key check runs if needed. -/
  | oscStable
  /-- OSC_START_TIMEOUT (R135): The oscillator is not stable within 20 ticks, so OSC_FAIL is raised and the device enters MGMT_ONLY. -/
  | oscStartTimeout
  /-- OSC_FAIL (R154): The stable reference fails for 1 µs, judged by an unclocked timer, with the effects of R155. -/
  | oscFail
  /-- OSC_RESTART (R156): A CK_CMD.OSC_RESTART command restarts a failed reference and reruns its stability test. -/
  | oscRestart
  /-- ROOT_LOCK (R163): The root loop locks, ROOT_RELOCK is raised and the service domains return to root ÷ 16. -/
  | rootLock
  /-- ROOT_LOCK_TIMEOUT (R136): The root loop misses its 200 µs lock limit; it reads FAILED and the dies run on the reference. -/
  | rootLockTimeout (ups : DiesUp)
  /-- SLAVE_LOCK (R160): A slave loop locks and loads the die's copy of machine time from the P-die. -/
  | slaveLock (die : Die) (up : DieUp)
  /-- SLAVE_LOCK_TIMEOUT (R136): A slave loop misses its 100 µs limit; SLAVE_UNLOCK is raised and its die runs on the reference. -/
  | slaveLockTimeout (die : Die) (up : DieUp)
  /-- EPOCH_DECLARED (R170): The alignment epoch is declared at a multiple of 16 at least 64 root cycles after the last taking-part loop locks. -/
  | epochDeclared (ups : DiesUp)
  /-- ROOT_UNLOCK (R161): The root loop loses lock and enters holdover; zone policies act and swaps before S are abandoned. -/
  | rootUnlock
  /-- SLAVE_UNLOCK (R161): A slave loop loses lock and enters holdover, and its zones' policies act. -/
  | slaveUnlock (die : Die)
  /-- HOLDOVER_EXPIRE (R162): A loop has not relocked after 500 µs of holdover, so it gates its output and reacquires. -/
  | holdoverExpire (l : LoopId)
  /-- CK_RELOCK (R166): CK_CMD.RELOCK gates the root, applies the new MULT, reacquires the loops and declares a new epoch. -/
  | ckRelock
  /-- CK_MT_LO_READ (R169): A read of CK_MT_LO captures CK_MT_HI for the next read of CK_MT_HI. -/
  | ckMtLoRead
  /-- ROOT_MON_UPDATE (R191): Every 10 µs of reference time, CK_ROOT_MON takes the count of root cycles. -/
  | rootMonUpdate
  /-- ZN_CLK_GO (R180): ZN_CLK_CTL.GO starts a stop-switch-restart of the zone clock after its next edge. -/
  | znClkGo (z : ZoneId) (ref : Bool) (div : BitVec 13)
  /-- ZN_CLK_RAMP (R182): ZN_CLK_CTL.RAMP starts a ramped change of the zone divider. -/
  | znClkRamp (z : ZoneId) (ref : Bool) (div : BitVec 13)
  /-- ZONE_CLK_RESTART (R180): A switching zone clock restarts at t_r; GAP and LOST are written and ZONE_CLK_SWITCH_DONE is raised. -/
  | zoneClkRestart (z : ZoneId)
  /-- RAMP_DIVIDER_STEP (R182): After DWELL zone cycles the ramp moves the divider by STEP, or makes its final stop-switch-restart. -/
  | rampDividerStep (z : ZoneId)
  /-- RIDE_LIMIT_EXPIRE (R186): A riding zone reaches RIDE_LIMIT without relock and acts as THEN selects. -/
  | rideLimitExpire (z : ZoneId)
  /-- ZONE_POLICY_RESTART (R186): A zone held or fallen back restarts aligned on the root after its loop relocks. -/
  | zonePolicyRestart (z : ZoneId)
  /-- FLIPFLOP_ASYNC_SR (R197): An asynchronous SR input asserts and forces the flip-flop to SRVAL without a zone edge. -/
  | flipflopAsyncSr (z : ZoneId) (cell : Fin 20480) (ff1 : Bool)
  /-- CHANNEL_TOKEN_ACCEPT (R208): An outbound endpoint accepts a token offered with O_VALID while O_READY is 1. -/
  | channelTokenAccept (z : ZoneId) (ep : Fin 16) (token : BitVec 36)
  /-- CHANNEL_TOKEN_LAND (R210): A token lands in an inbound buffer or a CHANNEL_IN queue and is captured by the synchroniser. -/
  | channelTokenLand (z : ZoneId) (ep : Fin 16) (near : Bool)
  /-- CHANNEL_TOKEN_DELIVER (R209): An inbound endpoint delivers its oldest token on I_TAKE. -/
  | channelTokenDeliver (z : ZoneId) (ep : Fin 16)
  /-- PACE_WINDOW_END (R219): At the end of each 1 µs window the pace registers update and LOW may latch. -/
  | paceWindowEnd (die : Die) (q0 q1 q2 q3 : BitVec 16)
  /-- DR_PACE_CLR_MIN (R220): A write of DR_PACE_CTL.CLR_MIN resets DR_PACE_MIN to 0xFFFF. -/
  | drPaceClrMin (die : Die)
  /-- BM_PORT_ACCESS (R223): A zone-logic block memory port performs a read or a write at a zone edge. -/
  | bmPortAccess (z : ZoneId) (mem : Fin 48) (a b : Option BmAccess)
  /-- ECC_FLIP_ARM (R337): ECC_FLIP_CTL.ARM arms the flip mask for the next write to the selected store. -/
  | eccFlipArm (u : EccUnit)
  /-- QUEUE_ZONE_ACCESS (R239): Zone logic writes or reads a queue; the flags update, and OVERFLOW or UNDERFLOW may latch. -/
  | queueZoneAccess (z : ZoneId) (queue : Fin 48) (write : Bool) (din : BitVec 72) (poison read : Bool)
  /-- ZN_QC_THRESH_WRITE (R244): New AE and AF thresholds are written and judged together. -/
  | znQcThreshWrite (z : ZoneId) (ae : BitVec 15) (af : BitVec 15)
  /-- REQUEST_ISSUE (R275): An initiator port issues a request; the stop checks the destination and class, or answers at once. -/
  | requestIssue (who : Initiator) (req : Request)
  /-- REQUEST_LAUNCH (R293): A waiting request obtains a tag and a reorder entry and is launched onto the ring. -/
  | requestLaunch (who : Initiator)
  /-- RING_HOP (R273): A stop, hub or bridge takes in a unit, checks the header and forwards it, decrementing HOPS. -/
  | ringHop (node : RingNode) (flip : Unit128)
  /-- BRIDGE_PARITY_ERROR (R31): A unit crosses a bridge with a parity error; it is poisoned, counted and forwarded in place. -/
  | bridgeParityError (die : Die) (path : Fin 4) (units : BitVec 17)
  /-- BRIDGE_STALL_FATAL (R32): A bridge path with a waiting unit makes no progress for STALL_US, which is a fatal failure. -/
  | bridgeStallFatal (die : Die) (path : Fin 4)
  /-- BR_CLR_CNT (R31): A write of BR_CTL.CLR_CNT clears BR_ERR_CNT. -/
  | brClrCnt (die : Die)
  /-- TARGET_TAKE (R279): A target stop takes a request packet from its input buffer, alternating directions and ending any lane stall. -/
  | targetTake (t : StopId)
  /-- RING_RD (R256): A target serves an RD request and returns RDR data, status and side bits. -/
  | ringRd (t : StopId) (k : Nat) (reply : PortReply)
  /-- RING_WR (R266): A target accepts a posted WR and returns a WRR on acceptance. -/
  | ringWr (t : StopId) (k : Nat) (reply : PortReply)
  /-- RING_WRN (R266): A target performs a non-posted WRN and returns a WRR. -/
  | ringWrn (t : StopId) (k : Nat) (reply : PortReply)
  /-- RING_AADD (R284): A target performs a 64-bit atomic add and returns the old value in an ATR. -/
  | ringAadd (t : StopId) (k : Nat) (reply : PortReply)
  /-- RING_ASWP (R265): A target performs a 64-bit atomic swap and returns the old value in an ATR. -/
  | ringAswp (t : StopId) (k : Nat) (reply : PortReply)
  /-- RING_FENCE (R271): A FENCE from a port stops later issue at the stop until earlier requests are answered. -/
  | ringFence (who : Initiator) (cls : Fin 4)
  /-- FENCE_COMPLETE (R271): Every request the FENCE waits on has been answered, so the stop returns FNR and resumes issuing. -/
  | fenceComplete (who : Initiator)
  /-- RING_EVT (R513): A zone stop receives an EVT and passes it to the zone's event port, or discards it. -/
  | ringEvt (t : StopId) (k : Nat) (near : Bool)
  /-- RING_CFG (R382): A zone stop stores a CFG frame from stop 96 of its own die, with check bytes and CRC. -/
  | ringCfg (t : StopId) (k : Nat) (reply : PortReply)
  /-- RING_MSG (R266): A zone's user target port accepts a posted MSG and returns a WRR. -/
  | ringMsg (t : StopId) (k : Nat) (reply : PortReply)
  /-- RING_RDR (R294): An RDR response arrives at its initiator stop and is held or delivered in order. -/
  | ringRdr (who : Initiator)
  /-- RING_WRR (R266): A WRR arrives at its initiator stop; it is consumed for posted writes or delivered for WRN. -/
  | ringWrr (who : Initiator)
  /-- RING_ATR (R294): An ATR response arrives at its initiator stop and is held or delivered in order. -/
  | ringAtr (who : Initiator)
  /-- RESPONSE_DELIVER (R297): A held response is delivered to its port once the ordering rules allow it. -/
  | responseDeliver (who : Initiator)
  /-- ORDER_HOLD_LIMIT (R296): A response has been held longer than the HOLD limit, so ORDER_HOLD is raised and recorded. -/
  | orderHoldLimit (who : Initiator) (k : Fin 1024)
  /-- TIMEOUT_EXPIRE (R289): A request timer expires and the stop synthesises a status 2 response in place of the missing one. -/
  | timeoutExpire (who : Initiator) (tag : Fin 1024)
  /-- TAG_QUARANTINE_END (R292): A quarantined tag is freed 1 s after expiry. -/
  | tagQuarantineEnd (who : Initiator) (tag : Fin 1024)
  /-- TARGET_DEAD (R301): A target has taken no request, or given no response, for DR_ISO_TIME, so its stop isolates as DEAD. -/
  | targetDead (t : StopId)
  /-- DR_ISO_RELEASE (R305): DR_ISO_CTL.RELEASE releases a DEAD-isolated stop and writes a RELEASED record. -/
  | drIsoRelease (die : Fin 5)
  /-- ZN_RESET_GO (R306): ZN_RESET_CTL.GO starts a zone reset alone with a drain. -/
  | znResetGo (z : ZoneId) (force : Bool)
  /-- ZONE_RESET_DRAINED (R307): The zone is drained; it is isolated, reset, released zone-locally and its stop is released. -/
  | zoneResetDrained (z : ZoneId)
  /-- ZONE_RESET_DRAIN_LIMIT (R308): ZN_DRAIN_LIMIT expires; the reset is abandoned, or forced when FORCE is 1. -/
  | zoneResetDrainLimit (z : ZoneId)
  /-- ZONE_RESET_CLOCK_RESUME (R309): A zone reset waiting at step 3 for a held or gated clock continues when the clock runs. -/
  | zoneResetClockResume (z : ZoneId)
  /-- CULLET_RECORD_FORWARD (R317): A fabric die sends a buffered record from stop 96 to the Cullet as a class 3 WR. -/
  | culletRecordForward (die : Die)
  /-- REFUSAL_FORWARD (R632): A fabric die sends a queued refusal record to the management unit, freeing a queue entry so held writes can proceed. -/
  | refusalForward (die : Die)
  /-- CUL_SEL_WRITE (R318): A write of CUL_SEL captures the named record into CUL_E0 to CUL_E5. -/
  | culSelWrite (index : BitVec 8)
  /-- CUL_CLEAR (R318): CUL_CTL.CLEAR empties the log and sets CUL_NEXT to 0. -/
  | culClear
  /-- MLINK_NOP (R79): A NOP frame gives the device MCK cycles and does nothing else. -/
  | mlinkNop (addr : BitVec 32) (count : BitVec 16) (crc : BitVec 16)
  /-- MLINK_RD (R64): An RD frame reads consecutive words from P-die registers or the ORM window. -/
  | mlinkRd (addr : BitVec 32) (count : BitVec 16) (crc : BitVec 16)
  /-- MLINK_WR (R65): A WR frame writes consecutive P-die register words in ascending address order. -/
  | mlinkWr (addr : BitVec 32) (count : BitVec 16) (payload : List Byte) (crc : BitVec 16)
  /-- MLINK_RDW (R71): An RDW frame issues a class 3 ring read through the window and sends wait tokens until the response is present. -/
  | mlinkRdw (addr : BitVec 32) (count : BitVec 16) (crc : BitVec 16)
  /-- MLINK_WRW (R72): A WRW frame issues a class 3 non-posted ring write through the window. -/
  | mlinkWrw (addr : BitVec 32) (count : BitVec 16) (payload : List Byte) (crc : BitVec 16)
  /-- MLINK_STAT (R64): A STAT frame returns HL_STATUS and then MG_SUPPLY. -/
  | mlinkStat (addr : BitVec 32) (count : BitVec 16) (crc : BitVec 16)
  /-- MLINK_EVT (R68): An EVT frame with address 0 returns a snapshot of the 128 event latches. -/
  | mlinkEvt (addr : BitVec 32) (count : BitVec 16) (crc : BitVec 16)
  /-- MLINK_EVT_CLEAR (R68): An EVT frame with address 1 returns the snapshot and clears every latch set in it. -/
  | mlinkEvtClear (count : BitVec 16) (crc : BitVec 16)
  /-- MLINK_SHORT_FRAME (R78): MCS_N rises before the last request byte, so the frame is discarded and HL_SHORT_CNT increments. -/
  | mlinkShortFrame
  /-- MLINK_ABANDON (R75): MCS_N rises before the ready token of a ring access, which abandons it in order. -/
  | mlinkAbandon
  /-- MLINK_RING_REPLY (R73): The ring response reaches stop 1 and the device sends the ready token, status and data. -/
  | mlinkRingReply
  /-- MANAGEMENT_TICK (R80): MG_MCK_HZ ÷ 1,000 MCK cycles elapse, giving one management tick. -/
  | managementTick
  /-- MCK_LOST (R84): The armed detector sees no MCK edge for LOSS_US, latches LOST and raises MCK_RANGE without MCK. -/
  | mckLost
  /-- MCK_SAFE_RELEASE (R86): A write of 1 to SAFE_ACTIVE returns the pins to their configured sources. -/
  | mckSafeRelease
  /-- MCK_RATE_MEASURE (R85): Each ms of reference time MG_MCK_MEAS is updated, and an off-rate is latched. -/
  | mckRateMeasure (khz : BitVec 16)
  /-- ORM_COMMIT (R97): ORM_CMD.GO starts a page commit on the reference timebase, or is refused. -/
  | ormCommit (page : BitVec 8)
  /-- ORM_COMMIT_DONE (R99): The page write ends, the status cell is marked DONE and ORM_WRITE_DONE is raised. -/
  | ormCommitDone
  /-- RUN_HOURS_TICK (R108): Each 3,600 s of reference time requests an increment of the RUN_HOURS counter. -/
  | runHoursTick
  /-- LIFETIME_COUNTER_WRITE (R108): Once the engine is free, it writes the next counter cell with the summed delta, erasing the page first if needed. -/
  | lifetimeCounterWrite (counter : Fin 3)
  /-- DIE_LIMIT_EXPIRE (R138): RS_DIE_LIMIT expires and every die not yet ready fails with its reason. -/
  | dieLimitExpire
  /-- DIESET_POLICY_APPLY (R140): Once every die is ready or failed, the die-set policy decides release, STALLED or MGMT_ONLY. -/
  | diesetPolicyApply
  /-- RELEASE_GOE (R146): Step 10 enables outputs for every released die, subject to HOLD_GOE. -/
  | releaseGoe
  /-- RELEASE_GWE (R147): After the spacing, and subject to HOLD_GWE, write enables are turned on. -/
  | releaseGwe
  /-- RELEASE_GRR (R149): After the spacing, and subject to HOLD_GRR, resets are released and RELEASE_DONE is raised. -/
  | releaseGrr
  /-- CMP_BURST_FAIL (R368): No DQS edge arrives within 32 clocks; the burst is retried once, then the job fails with FLASH. -/
  | cmpBurstFail (die : Die)
  /-- CMP_REINIT (R369): CMP_CMD.REINIT reinitialises the flash port. -/
  | cmpReinit (die : Die) (dir : List Byte) (again : Option (List Byte))
  /-- CMP_PT_OPEN (R390): CMP_PT_CTL.OPEN opens or closes a pass-through session to the flash. -/
  | cmpPtOpen (die : Die) (on : Bool)
  /-- CMP_PT_CMD (R390): CMP_PT_CMD.GO sends one pass-through command to the flash. -/
  | cmpPtCmd (die : Die) (read : Bool) (dummy : BitVec 5) (addrLen : BitVec 2) (len : BitVec 9) (op : BitVec 8)
  /-- CMP_PT_CMD_DONE (R390): A pass-through command completes and its read data fills CMP_PT_DATA. -/
  | cmpPtCmdDone (die : Die) (data : List Byte)
  /-- GTH_STAGE_KEY (R385): GTH_CMD STAGE_KEY starts a job that stages every ZONE entry of GTH_KEY. -/
  | gthStageKey (die : Die)
  /-- GTH_STAGE_ENTRY (R385): GTH_CMD STAGE_ENTRY starts a job that stages one directory entry. -/
  | gthStageEntry (die : Die) (entry : BitVec 11) (dir : FlashDir)
  /-- GTH_ABORT (R388): GTH_CMD ABORT ends the running job with error ABORTED at a frame boundary. -/
  | gthAbort (die : Die)
  /-- GATHER_SEGMENT_READ (R378): A buffered segment is authenticated and its frames are committed, or the job fails. -/
  | gatherSegmentRead (die : Die) (seg : List Byte) (bad : Bool)
  /-- GAF_CONFIRM (R418): GAF_CMD CONFIRM swaps the changeover set when the Gaffer is READY. -/
  | gafConfirm
  /-- GAF_SWAP (R396): GAF_CMD SWAP checks and starts a swap of the set in GAF_SET0 to GAF_SET7. -/
  | gafSwap
  /-- GAF_CANCEL (R418): GAF_CMD CANCEL aborts the changeover with cause CANCELLED. -/
  | gafCancel
  /-- SWAP_ZONE_DRAINED (R400): A swapping zone is drained, isolated with cause SWAP and reported to the Gaffer. -/
  | swapZoneDrained (z : ZoneId)
  /-- SWAP_DRAIN_LIMIT (R401): A zone reaches ZN_DRAIN_LIMIT; the swap is abandoned, or forced when FORCE is 1. -/
  | swapDrainLimit (z : ZoneId)
  /-- SWAP_SWITCH_EDGE (R404): At edge S the channels freeze, pins hold and the planes are exchanged. -/
  | swapSwitchEdge
  /-- SWAP_MEM_INIT_DONE (R408): Memory initialisation of an initialising plane ends and the zone-local release begins. -/
  | swapMemInitDone (z : ZoneId)
  /-- SWAP_ZONE_RELEASED (R410): A zone's GRR completes, its stop is released and SWAP_DONE is raised after the last zone. -/
  | swapZoneReleased (z : ZoneId)
  /-- GAF_LOOKUP_START (R413): The Gaffer starts LOOKUP for an insertion, after PW_WAKE or once the current changeover ends. -/
  | gafLookupStart
  /-- GAF_LOOKUP_DONE (R413): The directories have been read; the Gaffer sets the changeover set and stages, aborts, or is READY at once. -/
  | gafLookupDone (d1 d2 d3 d4 : FlashDir)
  /-- GAF_STAGE_RETRY (R414): At each tick a refused STAGE_ENTRY is retried until GAF_RETRY runs out, then the changeover aborts. -/
  | gafStageRetry
  /-- LEHR_SLOT (R422): A Lehr slot recurs and the next frame check starts by a class 1 read. -/
  | lehrSlot (die : Die)
  /-- LEHR_FRAME_JUDGED (R425): A frame read returns; it is judged CLEAN, CORRECTED or UNCORRECTABLE and then acted on. -/
  | lehrFrameJudged (die : Die)
  /-- LEHR_VERIFY_START (R436): With the Gather idle, verification of a VERIFYING plane starts or resumes. -/
  | lehrVerifyStart (die : Die)
  /-- LEHR_REFETCH_START (R431): With the Gather idle, the next PENDING bad-list entry starts a refetch. -/
  | lehrRefetchStart (die : Die)
  /-- LEHR_REFETCH_DONE (R430): A refetch commits and rechecks its frame, and clears the entry or fails with an error. -/
  | lehrRefetchDone (die : Die) (segments : List (List Byte))
  /-- LHR_CMD_VERIFY (R437): LHR_CMD VERIFY checks a PARISON shadow plane once. -/
  | lhrCmdVerify (die : Die) (zone : Fin 64)
  /-- LHR_CMD_REFETCH (R431): LHR_CMD REFETCH requests a refetch of the frame in LHR_CMD_FA. -/
  | lhrCmdRefetch (die : Die)
  /-- LHR_CMD_RELEASE (R433): LHR_CMD RELEASE ends a Lehr hold and restarts the zone aligned. -/
  | lhrCmdRelease (die : Die) (zone : Fin 64) (force : Bool)
  /-- LHR_CMD_READBACK (R438): LHR_CMD READBACK reads a stored frame raw into the readback registers when the right is in force. -/
  | lhrCmdReadback (die : Die)
  /-- KS_LOAD (R443): KS_CMD LOAD stores a plaintext key and its attributes in a BK slot. -/
  | ksLoad (slot : BitVec 5) (defer : Bool)
  /-- KS_LOAD_WRAPPED (R446): KS_CMD LOAD_WRAPPED unwraps a key under WRAP_SLOT and stores it, or defers it. -/
  | ksLoadWrapped (slot : BitVec 5) (defer : Bool) (wrapSlot : BitVec 5)
  /-- KS_ERASE (R451): KS_CMD ERASE zeroises a BK slot and every working copy, and the holders fail with KEY_LOST. -/
  | ksErase (slot : BitVec 5)
  /-- KS_REVOKE (R453): KS_CMD REVOKE blows an FK slot's revoke fuse. -/
  | ksRevoke (slot : BitVec 5)
  /-- KS_FUSE_PROG (R447): KS_CMD FUSE_PROG programs an FK slot's key and attributes into fuses. -/
  | ksFuseProg (slot : BitVec 5)
  /-- KS_CANCEL_DEFER (R450): KS_CMD CANCEL_DEFER discards the pending deferred rewrite. -/
  | ksCancelDefer
  /-- KS_FUSE_OP_DONE (R447): A FUSE_PROG or REVOKE completes on the reference timebase. -/
  | ksFuseOpDone
  /-- TRNG_BLOCK (R456): 512 samples are conditioned into 256 output bits and enter the FIFO. -/
  | trngBlock (samples : BitVec 512)
  /-- TRNG_DATA_READ (R456): A read of TRNG_DATA pops the oldest word, or returns 0 and latches EMPTY_READ. -/
  | trngDataRead
  /-- TRNG_RESTART (R457): TRNG_CTL.RESTART reruns the start test after a failure. -/
  | trngRestart
  /-- TRNG_START_TEST_DONE (R455): 1,024 samples pass both health tests and output is enabled. -/
  | trngStartTestDone (samples : BitVec 1024)
  /-- VBAT_CROSSING (R459): VBAT crosses a comparator threshold for 1 µs; the live bits and KEEP_LATCH update. -/
  | vbatCrossing (which : Fin 5) (above : Bool)
  /-- GAUGE_QUANTUM (R460): Each 1 µC drawn from VBAT decrements BG_CHARGE, or increments BG_OVERDRAW at 0. -/
  | gaugeQuantum
  /-- BG_CHARGE_WRITE (R462): A write of BG_CHARGE or BG_LOW stores the value and re-evaluates the battery state. -/
  | bgChargeWrite (low : Bool) (v : BitVec 32)
  /-- LC_TRANSITION (R470): LC_CMD TRANSITION with key 0x9D starts a life-cycle transition or its retry. -/
  | lcTransition (target : BitVec 3) (key : BitVec 8)
  /-- LC_PROG_DEBUG_HASH (R468): LC_CMD PROG_DEBUG_HASH programs the DEBUG_HASH fuse row. -/
  | lcProgDebugHash (key : BitVec 8)
  /-- LC_PROG_CFG_HASH (R468): LC_CMD PROG_CFG_HASH programs the CFG_HASH fuse row. -/
  | lcProgCfgHash (key : BitVec 8)
  /-- LC_ADVANCE_GEN (R469): LC_CMD ADVANCE_GEN blows GEN bit G. -/
  | lcAdvanceGen (key : BitVec 8)
  /-- LC_TRANSITION_COMPLETE (R471): A transition's fuse and journal steps end; the journal is written DONE and an LC_DONE reset follows. -/
  | lcTransitionComplete (weak : Unit128)
  /-- DA_CERT (R479): DA_CMD CERT judges a debug certificate and grants its rights or rejects it. -/
  | daCert
  /-- DA_CHALLENGE (R480): DA_CMD CHALLENGE issues a challenge with a TRNG nonce. -/
  | daChallenge
  /-- DA_RESPONSE (R482): DA_CMD RESPONSE judges a vendor response against the open nonce. -/
  | daResponse
  /-- NONCE_EXPIRE (R481): An open nonce closes after 600,000 management ticks. -/
  | nonceExpire
  /-- TAP_EXTEST (R477): TAP instruction EXTEST selects the boundary register to drive pins, if BSCAN is in force. -/
  | tapExtest
  /-- TAP_SAMPLE_PRELOAD (R477): TAP instruction SAMPLE/PRELOAD selects the boundary register, if BSCAN is in force. -/
  | tapSamplePreload (v : List Bool)
  /-- TAP_IDCODE (R476): TAP instruction IDCODE returns 0x1524_09CB. -/
  | tapIdcode
  /-- TAP_DA_CERT (R479): TAP instruction DA_CERT submits a certificate at Update-DR. -/
  | tapDaCert (v : BitVec 1536)
  /-- TAP_DA_CHAL (R480): TAP instruction DA_CHAL issues a challenge at Capture-DR. -/
  | tapDaChal
  /-- TAP_DA_RESP (R482): TAP instruction DA_RESP submits a vendor response at Update-DR. -/
  | tapDaResp (v : BitVec 1152)
  /-- TAP_DA_STATUS (R477): TAP instruction DA_STATUS returns DA_STATUS. -/
  | tapDaStatus
  /-- TAP_RING (R477): TAP instruction RING carries ring requests from the TAP initiator, if RING_ACCESS is in force. -/
  | tapRing (v : Unit128)
  /-- TAP_PROBE (R477): TAP instruction PROBE samples zone signals, if FABRIC_PROBE is in force. -/
  | tapProbe
  /-- TAP_READBACK (R438): TAP instruction READBACK reads frames as LHR_CMD READBACK does, if the right is in force. -/
  | tapReadback (die : Die) (fa : BitVec 32)
  /-- TAP_SCAN (R477): TAP instruction SCAN accesses the manufacturing scan chains, if SCAN is in force. -/
  | tapScan
  /-- TAP_BYPASS (R477): TAP instruction BYPASS, or a denied or unlisted instruction, selects the 1-bit bypass register. -/
  | tapBypass
  /-- PW_ENTER_DOZE (R494): PW_CMD with target DOZE checks and starts entry, gating the zones in PW_DOZE_MASK. -/
  | pwEnterDoze
  /-- PW_ENTER_NAP (R494): PW_CMD with target NAP checks and starts entry, gating all zones. -/
  | pwEnterNap
  /-- PW_ENTER_SLUMBER (R494): PW_CMD with target SLUMBER checks and starts entry, gating zones and stopping the loops and lanes. -/
  | pwEnterSlumber
  /-- PW_ENTER_DORMANT (R486): PW_CMD with target DORMANT checks and starts entry, gating fabric VCCINT except retention. -/
  | pwEnterDormant
  /-- PW_WAKE_COMMAND (R499): PW_CMD with target RUN begins a wake from a low-power state. -/
  | pwWakeCommand
  /-- PW_DRAIN_DONE (R494): All affected zones are drained; at the commit point the zone clocks are gated and the entry runs on. -/
  | pwDrainDone
  /-- PW_DRAIN_LIMIT (R495): PW_DRAIN_LIMIT expires before the commit point, so the entry aborts with NOT_DRAINED. -/
  | pwDrainLimit
  /-- PW_STATE_REACHED (R494): The last entry step completes and the target power state is reached. -/
  | pwStateReached
  /-- DORMANT_GATE_CLOSED (R502): The fabric rail is re-powered after a DORMANT wake and the fabric bring-up runs as after BROWNOUT_INT. -/
  | dormantGateClosed (ups : DiesUp)
  /-- PW_WAKE_DONE (R503): The wake completes, PW_WAKE is raised and the state reads RUN. -/
  | pwWakeDone
  /-- EVENT_RAISE (R505): A source raises an event; it is latched, counted, queued for delivery and MIRQ_N is updated. -/
  | eventRaise (ev : Fin 128) (unit : BitVec 12) (payload : BitVec 32)
  /-- EVT_DELIVERY (R510): Stop 6 issues one EVT from the delivery queue for each subscribed zone, in order. -/
  | evtDelivery
  /-- EV_USER_RAISE (R514): A zone writes EV_USER_RAISE and raises USERn; any other writer is refused. -/
  | evUserRaise (who : Initiator) (user : BitVec 5)
  /-- POOL_STARVE_LIMIT (R349): A bank's stream port starves longer than PL_STARVE_LIMIT, so POOL_STARVE is raised and recorded. -/
  | poolStarveLimit (bank : Fin 32)
  /-- PL_BANK_OWNER_WRITE (R346): A write of PL_BANKn_OWNER requests a change of the bank's compute owner. -/
  | plBankOwnerWrite (bank : Fin 32) (owner : BitVec 5)
  /-- OWNER_CHANGE_EFFECT (R346): The bank's compute queue empties and the new owner takes effect. -/
  | ownerChangeEffect (bank : Fin 32)
  /-- PL_LINK_ENABLE (R356): A write of PL_LINK_CTL.EN enables or disables a compute link after its checks. -/
  | plLinkEnable (die : Die) (en : Bool)
  /-- LINK_REQUEST (R355): A compute link request goes to an owned bank's compute port, or is answered with status 5. -/
  | linkRequest (die : Die) (req : Request)
  /-- SMV_CH_ENABLE (R364): Setting SMV_CHc_CTL.EN starts a channel walking its descriptor list. -/
  | smvChEnable (ch : Fin 16)
  /-- SMV_CH_DISABLE (R364): Writing EN = 0 to a running channel stops it; it drains and reads IDLE with ABORTED. -/
  | smvChDisable (ch : Fin 16)
  /-- SMV_DESC_FETCHED (R359): A descriptor fetch returns and the descriptor is validated or refused. -/
  | smvDescFetched (ch : Fin 16)
  /-- SMV_CHUNK_READ_DONE (R360): A chunk's read data arrives and the chunk's write is issued. -/
  | smvChunkReadDone (ch : Fin 16)
  /-- SMV_CHUNK_WRITE_DONE (R361): A chunk's write receives its WRR. -/
  | smvChunkWriteDone (ch : Fin 16)
  /-- IOB_ENABLE (R527): A write of IOB_CTL.EN = 1 runs the bank enable check. -/
  | iobEnable (bank : Fin 32)
  /-- VCCIO_CLASS_CHANGE (R529): A bank's VCCIO class changes; a mismatch holds the bank and raises SUPPLY_WARN. -/
  | vccioClassChange (bank : Fin 32) (cls : Fin 5)
  /-- IO_CALIBRATION (R531): Every 100 µs the calibration engine rescales every bank's delay taps. -/
  | ioCalibration
  /-- IOB_DLY_WRITE (R532): A write of IOB_DLY sets new delay targets. -/
  | iobDlyWrite (bank : Fin 32) (out : Fin 512) (inp : Fin 512)
  /-- IO_DELAY_STEP (R532): Each reference cycle a moving delay advances one tap toward its target. -/
  | ioDelayStep (bank : Fin 32)
  /-- IOX_GROUP_ENABLE (R553): A write of IOX_GRPg_CTL.EN = 1 checks the group's maps and enables it. -/
  | ioxGroupEnable (who : Initiator) (group : Fin 8)
  /-- IOX_PIN_MAP_WRITE (R543): The owner writes IOX_PINn_MAP to route signals, subject to checks. -/
  | ioxPinMapWrite (who : Initiator) (pin : Fin 64) (inp outB outA : BitVec 8)
  /-- IOX_PIN_OWNER_WRITE (R545): A write of IOX_PINn_OWNER transfers a pin's ownership, or is refused. -/
  | ioxPinOwnerWrite (who : Initiator) (pin : Fin 64) (kind : BitVec 2) (unit : BitVec 12)
  /-- IOX_GEN_CFG_WRITE (R539): MLINK writes IOX_GENk_CFG, refused with BUSY while GENk is in use. -/
  | ioxGenCfgWrite (gen : Fin 64) (en defOe defVal dir : Bool) (zone : Fin 64)
  /-- IOX_FORCE_SAFE (R552): IOX_CTL.FORCE_SAFE forces every machine I/O pin to its safe state. -/
  | ioxForceSafe (on : Bool)
  /-- EVI_EDGE (R551): A selected edge on an event input raises MIO_EDGE. -/
  | eviEdge (k : Fin 16) (level : Bool)
  /-- MFE_ENC_ENABLE (R555): Setting an encoder channel's EN zeroes its position and starts counting. -/
  | mfeEncEnable (ch : Fin 8)
  /-- ENCODER_TRANSITION (R555): An A or B transition moves the encoder position; predictions, cam segments and outputs follow. -/
  | encoderTransition (ch : Fin 8) (a b : Bool)
  /-- ENCODER_Z_PULSE (R556): A rising Z latches ZPOS and may zero the position, per ZMODE. -/
  | encoderZPulse (ch : Fin 8)
  /-- SSI_POLL (R557): Every POLL µs an absolute channel starts an SSI frame. -/
  | ssiPoll (ch : Fin 8) (b : Bool)
  /-- SSI_FRAME_END (R557): An SSI frame ends; the position is updated, or SSI_FRAME or SSI_JUMP is faulted. -/
  | ssiFrameEnd (ch : Fin 8) (raw : BitVec 48) (b : Bool)
  /-- MFE_POS_LO_READ (R558): A read of MFE_ENCk_POS_LO captures POS_HI. -/
  | mfePosLoRead (ch : Fin 8)
  /-- MARK_EDGE (R559): An accepted mark edge is timestamped and ends, or feeds, the predictor. -/
  | markEdge (ch : Fin 8) (level : Bool)
  /-- MARK_CHANNEL_ENABLE (R567): Setting a mark channel's EN checks its fields and starts it in ACQUIRE. -/
  | markChannelEnable (ch : Fin 8)
  /-- STANDSTILL_WINDOW (R569): Each 1 ms window updates the standstill signal. -/
  | standstillWindow
  /-- CAM_ENABLE (R581): Setting CAM_ENGe_CTL.EN runs the engine enable check and starts the START segment. -/
  | camEnable (eng : Fin 16)
  /-- CAM_SEGMENT_FETCHED (R572): A segment fetch from the pool completes. -/
  | camSegmentFetched (eng : Fin 16)
  /-- CAM_SETPOINT_PERIOD (R578): Every PERIOD µs an engine evaluates and sends a set-point to its DEST. -/
  | camSetpointPeriod (eng : Fin 16)
  /-- ZN_EP_INJ_WRITE (R579): A set-point write to ZN_EP_INJk places one token in inbound endpoint Ik, or is refused. -/
  | znEpInjWrite (z : ZoneId)
  /-- PRESENCE_CHANGE (R589): The presence input changes level and the debounce restarts. -/
  | presenceChange (port : Fin 8) (level : Bool)
  /-- PRESENCE_DEBOUNCED (R589): A presence change holds for DEB_MS and the port changes state. -/
  | presenceDebounced (port : Fin 8)
  /-- DESCRIPTOR_READ_DONE (R592): A descriptor read ends; the cache fills and the port reaches READY or BAD. -/
  | descriptorReadDone (port : Fin 8) (reason : Fin 4) (bytes : BitVec 2048)
  /-- DESCRIPTOR_READ_RETRY (R591): DEB_MS after a failed read, the descriptor read is repeated once. -/
  | descriptorReadRetry (port : Fin 8)
  /-- BUS_STRETCH_TIMEOUT (R585): SCL stays low longer than 25 ms, so the transaction ends with BUS_STRETCH. -/
  | busStretchTimeout (port : Fin 8)
  /-- IDR_ADD (R597): IDR_CMD ADD adds IDR_DELTA to the port's PENDING. -/
  | idrAdd (port : Fin 8)
  /-- IDR_CNT_INIT (R600): IDR_CMD CNT_INIT rewrites every counter cell and sets the counter to IDR_DELTA. -/
  | idrCntInit (port : Fin 8)
  /-- IDR_WRITE (R604): IDR_CMD WRITE writes LEN bytes from IDR_BUF to the static part of the memory. -/
  | idrWrite (port : Fin 8) (len : BitVec 6) (addr : BitVec 8)
  /-- IDR_REREAD (R604): IDR_CMD REREAD reads the descriptor again. -/
  | idrReread (port : Fin 8)
  /-- IDR_PORT_ENABLE (R605): A write of IDR_PORTk_CFG.EN enables the port, or acts as a removal when set to 0. -/
  | idrPortEnable (port : Fin 8) (en : Bool)
  /-- COUNTER_CELL_WRITE_START (R597): With PENDING non-zero and the port idle and READY, the next counter cell write starts. -/
  | counterCellWriteStart (port : Fin 8)
  /-- EEPROM_POLL (R596): Every 100 µs the port polls the memory for acknowledge after a page write, until WR_MS. -/
  | eepromPoll (port : Fin 8) (ack expired : Bool)
  /-- CELL_WRITE_VERIFY (R598): The cell read-back completes and the write succeeds or fails. -/
  | cellWriteVerify (port : Fin 8) (reason : Fin 4) (data : BitVec 256)
  /-- LANE_ENABLE (R625): A write of LQ_LANEl_CTL.EN = 1 runs the lane enable check and starts the quad loop. -/
  | laneEnable (quad : Fin 24) (lane : Fin 4)
  /-- LANE_DISABLE (R610): A lane is disabled; the quad loop stops when its last lane is disabled. -/
  | laneDisable (quad : Fin 24) (lane : Fin 4)
  /-- QUAD_LOOP_LOCK (R610): The quad loop locks and its transmitters leave electrical idle. -/
  | quadLoopLock (quad : Fin 24)
  /-- CDR_LOCK (R614): A lane's CDR locks to the incoming signal and block lock starts hunting. -/
  | cdrLock (quad : Fin 24) (lane : Fin 4)
  /-- LANE_RX_BLOCK (R620): A received block's header is judged and the block is buffered, delivered or dropped. -/
  | laneRxBlock (quad : Fin 24) (lane : Fin 4) (hdr : BitVec 2) (payload : BitVec 64) (upset : BitVec 72) (hit : Bool)
  /-- LANE_TX_BLOCK_SLOT (R619): At each block slot the lane sends a formed block, an error block or an idle block. -/
  | laneTxBlockSlot (quad : Fin 24) (lane : Fin 4) (upset : BitVec 72)
  /-- LANE_SWEEP_GO (R624): LQ_LANEl_SWEEP_CTL.GO starts the PEAK sweep. -/
  | laneSweepGo (quad : Fin 24) (lane : Fin 4)
  /-- SWEEP_STEP (R624): A sweep measurement interval ends; the count is stored and the next PEAK is set, or the sweep ends. -/
  | sweepStep (quad : Fin 24) (lane : Fin 4)
  /-- TEMP_SAMPLE (R649): Every 100 µs the die temperatures are sampled and compared with WARN and the trip threshold. -/
  | tempSample (p f1 f2 f3 f4 : BitVec 8)
  /-- THERM_TRIP_CLEAR (R652): A write of 1 to TRIP clears it; safe states end and held zones restart aligned. -/
  | thermTripClear
  /-- REGISTER_WRITE (R7): A write to a register with no row of its own is stored field by field under its access codes. -/
  | registerWrite (who : Initiator) (unit : BitVec 12) (off : BitVec 12) (value : Word)
  /-- PAD_SUPPLY_GOOD (R129): A pad or lane supply (VCCIO, VMIO, VLANE, VLANET) becomes good again, so its pins enter phase B or their hold state and the quad loops reacquire. -/
  | padSupplyGood (p : PadSupply)
  /-- ZONE_EDGE (R196): At each rising zone clock edge the zone's flip-flops, arithmetic slices and I/O cell registers advance. -/
  | zoneEdge (z : ZoneId) (edge : EdgeIn)
  /-- MLINK_CMD_UNKNOWN (R64): An MLINK frame with a reserved command code is answered with CMD_UNKNOWN and accesses nothing. -/
  | mlinkCmdUnknown (code : BitVec 8) (addr : BitVec 32) (count : BitVec 16) (crc : BitVec 16)
  /-- TAP_TEST_LOGIC_RESET (R476): TRST_N or TMS puts the TAP in Test-Logic-Reset, which selects IDCODE and leaves the granted rights unchanged. -/
  | tapTestLogicReset
  /-- CDR_LOCK_LOST (R614): The received signal falls below 65 mVppd, so RX_IDLE reads 1 and the lane's CDR and block lock are lost. -/
  | cdrLockLost (quad : Fin 24) (lane : Fin 4)
  /-- PRBS_CHECK (R622): In PRBS mode the checker judges received bits, gains PRBS_LOCK after 128 agreeing bits, counts errors and drops lock after 64 errors in 1,024 bits. -/
  | prbsCheck (quad : Fin 24) (lane : Fin 4) (rx : BitVec 64)
  /-- MCK_RESUME (R79): MCK edges resume after a stop, and management work held waiting continues: swap step 3, power entry or wake steps, and pending TAP submissions. -/
  | mckResume
  /-- STREAM_HEADER_READ (R374): A Gather or refetch completes its directory and stream-header read and signature check, then accepts the header and holds the key slot, or ends with DIR_INVALID, NO_ENTRY, HDR_FORMAT, SIG_FAIL or KEY_UNUSABLE. -/
  | streamHeaderRead (die : Die) (refetch : Bool) (dir : FlashDir) (header : List Byte) (prefixes : List (BitVec 64)) (images : List (Fin 64 × Image))
  deriving DecidableEq, Repr

end Sys2Proof
end

