-- ==== Sys2Proof/Config.lean ====
section
/-! DEFINITION. What an implementation fixes and the manual leaves open: the free values. None has a
body, so no proof can see one. The first argument of a free value is the counter `Device.free` of the
state, read and advanced at each use, so that two uses are two unrelated values. -/

namespace Sys2Proof

/-- A 64-bit word that the manual leaves open (assumption log 3). -/
opaque Config.freeDword : Nat → BitVec 64
/-- A byte that the manual leaves open: a byte of a page whose erase or write was interrupted (R104),
a byte of a torn fuse row (R447) (assumption log 3). -/
opaque Config.freeByte : Nat → BitVec 8
/-- One of two outcomes that the manual leaves open (assumption log 3). -/
opaque Config.freeBool : Nat → Bool
/-- A number below a bound, where the manual states only the bound (assumption log 3). -/
opaque Config.freeNat : Nat → Nat

/-- The phase of the reference against the root: from a machine time, how far the next reference edge lies, modulo the
root cycles of a reference cycle. R173 fixes it nowhere (assumption log 3). -/
opaque Config.refPhase : Nat → Nat

/-- The vendor's debug public key (X then Y, 64 bytes as one number), which the manual does not give: a response
carries no key, and is judged under the key whose hash is VENDOR_HASH (Table 17.11). -/
opaque Config.vendorKey : Nat

end Sys2Proof
end

