-- ==== Sys2Proof/Machine/Flags.lean ====
section
/-! DEFINITION. The check computations: the (72,64) code of stored words (R319, R320, R325), the CRC-8 of
headers and counter cells (R261, R106), the CRC-16 of MLINK and frames (R61) and the CRC-32 of option slots
and descriptors (R92). All on numbers, by recursion on lists and counts. -/

namespace Sys2Proof.Machine

/-- The columns of H for d0 to d63 (Table 11.1). -/
def eccColumns : List Nat :=
  [0x07, 0x0B, 0x0D, 0x0E, 0x13, 0x15, 0x16, 0x19, 0x1A, 0x1C, 0x23, 0x25, 0x26, 0x29, 0x2A, 0x2C,
   0x31, 0x32, 0x34, 0x38, 0x43, 0x45, 0x46, 0x49, 0x4A, 0x4C, 0x51, 0x52, 0x54, 0x58, 0x61, 0x62,
   0x64, 0x68, 0x70, 0x83, 0x85, 0x86, 0x89, 0x8A, 0x8C, 0x91, 0x92, 0x94, 0x98, 0xA1, 0xA2, 0xA4,
   0xA8, 0xB0, 0xC1, 0xC2, 0xC4, 0xC8, 0xD0, 0xE0, 0x1F, 0x3E, 0x7C, 0xF8, 0xF1, 0xE3, 0xC7, 0x8F]

/-- The XOR of the columns whose data bit is 1. -/
def eccFold : List Nat → Nat → Nat
  | [], _ => 0
  | c :: r, d => if d % 2 = 1 then Nat.xor c (eccFold r (d / 2)) else eccFold r (d / 2)

/-- The check byte of 64 data bits (R319). -/
def eccCheck (data : Nat) : Nat := eccFold eccColumns (data % 2 ^ 64)

/-- The data bits of a codeword. -/
def cwData (w : Code72) : Nat := w.toNat % 2 ^ 64
/-- The check byte of a codeword: bit 64 + j is c_j. -/
def cwCheck (w : Code72) : Nat := w.toNat / 2 ^ 64

/-- A codeword from its data and check byte. -/
def cwOf (data check : Nat) : Code72 := BitVec.ofNat 72 (data % 2 ^ 64 + check % 256 * 2 ^ 64)

/-- The valid codeword of 64 data bits (R319). -/
def eccEncode (data : Nat) : Code72 := cwOf data (eccCheck data)

/-- The codeword of a word stored as poisoned: check bits XOR 0x7F (R325). -/
def eccPoison (data : Nat) : Code72 := cwOf data (Nat.xor (eccCheck data) 0x7F)

/-- A word stored with or without poison (R326, R327). -/
def eccStore (data : Nat) (poison : Bool) : Code72 := if poison then eccPoison data else eccEncode data

/-- The syndrome of a codeword (R320). -/
def eccSyndrome (w : Code72) : Nat := Nat.xor (eccCheck (cwData w)) (cwCheck w)

/-- How the checker judges a word (Table 11.2). -/
inductive Judged
  | good
  | corrected
  | uncorrectable
  deriving DecidableEq, Repr

/-- The place of a column in a list of columns. -/
def findColumn (s : Nat) : List Nat → Nat → Option Nat
  | [], _ => none
  | c :: r, i => if c = s then some i else findColumn s r (i + 1)

/-- The judgement of a codeword and the data it returns (Table 11.2): an erring data bit is inverted, an
erring check bit leaves the data as stored, and an uncorrectable word is returned as stored. -/
def eccDecode (w : Code72) : Nat × Judged :=
  if eccSyndrome w = 0 then (cwData w, .good)
  else match findColumn (eccSyndrome w) eccColumns 0 with
  | some i => (Nat.xor (cwData w) (2 ^ i), .corrected)
  | none =>
    match findColumn (eccSyndrome w) [1, 2, 4, 8, 16, 32, 64, 128] 0 with
    | some _ => (cwData w, .corrected)
    | none => (cwData w, .uncorrectable)

/-- Does a codeword read UNCORRECTABLE? -/
def eccBad (w : Code72) : Bool := decide ((eccDecode w).2 = .uncorrectable)

/-! ## Cyclic redundancy checks -/

/-- `n` steps of a CRC with the most significant bit first: width `w`, polynomial `p`. -/
def crcBits (w p : Nat) : Nat → Nat → Nat
  | 0, c => c
  | n + 1, c =>
    crcBits w p n (if c / 2 ^ (w - 1) % 2 = 1 then Nat.xor (c * 2 % 2 ^ w) p else c * 2 % 2 ^ w)

/-- The CRC-8 of R261 and R106: polynomial 0x07, initial value 0, no reflection. -/
def crc8 : List Byte → Nat :=
  List.foldl (fun c b => crcBits 8 0x07 8 (Nat.xor c b.toNat)) 0

/-- The CRC-16/CCITT-FALSE of R61: polynomial 0x1021, initial value 0xFFFF. -/
def crc16 : List Byte → Nat :=
  List.foldl (fun c b => crcBits 16 0x1021 8 (Nat.xor c (b.toNat * 256))) 0xFFFF

/-- `n` steps of a reflected CRC-32 (polynomial 0x04C1_1DB7 reflected is 0xEDB8_8320). -/
def crc32Bits : Nat → Nat → Nat
  | 0, c => c
  | n + 1, c => crc32Bits n (if c % 2 = 1 then Nat.xor (c / 2) 0xEDB88320 else c / 2)

/-- The CRC-32 of R92: initial value and final XOR 0xFFFF_FFFF, reflected. -/
def crc32 (l : List Byte) : Nat :=
  Nat.xor (l.foldl (fun c b => crc32Bits 8 (Nat.xor c b.toNat)) 0xFFFFFFFF) 0xFFFFFFFF

end Sys2Proof.Machine
end

