-- ==== Sys2Proof/Machine/Bits.lean ====
section
/-! DEFINITION. Bit fields, saturation, byte order and runs of lists: the plain arithmetic that every unit
shares. -/

namespace Sys2Proof

/-- The bits `hi:lo` of a number, as a number. -/
def bits (n hi lo : Nat) : Nat := n / 2 ^ lo % 2 ^ (hi + 1 - lo)

/-- Bit `i` of a number. -/
def bit (n i : Nat) : Bool := n / 2 ^ i % 2 == 1

/-- A Boolean as the number 0 or 1. -/
def b2n (b : Bool) : Nat := if b then 1 else 0

/-- A number with bit `i` set. -/
def setBit (n i : Nat) : Nat := if bit n i then n else n + 2 ^ i

/-- A number with bit `i` cleared. -/
def clearBit (n i : Nat) : Nat := if bit n i then n - 2 ^ i else n

/-- A number with bit `i` set to `b`. -/
def putBit (n i : Nat) (b : Bool) : Nat := if b then setBit n i else clearBit n i

/-- The signed reading of the low `w` bits of `n`. -/
def signed (w n : Nat) : Int :=
  if n % 2 ^ w < 2 ^ (w - 1) then Int.ofNat (n % 2 ^ w)
  else Int.ofNat (n % 2 ^ w) - Int.ofNat (2 ^ w)

/-- An integer reduced to `w` bits (two's complement). -/
def unsigned (w : Nat) (i : Int) : Nat := (i % Int.ofNat (2 ^ w)).toNat

/-- An integer held between two limits. -/
def clampInt (lo hi i : Int) : Int := if i < lo then lo else if hi < i then hi else i

/-- A saturating increment of a `w`-bit counter. -/
def satInc (w n : Nat) : Nat := if n + 1 < 2 ^ w then n + 1 else 2 ^ w - 1

/-- The smallest multiple of `m` that is at least `n` (with `m` not 0). -/
def roundUp (n m : Nat) : Nat := (n + m - 1) / m * m

/-- The big-endian number that a list of bytes spells. -/
def beNat : List Byte → Nat :=
  List.foldl (fun a b => a * 256 + b.toNat) 0

/-- The little-endian number that a list of bytes spells. -/
def leNat : List Byte → Nat
  | [] => 0
  | b :: r => b.toNat + 256 * leNat r

/-- The `n` bytes of a number, least significant first. -/
def leBytes : Nat → Nat → List Byte
  | 0, _ => []
  | n + 1, v => BitVec.ofNat 8 v :: leBytes n (v / 256)

/-- The `n` bytes of a number, most significant first. -/
def beBytes (n v : Nat) : List Byte := (leBytes n v).reverse

/-- The bytes `from … from + n - 1` of a list. -/
def slice {α : Type} (l : List α) (start n : Nat) : List α := (l.drop start).take n

/-- Cut a list into runs of `n`, at most `fuel` of them. -/
def chunks {α : Type} (n : Nat) : Nat → List α → List (List α)
  | 0, _ => []
  | _ + 1, [] => []
  | f + 1, x :: r => (x :: r).take n :: chunks n f ((x :: r).drop n)

end Sys2Proof
end

