-- ==== Sys2Proof/Machine/Codes.lean ====
section
/-! DEFINITION. The codes of the manual's tables that several units share: refusal reasons (Table 25.1),
event numbers (Table 19.3), unit IDs (Tables 00.4, 00.5), ring status and commands (Tables 09.6, 09.7),
life-cycle and plane states. -/

namespace Sys2Proof.Machine

/-- Refusal reasons, Table 25.1 (R634: codes 0x20 to 0xFF are never produced). -/
inductive Reason
  | none | notOwner | busy | lcForbids | noTimebase | dieFenced | divRange | notDrained
  | keyInUse | keyEmpty | loopUnlocked | parisonInvalid | swapSetSplit | pinClaimed | signalUnknown
  | bankVoltageMismatch | laneRateUnsupported | quadLoopConflict | retentionUnsupported | wakeNone
  | ormPageProtected | ormWearLimit | batteryAbsent | certRequired | tablePoisoned | alignmentLost
  | mckTooSlow | reservedValue | computePortUnassigned | timeoutRange | thresholdOrder
  | descriptorInvalid
  deriving DecidableEq, Repr

/-- The code of a reason (Table 25.1). -/
def Reason.code : Reason → Nat
  | .none => 0x00 | .notOwner => 0x01 | .busy => 0x02 | .lcForbids => 0x03 | .noTimebase => 0x04
  | .dieFenced => 0x05 | .divRange => 0x06 | .notDrained => 0x07 | .keyInUse => 0x08
  | .keyEmpty => 0x09 | .loopUnlocked => 0x0A | .parisonInvalid => 0x0B | .swapSetSplit => 0x0C
  | .pinClaimed => 0x0D | .signalUnknown => 0x0E | .bankVoltageMismatch => 0x0F
  | .laneRateUnsupported => 0x10 | .quadLoopConflict => 0x11 | .retentionUnsupported => 0x12
  | .wakeNone => 0x13 | .ormPageProtected => 0x14 | .ormWearLimit => 0x15 | .batteryAbsent => 0x16
  | .certRequired => 0x17 | .tablePoisoned => 0x18 | .alignmentLost => 0x19 | .mckTooSlow => 0x1A
  | .reservedValue => 0x1B | .computePortUnassigned => 0x1C | .timeoutRange => 0x1D
  | .thresholdOrder => 0x1E | .descriptorInvalid => 0x1F

/-! Event numbers (Table 19.3). -/
namespace Ev
abbrev MCK_RANGE : Nat := 0
abbrev WDOG_WARN : Nat := 1
abbrev RESET_DONE : Nat := 2
abbrev RELEASE_DONE : Nat := 3
abbrev OSC_FAIL : Nat := 4
abbrev ROOT_UNLOCK : Nat := 5
abbrev ROOT_RELOCK : Nat := 6
abbrev SLAVE_UNLOCK : Nat := 7
abbrev ZONE_CLK_SWITCH_DONE : Nat := 8
abbrev RAMP_DONE : Nat := 9
abbrev PW_ENTRY_REFUSED : Nat := 10
abbrev PW_WAKE : Nat := 11
abbrev THERM_WARN : Nat := 12
abbrev THERM_TRIP : Nat := 13
abbrev SUPPLY_WARN : Nat := 14
abbrev REFUSAL : Nat := 15
abbrev RING_TIMEOUT : Nat := 16
abbrev TARGET_ISOLATED : Nat := 17
abbrev POISON_CONSUMED : Nat := 18
abbrev ECC_CORRECTED : Nat := 19
abbrev ECC_UNCORRECTABLE : Nat := 20
abbrev HEADER_CHECK_FAIL : Nat := 21
abbrev POOL_STARVE : Nat := 22
abbrev ATOMIC_FAULT : Nat := 23
abbrev DIE_FENCED : Nat := 24
abbrev BRIDGE_ERROR : Nat := 25
abbrev SMV_DONE : Nat := 26
abbrev SMV_ERROR : Nat := 27
abbrev ORDER_HOLD : Nat := 28
abbrev ORM_WRITE_DONE : Nat := 29
abbrev ORM_TORN_FOUND : Nat := 30
abbrev GATHER_DONE : Nat := 32
abbrev GATHER_ERROR : Nat := 33
abbrev AUTH_FAIL : Nat := 34
abbrev PARISON_READY : Nat := 35
abbrev SWAP_DONE : Nat := 36
abbrev SWAP_REFUSED : Nat := 37
abbrev SCRUB_CORRECTED : Nat := 38
abbrev SCRUB_UNCORRECTABLE : Nat := 39
abbrev SCRUB_PASS : Nat := 40
abbrev KEY_LOST : Nat := 41
abbrev KEY_DEFERRED_APPLIED : Nat := 42
abbrev BAT_LOW : Nat := 43
abbrev BAT_DISAGREE : Nat := 44
abbrev KEY_SUSPECT : Nat := 45
abbrev LC_TRANSITION_DONE : Nat := 46
abbrev DEBUG_OPENED : Nat := 47
abbrev IDENT_PORT (k : Nat) : Nat := 48 + k
abbrev MARK_PREDICT : Nat := 56
abbrev MARK_CONFIRM : Nat := 57
abbrev MARK_CANCEL : Nat := 58
abbrev MARK_LATE_CANCEL : Nat := 59
abbrev CAM_SEGMENT_FAULT : Nat := 60
abbrev ENCODER_FAULT : Nat := 61
abbrev IOX_CONFLICT : Nat := 62
abbrev MIO_EDGE : Nat := 63
abbrev LANE_QUAD (k : Nat) : Nat := 64 + k
abbrev CMP_FLASH_ERROR : Nat := 88
abbrev TRNG_HEALTH : Nat := 89
abbrev DEBUG_CERT_REJECTED : Nat := 90
abbrev CHALLENGE_ISSUED : Nat := 91
abbrev GAF_READY : Nat := 92
abbrev GAF_ABORT : Nat := 93
abbrev USER (n : Nat) : Nat := 96 + n
end Ev

/-! Unit IDs (R4, Tables 00.4 and 00.5). -/
namespace U
abbrev MG : Nat := 0x000
abbrev HL : Nat := 0x001
abbrev RS : Nat := 0x002
abbrev ORM : Nat := 0x003
abbrev CK : Nat := 0x004
abbrev PW : Nat := 0x005
abbrev EV : Nat := 0x006
abbrev KS : Nat := 0x007
abbrev BG : Nat := 0x008
abbrev LC : Nat := 0x009
abbrev DA : Nat := 0x00A
abbrev TRNG : Nat := 0x00B
/-- Pool group `g` (0 to 7). -/
abbrev PL (g : Nat) : Nat := 0x010 + g
abbrev SMV : Nat := 0x018
abbrev IOX : Nat := 0x020
abbrev IDR : Nat := 0x021
abbrev MFE : Nat := 0x022
abbrev CAM : Nat := 0x023
abbrev GAF : Nat := 0x024
abbrev CUL : Nat := 0x025
abbrev SPN : Nat := 0x030
/-- The bridge end to die `d` (1 to 4). -/
abbrev BR (d : Nat) : Nat := 0x030 + d
/-- Zone `z` (0 to 63) of die `d`. -/
abbrev ZN (d z : Nat) : Nat := d * 512 + z
/-- Lane quad `q` (0 to 5) of die `d`. -/
abbrev LQ (d q : Nat) : Nat := d * 512 + 0x040 + q
/-- I/O bank `b` (0 to 7) of die `d`. -/
abbrev IOB (d b : Nat) : Nat := d * 512 + 0x050 + b
/-- Gather and Lehr of die `d` (stop 96). -/
abbrev GTH (d : Nat) : Nat := d * 512 + 0x060
/-- The bridge stop of die `d` (stop 98). -/
abbrev BST (d : Nat) : Nat := d * 512 + 0x062
abbrev DR (d : Nat) : Nat := d * 512 + 0x063
abbrev SLP (d : Nat) : Nat := d * 512 + 0x064
abbrev CMP (d : Nat) : Nat := d * 512 + 0x065
end U

/-- The number (0 to 255) of the zone with unit ID `u`: 64 × (die − 1) + zone (R510). -/
def zoneNo (u : Nat) : Nat := (u / 512 - 1) * 64 + u % 64
/-- The unit ID of zone number `n`. -/
def zoneUnit (n : Nat) : Nat := (n / 64 + 1) * 512 + n % 64
/-- The die (1 to 4) of zone number `n`. -/
def zoneDie (n : Nat) : Nat := n / 64 + 1

/-! Clock states: CK_STATUS.ROOT and SLP_STATUS.STATE (Table 06.6), CK_STATUS.OSC, ZN_CLK_STATUS.STATE (Table 06.11). -/
namespace Loop
abbrev OFF : Nat := 0
abbrev ACQUIRING : Nat := 1
abbrev LOCKED : Nat := 2
abbrev HOLDOVER : Nat := 3
abbrev FAILED : Nat := 4
end Loop
namespace Osc
abbrev STOPPED : Nat := 0
abbrev STARTING : Nat := 1
abbrev STABLE : Nat := 2
abbrev FAILED : Nat := 3
end Osc
namespace Zc
abbrev STOPPED : Nat := 0
abbrev ROOT : Nat := 1
abbrev REF : Nat := 2
abbrev SWITCHING : Nat := 3
abbrev RAMPING : Nat := 4
abbrev RIDING : Nat := 5
abbrev HELD : Nat := 6
abbrev GATED : Nat := 7
end Zc

/-! RS_STATUS.STATE (Table 05.11). -/
namespace Rs
abbrev FUSE : Nat := 1
abbrev LC : Nat := 2
abbrev OPTIONS : Nat := 3
abbrev HOLD : Nat := 4
abbrev OSC : Nat := 5
abbrev LOOPS : Nat := 6
abbrev BRIDGES : Nat := 7
abbrev LOADING : Nat := 8
abbrev WAIT_DIES : Nat := 9
abbrev GOE : Nat := 10
abbrev GWE : Nat := 11
abbrev RUN : Nat := 12
abbrev MGMT_ONLY : Nat := 13
abbrev STALLED : Nat := 14
end Rs

/-! BR_STATUS.STATE (Table 02.16). -/
namespace Br
abbrev DOWN : Nat := 0
abbrev TRAINING : Nat := 1
abbrev UP : Nat := 2
abbrev DEGRADED : Nat := 3
abbrev FAILED : Nat := 4
abbrev FENCED : Nat := 5
end Br

/-- What a command resets (Table 05.1), with the codes of RS_CAUSE.CAUSE. -/
inductive ResetSource
  | por | brownoutP | rstN | bridgeFatal | lcDone | watchdog | command | brownoutInt
  deriving DecidableEq, Repr

/-- The code of a reset source (Table 05.1). -/
def ResetSource.code : ResetSource → Nat
  | .por => 1 | .brownoutP => 2 | .rstN => 3 | .bridgeFatal => 4 | .lcDone => 5
  | .watchdog => 6 | .command => 7 | .brownoutInt => 8

end Sys2Proof.Machine
end

