-- ==== Sys2Proof/Machine/Fields.lean ====
section
/-! DEFINITION. The names of the registers' fields, as the manual writes them (UNIT_REG.FIELD is
`F.UNIT_REG_FIELD`). A field is its register's key (unit × 0x1000 + offset) and its bits. An argument `u` is a
12-bit unit ID (R4), `k` the number of a register of a run. -/

namespace Sys2Proof.Machine

/-- A field of a register: the register's key and the bits `hi:lo`. -/
structure Field where
  key : Nat
  hi : Nat
  lo : Nat
  deriving DecidableEq, Repr

namespace F

/-! Fields of unit MG. -/
abbrev MG_ID_FAMILY : Field := ⟨0x0, 31, 24⟩
abbrev MG_ID_PART : Field := ⟨0x0, 23, 8⟩
abbrev MG_ID_STEPPING : Field := ⟨0x0, 7, 0⟩
abbrev MG_SUPPLY_VCCIO_ALL : Field := ⟨0x40, 6, 6⟩
abbrev MG_SUPPLY_VLANET_GOOD : Field := ⟨0x40, 5, 5⟩
abbrev MG_SUPPLY_VLANE_GOOD : Field := ⟨0x40, 4, 4⟩
abbrev MG_SUPPLY_VMIO_GOOD : Field := ⟨0x40, 3, 3⟩
abbrev MG_SUPPLY_VCCINT_GOOD : Field := ⟨0x40, 2, 2⟩
abbrev MG_SUPPLY_VCCAUX_GOOD : Field := ⟨0x40, 1, 1⟩
abbrev MG_SUPPLY_VCCP_GOOD : Field := ⟨0x40, 0, 0⟩
abbrev MG_SUPPLY_LATCH_VCCIO_ANY : Field := ⟨0x44, 6, 6⟩
abbrev MG_SUPPLY_LATCH_VLANET_FELL : Field := ⟨0x44, 5, 5⟩
abbrev MG_SUPPLY_LATCH_VLANE_FELL : Field := ⟨0x44, 4, 4⟩
abbrev MG_SUPPLY_LATCH_VMIO_FELL : Field := ⟨0x44, 3, 3⟩
abbrev MG_SUPPLY_LATCH_VCCINT_FELL : Field := ⟨0x44, 2, 2⟩
abbrev MG_VCCIO_GOOD_BANK : Field := ⟨0x48, 31, 0⟩
abbrev MG_VCCIO_LATCH_BANK : Field := ⟨0x4C, 31, 0⟩
abbrev MG_MCK_HZ_HZ : Field := ⟨0x60, 25, 0⟩
abbrev MG_MCK_MEAS_KHZ : Field := ⟨0x64, 15, 0⟩
abbrev MG_MCK_LOSS_LOSS_US : Field := ⟨0x68, 13, 0⟩
abbrev MG_MCK_LOSS_CTL_SAFE : Field := ⟨0x6C, 1, 1⟩
abbrev MG_MCK_LOSS_CTL_EN : Field := ⟨0x6C, 0, 0⟩
abbrev MG_MCK_STATUS_ARMED : Field := ⟨0x70, 3, 3⟩
abbrev MG_MCK_STATUS_SAFE_ACTIVE : Field := ⟨0x70, 2, 2⟩
abbrev MG_MCK_STATUS_OFF_RATE : Field := ⟨0x70, 1, 1⟩
abbrev MG_MCK_STATUS_LOST : Field := ⟨0x70, 0, 0⟩
abbrev MG_REFUSAL_LAST_UNIT : Field := ⟨0x80, 31, 20⟩
abbrev MG_REFUSAL_LAST_REASON : Field := ⟨0x80, 15, 8⟩
abbrev MG_REFUSAL_LAST_INDEX : Field := ⟨0x80, 7, 0⟩
abbrev MG_REFUSAL_CNT_COUNT : Field := ⟨0x84, 15, 0⟩
abbrev MG_REFUSE_REASON : Field := ⟨0x88, 15, 8⟩
abbrev MG_REFUSE_INDEX : Field := ⟨0x88, 7, 0⟩
abbrev MG_TEMP0_F3 : Field := ⟨0xA0, 31, 24⟩
abbrev MG_TEMP0_F2 : Field := ⟨0xA0, 23, 16⟩
abbrev MG_TEMP0_F1 : Field := ⟨0xA0, 15, 8⟩
abbrev MG_TEMP0_P : Field := ⟨0xA0, 7, 0⟩
abbrev MG_TEMP1_MAXDIE : Field := ⟨0xA4, 18, 16⟩
abbrev MG_TEMP1_MAX : Field := ⟨0xA4, 15, 8⟩
abbrev MG_TEMP1_F4 : Field := ⟨0xA4, 7, 0⟩
abbrev MG_THERM_CFG_ACTION : Field := ⟨0xA8, 9, 8⟩
abbrev MG_THERM_CFG_WARN : Field := ⟨0xA8, 7, 0⟩
abbrev MG_THERM_STATUS_ACTIVE : Field := ⟨0xAC, 2, 2⟩
abbrev MG_THERM_STATUS_TRIP : Field := ⟨0xAC, 1, 1⟩
abbrev MG_THERM_STATUS_WARN : Field := ⟨0xAC, 0, 0⟩

/-! Fields of unit BR. -/
abbrev BR_CTL_CLR_CNT (u : Nat) : Field := ⟨u * 4096 + 0x0, 0, 0⟩
abbrev BR_STATUS_FAILED_PATH (u : Nat) : Field := ⟨u * 4096 + 0x4, 15, 12⟩
abbrev BR_STATUS_SPARES_USED (u : Nat) : Field := ⟨u * 4096 + 0x4, 7, 4⟩
abbrev BR_STATUS_STATE (u : Nat) : Field := ⟨u * 4096 + 0x4, 2, 0⟩
abbrev BR_ERR_CNT_COUNT (u : Nat) : Field := ⟨u * 4096 + 0x8, 15, 0⟩
abbrev BR_FATAL_CFG_STALL_US (u : Nat) : Field := ⟨u * 4096 + 0xC, 23, 8⟩
abbrev BR_FATAL_CFG_ERR_LIMIT (u : Nat) : Field := ⟨u * 4096 + 0xC, 7, 0⟩
abbrev BR_REFUSE_REASON (u : Nat) : Field := ⟨u * 4096 + 0x10, 15, 8⟩
abbrev BR_REFUSE_INDEX (u : Nat) : Field := ⟨u * 4096 + 0x10, 7, 0⟩

/-! Fields of unit HL. -/
abbrev HL_STATUS_LAST_STATUS : Field := ⟨0x1000, 15, 8⟩
abbrev HL_STATUS_ABANDON_PENDING : Field := ⟨0x1000, 1, 1⟩
abbrev HL_STATUS_CRC_ON : Field := ⟨0x1000, 0, 0⟩
abbrev HL_WIN_BASE_BASE : Field := ⟨0x1004, 16, 0⟩
abbrev HL_CRC_ERR_CNT_COUNT : Field := ⟨0x1008, 15, 0⟩
abbrev HL_ABANDON_CNT_COUNT : Field := ⟨0x100C, 15, 0⟩
abbrev HL_SHORT_CNT_COUNT : Field := ⟨0x1010, 15, 0⟩
abbrev HL_REFUSE_REASON : Field := ⟨0x1014, 15, 8⟩
abbrev HL_REFUSE_INDEX : Field := ⟨0x1014, 7, 0⟩

/-! Fields of unit ORM. -/
abbrev ORM_CMD_GO : Field := ⟨0x3000, 31, 31⟩
abbrev ORM_CMD_PAGE : Field := ⟨0x3000, 7, 0⟩
abbrev ORM_STATUS_LAST_PAGE : Field := ⟨0x3004, 15, 8⟩
abbrev ORM_STATUS_RESULT : Field := ⟨0x3004, 3, 2⟩
abbrev ORM_STATUS_DEVICE : Field := ⟨0x3004, 1, 1⟩
abbrev ORM_STATUS_BUSY : Field := ⟨0x3004, 0, 0⟩
abbrev ORM_REFUSE_REASON : Field := ⟨0x3008, 15, 8⟩
abbrev ORM_REFUSE_INDEX : Field := ⟨0x3008, 7, 0⟩
abbrev ORM_PAGE_SEL_PAGE : Field := ⟨0x300C, 7, 0⟩
abbrev ORM_PAGE_INFO_GROUPS : Field := ⟨0x3010, 31, 16⟩
abbrev ORM_PAGE_INFO_STATE : Field := ⟨0x3010, 1, 0⟩
abbrev ORM_PAGE_CYCLES_CYCLES : Field := ⟨0x3014, 16, 0⟩
abbrev ORM_OPT_STATUS_B_REASON : Field := ⟨0x3018, 9, 7⟩
abbrev ORM_OPT_STATUS_A_REASON : Field := ⟨0x3018, 6, 4⟩
abbrev ORM_OPT_STATUS_SLOT : Field := ⟨0x3018, 1, 0⟩
abbrev ORM_OPT_SEQ_SEQ : Field := ⟨0x301C, 31, 0⟩
abbrev ORM_TORN_TORN (k : Nat) : Field := ⟨0x3020 + 4 * k, 31, 0⟩
abbrev ORM_BUF_DATA (k : Nat) : Field := ⟨0x3040 + 4 * k, 31, 0⟩
abbrev ORM_LIFE_VALUE (k : Nat) : Field := ⟨0x3080 + 4 * k, 31, 0⟩

/-! Fields of unit RS. -/
abbrev RS_CMD_KEY : Field := ⟨0x2000, 31, 24⟩
abbrev RS_CMD_DEVICE : Field := ⟨0x2000, 0, 0⟩
abbrev RS_CAUSE_DIE : Field := ⟨0x2004, 6, 4⟩
abbrev RS_CAUSE_CAUSE : Field := ⟨0x2004, 3, 0⟩
abbrev RS_STATUS_CLAMP_SEEN : Field := ⟨0x2008, 25, 25⟩
abbrev RS_STATUS_FUSE_UNSTABLE : Field := ⟨0x2008, 24, 24⟩
abbrev RS_STATUS_DIE_FENCED : Field := ⟨0x2008, 23, 20⟩
abbrev RS_STATUS_DIE_READY : Field := ⟨0x2008, 19, 16⟩
abbrev RS_STATUS_STATE : Field := ⟨0x2008, 3, 0⟩
abbrev RS_DIE_FAIL_F4 : Field := ⟨0x200C, 15, 12⟩
abbrev RS_DIE_FAIL_F3 : Field := ⟨0x200C, 11, 8⟩
abbrev RS_DIE_FAIL_F2 : Field := ⟨0x200C, 7, 4⟩
abbrev RS_DIE_FAIL_F1 : Field := ⟨0x200C, 3, 0⟩
abbrev RS_RELEASE_HOLD_HOLD_GRR : Field := ⟨0x2010, 2, 2⟩
abbrev RS_RELEASE_HOLD_HOLD_GWE : Field := ⟨0x2010, 1, 1⟩
abbrev RS_RELEASE_HOLD_HOLD_GOE : Field := ⟨0x2010, 0, 0⟩
abbrev RS_DIE_LIMIT_TICKS : Field := ⟨0x2014, 15, 0⟩
abbrev RS_WDOG_KICK_VALUE : Field := ⟨0x2018, 15, 0⟩
abbrev RS_WDOG_LEFT_TICKS : Field := ⟨0x201C, 15, 0⟩
abbrev RS_REFUSE_REASON : Field := ⟨0x2020, 15, 8⟩
abbrev RS_REFUSE_INDEX : Field := ⟨0x2020, 7, 0⟩

/-! Fields of unit CK. -/
abbrev CK_STATUS_MT_COARSE : Field := ⟨0x4000, 15, 15⟩
abbrev CK_STATUS_EPOCH_VALID : Field := ⟨0x4000, 14, 14⟩
abbrev CK_STATUS_SLAVE_LOCKED : Field := ⟨0x4000, 11, 8⟩
abbrev CK_STATUS_REFSEL : Field := ⟨0x4000, 7, 7⟩
abbrev CK_STATUS_ROOT : Field := ⟨0x4000, 6, 4⟩
abbrev CK_STATUS_OSC : Field := ⟨0x4000, 1, 0⟩
abbrev CK_ROOT_CFG_MULT : Field := ⟨0x4004, 6, 0⟩
abbrev CK_CMD_OSC_RESTART : Field := ⟨0x4008, 1, 1⟩
abbrev CK_CMD_RELOCK : Field := ⟨0x4008, 0, 0⟩
abbrev CK_EPOCH_LO_E : Field := ⟨0x400C, 31, 0⟩
abbrev CK_EPOCH_HI_E : Field := ⟨0x4010, 31, 0⟩
abbrev CK_EPOCH_GEN_GEN : Field := ⟨0x4014, 15, 0⟩
abbrev CK_MT_LO_MT : Field := ⟨0x4018, 31, 0⟩
abbrev CK_MT_HI_MT : Field := ⟨0x401C, 31, 0⟩
abbrev CK_MT_PERIOD_PERIOD_FS : Field := ⟨0x4020, 18, 0⟩
abbrev CK_ROOT_MON_COUNT : Field := ⟨0x4024, 15, 0⟩
abbrev CK_UNLOCK_CNT_COUNT : Field := ⟨0x4028, 15, 0⟩
abbrev CK_SVC_REF_DOMAINS : Field := ⟨0x402C, 19, 0⟩
abbrev CK_REFUSE_REASON : Field := ⟨0x4030, 15, 8⟩
abbrev CK_REFUSE_INDEX : Field := ⟨0x4030, 7, 0⟩

/-! Fields of unit SLP. -/
abbrev SLP_STATUS_SVC_ON_REF (u : Nat) : Field := ⟨u * 4096 + 0x0, 4, 4⟩
abbrev SLP_STATUS_STATE (u : Nat) : Field := ⟨u * 4096 + 0x0, 2, 0⟩
abbrev SLP_UNLOCK_CNT_COUNT (u : Nat) : Field := ⟨u * 4096 + 0x4, 15, 0⟩

/-! Fields of unit ZN. -/
abbrev ZN_INFO_DIE (u : Nat) : Field := ⟨u * 4096 + 0x80, 10, 8⟩
abbrev ZN_INFO_ROW (u : Nat) : Field := ⟨u * 4096 + 0x80, 5, 3⟩
abbrev ZN_INFO_COL (u : Nat) : Field := ⟨u * 4096 + 0x80, 2, 0⟩
abbrev ZN_EP_USED_OUT (u : Nat) : Field := ⟨u * 4096 + 0x84, 31, 16⟩
abbrev ZN_EP_USED_IN (u : Nat) : Field := ⟨u * 4096 + 0x84, 15, 0⟩
abbrev ZN_EP_STATE_OUT_BLOCKED (u : Nat) : Field := ⟨u * 4096 + 0x88, 31, 16⟩
abbrev ZN_EP_STATE_IN_FULL (u : Nat) : Field := ⟨u * 4096 + 0x88, 15, 0⟩
abbrev ZN_EP_STALL_CYCLES (u : Nat) : Field := ⟨u * 4096 + 0x8C, 31, 0⟩
abbrev ZN_EP_SEL_DIR (u : Nat) : Field := ⟨u * 4096 + 0x90, 4, 4⟩
abbrev ZN_EP_SEL_EP (u : Nat) : Field := ⟨u * 4096 + 0x90, 3, 0⟩
abbrev ZN_EP_COUNT_TOKENS (u : Nat) : Field := ⟨u * 4096 + 0x94, 31, 0⟩
abbrev ZN_CLK_CTL_RAMP (u : Nat) : Field := ⟨u * 4096 + 0x100, 17, 17⟩
abbrev ZN_CLK_CTL_GO (u : Nat) : Field := ⟨u * 4096 + 0x100, 16, 16⟩
abbrev ZN_CLK_CTL_SRC (u : Nat) : Field := ⟨u * 4096 + 0x100, 13, 13⟩
abbrev ZN_CLK_CTL_DIV (u : Nat) : Field := ⟨u * 4096 + 0x100, 12, 0⟩
abbrev ZN_CLK_STATUS_STATE (u : Nat) : Field := ⟨u * 4096 + 0x104, 31, 28⟩
abbrev ZN_CLK_STATUS_RAMP_ABANDONED (u : Nat) : Field := ⟨u * 4096 + 0x104, 25, 25⟩
abbrev ZN_CLK_STATUS_LOSS_SEEN (u : Nat) : Field := ⟨u * 4096 + 0x104, 24, 24⟩
abbrev ZN_CLK_STATUS_ALIGNED (u : Nat) : Field := ⟨u * 4096 + 0x104, 16, 16⟩
abbrev ZN_CLK_STATUS_DIV_NOW (u : Nat) : Field := ⟨u * 4096 + 0x104, 12, 0⟩
abbrev ZN_CLK_POLICY_RIDE_LIMIT (u : Nat) : Field := ⟨u * 4096 + 0x108, 24, 16⟩
abbrev ZN_CLK_POLICY_RETURN (u : Nat) : Field := ⟨u * 4096 + 0x108, 4, 4⟩
abbrev ZN_CLK_POLICY_THEN (u : Nat) : Field := ⟨u * 4096 + 0x108, 2, 2⟩
abbrev ZN_CLK_POLICY_POLICY (u : Nat) : Field := ⟨u * 4096 + 0x108, 1, 0⟩
abbrev ZN_RAMP_DWELL (u : Nat) : Field := ⟨u * 4096 + 0x10C, 26, 16⟩
abbrev ZN_RAMP_STEP (u : Nat) : Field := ⟨u * 4096 + 0x10C, 4, 0⟩
abbrev ZN_CLK_LOST_COUNT (u : Nat) : Field := ⟨u * 4096 + 0x110, 15, 0⟩
abbrev ZN_CLK_GAP_UNIT (u : Nat) : Field := ⟨u * 4096 + 0x114, 31, 31⟩
abbrev ZN_CLK_GAP_GAP (u : Nat) : Field := ⟨u * 4096 + 0x114, 15, 0⟩
abbrev ZN_REFUSE_REASON (u : Nat) : Field := ⟨u * 4096 + 0x118, 15, 8⟩
abbrev ZN_REFUSE_INDEX (u : Nat) : Field := ⟨u * 4096 + 0x118, 7, 0⟩
abbrev ZN_PLANE_ACTIVE (u : Nat) : Field := ⟨u * 4096 + 0x180, 8, 8⟩
abbrev ZN_PLANE_INIT1 (u : Nat) : Field := ⟨u * 4096 + 0x180, 7, 7⟩
abbrev ZN_PLANE_STATE1 (u : Nat) : Field := ⟨u * 4096 + 0x180, 6, 4⟩
abbrev ZN_PLANE_INIT0 (u : Nat) : Field := ⟨u * 4096 + 0x180, 3, 3⟩
abbrev ZN_PLANE_STATE0 (u : Nat) : Field := ⟨u * 4096 + 0x180, 2, 0⟩
abbrev ZN_PLANE_KEY_KEY (u k : Nat) : Field := ⟨u * 4096 + 0x184 + 4 * k, 31, 0⟩
abbrev ZN_SWAP_STATUS_ABANDONED (u : Nat) : Field := ⟨u * 4096 + 0x18C, 18, 18⟩
abbrev ZN_SWAP_STATUS_DONE (u : Nat) : Field := ⟨u * 4096 + 0x18C, 17, 17⟩
abbrev ZN_SWAP_STATUS_SWAPPING (u : Nat) : Field := ⟨u * 4096 + 0x18C, 16, 16⟩
abbrev ZN_SWAP_STATUS_STEP (u : Nat) : Field := ⟨u * 4096 + 0x18C, 2, 0⟩
abbrev ZN_SWAP_DISCARD_IN (u : Nat) : Field := ⟨u * 4096 + 0x190, 31, 16⟩
abbrev ZN_SWAP_DISCARD_OUT (u : Nat) : Field := ⟨u * 4096 + 0x190, 15, 0⟩
abbrev ZN_EV_DROP_COUNT (u : Nat) : Field := ⟨u * 4096 + 0x1A0, 15, 0⟩
abbrev ZN_BM_LENT_LO_LENT (u : Nat) : Field := ⟨u * 4096 + 0x200, 31, 0⟩
abbrev ZN_BM_LENT_HI_LENT (u : Nat) : Field := ⟨u * 4096 + 0x204, 15, 0⟩
abbrev ZN_BM_ECC_LO_ECC (u : Nat) : Field := ⟨u * 4096 + 0x208, 31, 0⟩
abbrev ZN_BM_ECC_HI_ECC (u : Nat) : Field := ⟨u * 4096 + 0x20C, 15, 0⟩
abbrev ZN_BM_QUEUE_LO_QUEUE (u : Nat) : Field := ⟨u * 4096 + 0x210, 31, 0⟩
abbrev ZN_BM_QUEUE_HI_QUEUE (u : Nat) : Field := ⟨u * 4096 + 0x214, 15, 0⟩
abbrev ZN_BM_CORR_CNT_COUNT (u : Nat) : Field := ⟨u * 4096 + 0x218, 31, 0⟩
abbrev ZN_BM_UNCORR_CNT_COUNT (u : Nat) : Field := ⟨u * 4096 + 0x21C, 31, 0⟩
abbrev ZN_BM_COLL_CNT_COUNT (u : Nat) : Field := ⟨u * 4096 + 0x220, 31, 0⟩
abbrev ZN_BM_ERR_LAST_VALID (u : Nat) : Field := ⟨u * 4096 + 0x224, 31, 31⟩
abbrev ZN_BM_ERR_LAST_MEM (u : Nat) : Field := ⟨u * 4096 + 0x224, 29, 24⟩
abbrev ZN_BM_ERR_LAST_PORT (u : Nat) : Field := ⟨u * 4096 + 0x224, 23, 22⟩
abbrev ZN_BM_ERR_LAST_ROW (u : Nat) : Field := ⟨u * 4096 + 0x224, 8, 0⟩
abbrev ZN_QC_SEL_QUEUE (u : Nat) : Field := ⟨u * 4096 + 0x230, 5, 0⟩
abbrev ZN_QC_CFG_MODE (u : Nat) : Field := ⟨u * 4096 + 0x234, 31, 29⟩
abbrev ZN_QC_CFG_DEPTH (u : Nat) : Field := ⟨u * 4096 + 0x234, 28, 14⟩
abbrev ZN_QC_CFG_ECC (u : Nat) : Field := ⟨u * 4096 + 0x234, 4, 4⟩
abbrev ZN_QC_CFG_FWFT (u : Nat) : Field := ⟨u * 4096 + 0x234, 3, 3⟩
abbrev ZN_QC_CFG_CASCADE (u : Nat) : Field := ⟨u * 4096 + 0x234, 2, 0⟩
abbrev ZN_QC_THRESH_AF (u : Nat) : Field := ⟨u * 4096 + 0x238, 30, 16⟩
abbrev ZN_QC_THRESH_AE (u : Nat) : Field := ⟨u * 4096 + 0x238, 14, 0⟩
abbrev ZN_QC_STATUS_OCC (u : Nat) : Field := ⟨u * 4096 + 0x23C, 30, 16⟩
abbrev ZN_QC_STATUS_UNDERFLOW (u : Nat) : Field := ⟨u * 4096 + 0x23C, 5, 5⟩
abbrev ZN_QC_STATUS_OVERFLOW (u : Nat) : Field := ⟨u * 4096 + 0x23C, 4, 4⟩
abbrev ZN_QC_STATUS_ALMOST_FULL (u : Nat) : Field := ⟨u * 4096 + 0x23C, 3, 3⟩
abbrev ZN_QC_STATUS_ALMOST_EMPTY (u : Nat) : Field := ⟨u * 4096 + 0x23C, 2, 2⟩
abbrev ZN_QC_STATUS_FULL (u : Nat) : Field := ⟨u * 4096 + 0x23C, 1, 1⟩
abbrev ZN_QC_STATUS_EMPTY (u : Nat) : Field := ⟨u * 4096 + 0x23C, 0, 0⟩
abbrev ZN_SL_OVF_SLICE (u : Nat) : Field := ⟨u * 4096 + 0x240, 31, 0⟩
abbrev ZN_SL_POISON_SLICE (u : Nat) : Field := ⟨u * 4096 + 0x244, 31, 0⟩
abbrev ZN_ECC_SEL_SEL (u : Nat) : Field := ⟨u * 4096 + 0x280, 5, 0⟩
abbrev ZN_ECC_MODE_RAW (u : Nat) : Field := ⟨u * 4096 + 0x284, 0, 0⟩
abbrev ZN_ECC_CHK_HI (u : Nat) : Field := ⟨u * 4096 + 0x288, 15, 8⟩
abbrev ZN_ECC_CHK_LO (u : Nat) : Field := ⟨u * 4096 + 0x288, 7, 0⟩
abbrev ZN_ECC_RAW_CHK_HI (u : Nat) : Field := ⟨u * 4096 + 0x28C, 15, 8⟩
abbrev ZN_ECC_RAW_CHK_LO (u : Nat) : Field := ⟨u * 4096 + 0x28C, 7, 0⟩
abbrev ZN_ECC_FLIP0_DATA_LO (u : Nat) : Field := ⟨u * 4096 + 0x290, 31, 0⟩
abbrev ZN_ECC_FLIP1_DATA_HI (u : Nat) : Field := ⟨u * 4096 + 0x294, 31, 0⟩
abbrev ZN_ECC_FLIP2_CHK (u : Nat) : Field := ⟨u * 4096 + 0x298, 7, 0⟩
abbrev ZN_ECC_FLIP_CTL_DONE (u : Nat) : Field := ⟨u * 4096 + 0x29C, 1, 1⟩
abbrev ZN_ECC_FLIP_CTL_ARM (u : Nat) : Field := ⟨u * 4096 + 0x29C, 0, 0⟩
abbrev ZN_RESET_CTL_GO (u : Nat) : Field := ⟨u * 4096 + 0x340, 31, 31⟩
abbrev ZN_RESET_CTL_FORCE (u : Nat) : Field := ⟨u * 4096 + 0x340, 0, 0⟩
abbrev ZN_DRAIN_LIMIT_US (u : Nat) : Field := ⟨u * 4096 + 0x344, 13, 0⟩
abbrev ZN_RESET_STATUS_DONE (u : Nat) : Field := ⟨u * 4096 + 0x348, 10, 10⟩
abbrev ZN_RESET_STATUS_FORCED (u : Nat) : Field := ⟨u * 4096 + 0x348, 9, 9⟩
abbrev ZN_RESET_STATUS_ABANDONED (u : Nat) : Field := ⟨u * 4096 + 0x348, 8, 8⟩
abbrev ZN_RESET_STATUS_STEP (u : Nat) : Field := ⟨u * 4096 + 0x348, 2, 0⟩
abbrev ZN_EP_INJ_DATA_DATA (u k : Nat) : Field := ⟨u * 4096 + 0xF00 + 8 * k, 31, 0⟩
abbrev ZN_EP_INJ_TAG_TAG (u k : Nat) : Field := ⟨u * 4096 + 0xF04 + 8 * k, 3, 0⟩

/-! Fields of unit DR. -/
abbrev DR_RING_CTL_CLR (u : Nat) : Field := ⟨u * 4096 + 0x0, 0, 0⟩
abbrev DR_HDR_ERR_CNT_COUNT (u : Nat) : Field := ⟨u * 4096 + 0x4, 15, 0⟩
abbrev DR_MALFORMED_CNT_COUNT (u : Nat) : Field := ⟨u * 4096 + 0x8, 15, 0⟩
abbrev DR_HOP_EXP_CNT_COUNT (u : Nat) : Field := ⟨u * 4096 + 0xC, 15, 0⟩
abbrev DR_UNITS_CW_COUNT (u : Nat) : Field := ⟨u * 4096 + 0x10, 31, 0⟩
abbrev DR_UNITS_CCW_COUNT (u : Nat) : Field := ⟨u * 4096 + 0x14, 31, 0⟩
abbrev DR_ERR_LAST_VALID (u : Nat) : Field := ⟨u * 4096 + 0x18, 31, 31⟩
abbrev DR_ERR_LAST_KIND (u : Nat) : Field := ⟨u * 4096 + 0x18, 27, 26⟩
abbrev DR_ERR_LAST_RING (u : Nat) : Field := ⟨u * 4096 + 0x18, 25, 25⟩
abbrev DR_ERR_LAST_DIR (u : Nat) : Field := ⟨u * 4096 + 0x18, 24, 24⟩
abbrev DR_ERR_LAST_POS (u : Nat) : Field := ⟨u * 4096 + 0x18, 23, 16⟩
abbrev DR_ERR_LAST_TAG (u : Nat) : Field := ⟨u * 4096 + 0x18, 9, 0⟩
abbrev DR_ISO_MAP_LO_STOPS (u : Nat) : Field := ⟨u * 4096 + 0x100, 31, 0⟩
abbrev DR_ISO_MAP_MID_STOPS (u : Nat) : Field := ⟨u * 4096 + 0x104, 31, 0⟩
abbrev DR_ISO_MAP_HI_STOPS (u : Nat) : Field := ⟨u * 4096 + 0x108, 7, 0⟩
abbrev DR_ISO_SEL_STOP (u : Nat) : Field := ⟨u * 4096 + 0x10C, 6, 0⟩
abbrev DR_ISO_STATUS_ISOLATED (u : Nat) : Field := ⟨u * 4096 + 0x110, 31, 31⟩
abbrev DR_ISO_STATUS_CAUSE (u : Nat) : Field := ⟨u * 4096 + 0x110, 26, 24⟩
abbrev DR_ISO_DROP_COUNT (u : Nat) : Field := ⟨u * 4096 + 0x114, 31, 0⟩
abbrev DR_ISO_CTL_RELEASE (u : Nat) : Field := ⟨u * 4096 + 0x118, 0, 0⟩
abbrev DR_ISO_TIME_US (u : Nat) : Field := ⟨u * 4096 + 0x11C, 16, 0⟩
abbrev DR_CUL_LOST_COUNT (u : Nat) : Field := ⟨u * 4096 + 0x120, 15, 0⟩
abbrev DR_REFUSE_REASON (u : Nat) : Field := ⟨u * 4096 + 0x124, 15, 8⟩
abbrev DR_REFUSE_INDEX (u : Nat) : Field := ⟨u * 4096 + 0x124, 7, 0⟩
abbrev DR_PACE_TOKENS (u : Nat) : Field := ⟨u * 4096 + 0x200, 15, 0⟩
abbrev DR_PACE_Q_TOKENS (u k : Nat) : Field := ⟨u * 4096 + 0x204 + 4 * k, 15, 0⟩
abbrev DR_PACE_MIN_TOKENS (u : Nat) : Field := ⟨u * 4096 + 0x214, 15, 0⟩
abbrev DR_PACE_CTL_CLR_MIN (u : Nat) : Field := ⟨u * 4096 + 0x218, 31, 31⟩
abbrev DR_PACE_CTL_LOW_LIMIT (u : Nat) : Field := ⟨u * 4096 + 0x218, 15, 0⟩
abbrev DR_PACE_STATUS_LOW (u : Nat) : Field := ⟨u * 4096 + 0x21C, 0, 0⟩

/-! Fields of unit SPN. -/
abbrev SPN_UNITS_PCW_COUNT : Field := ⟨0x3001C, 31, 0⟩
abbrev SPN_UNITS_PCCW_COUNT : Field := ⟨0x30020, 31, 0⟩

/-! Fields of unit INIT. -/
abbrev INIT_TMO_US (u k : Nat) : Field := ⟨u * 4096 + 0x300 + 4 * k, 19, 0⟩
abbrev INIT_TMO3_US (u : Nat) : Field := ⟨u * 4096 + 0x30C, 19, 0⟩
abbrev INIT_HOLD_US (u : Nat) : Field := ⟨u * 4096 + 0x310, 19, 0⟩
abbrev INIT_TMO_CNT_COUNT (u : Nat) : Field := ⟨u * 4096 + 0x314, 15, 0⟩
abbrev INIT_LATE_CNT_COUNT (u : Nat) : Field := ⟨u * 4096 + 0x318, 15, 0⟩
abbrev INIT_WRR_ERR_CNT_COUNT (u : Nat) : Field := ⟨u * 4096 + 0x31C, 15, 0⟩
abbrev INIT_ABANDON_CNT_COUNT (u : Nat) : Field := ⟨u * 4096 + 0x320, 15, 0⟩
abbrev INIT_OUTSTANDING_QUAR (u : Nat) : Field := ⟨u * 4096 + 0x324, 31, 22⟩
abbrev INIT_OUTSTANDING_ROB (u : Nat) : Field := ⟨u * 4096 + 0x324, 13, 8⟩
abbrev INIT_OUTSTANDING_TAGS (u : Nat) : Field := ⟨u * 4096 + 0x324, 6, 0⟩
abbrev INIT_UNC_MODE_CLASS (u : Nat) : Field := ⟨u * 4096 + 0x328, 3, 0⟩
abbrev INIT_UNC_CNT_COUNT (u : Nat) : Field := ⟨u * 4096 + 0x32C, 15, 0⟩

/-! Fields of unit CUL. -/
abbrev CUL_CTL_CLEAR : Field := ⟨0x25000, 0, 0⟩
abbrev CUL_NEXT_WRAPS : Field := ⟨0x25004, 31, 16⟩
abbrev CUL_NEXT_INDEX : Field := ⟨0x25004, 7, 0⟩
abbrev CUL_SEL_INDEX : Field := ⟨0x25008, 7, 0⟩
abbrev CUL_E_E (k : Nat) : Field := ⟨0x2500C + 4 * k, 31, 0⟩

/-! Fields of unit PL. -/
abbrev PL_BANK_OWNER_OWNER (u k : Nat) : Field := ⟨u * 4096 + 0x0 + 4 * k, 4, 0⟩
abbrev PL_STARVE_LIMIT_US (u : Nat) : Field := ⟨u * 4096 + 0x10, 13, 0⟩
abbrev PL_STARVE_STATUS_SEEN (u : Nat) : Field := ⟨u * 4096 + 0x14, 19, 16⟩
abbrev PL_STARVE_STATUS_STARVING (u : Nat) : Field := ⟨u * 4096 + 0x14, 3, 0⟩
abbrev PL_DUTY_CYCLES (u k : Nat) : Field := ⟨u * 4096 + 0x20 + 4 * k, 10, 0⟩
abbrev PL_REFUSE_REASON (u : Nat) : Field := ⟨u * 4096 + 0x30, 15, 8⟩
abbrev PL_REFUSE_INDEX (u : Nat) : Field := ⟨u * 4096 + 0x30, 7, 0⟩
abbrev PL_ECC_SEL_SEL (u : Nat) : Field := ⟨u * 4096 + 0x80, 1, 0⟩
abbrev PL_ECC_MODE_RAW (u : Nat) : Field := ⟨u * 4096 + 0x84, 0, 0⟩
abbrev PL_ECC_CHK_HI (u : Nat) : Field := ⟨u * 4096 + 0x88, 15, 8⟩
abbrev PL_ECC_CHK_LO (u : Nat) : Field := ⟨u * 4096 + 0x88, 7, 0⟩
abbrev PL_ECC_RAW_CHK_HI (u : Nat) : Field := ⟨u * 4096 + 0x8C, 15, 8⟩
abbrev PL_ECC_RAW_CHK_LO (u : Nat) : Field := ⟨u * 4096 + 0x8C, 7, 0⟩
abbrev PL_ECC_FLIP0_DATA_LO (u : Nat) : Field := ⟨u * 4096 + 0x90, 31, 0⟩
abbrev PL_ECC_FLIP1_DATA_HI (u : Nat) : Field := ⟨u * 4096 + 0x94, 31, 0⟩
abbrev PL_ECC_FLIP2_CHK (u : Nat) : Field := ⟨u * 4096 + 0x98, 7, 0⟩
abbrev PL_ECC_FLIP_CTL_DONE (u : Nat) : Field := ⟨u * 4096 + 0x9C, 1, 1⟩
abbrev PL_ECC_FLIP_CTL_ARM (u : Nat) : Field := ⟨u * 4096 + 0x9C, 0, 0⟩
abbrev PL_LINK_CTL_ANCHOR (u : Nat) : Field := ⟨u * 4096 + 0xC0, 10, 8⟩
abbrev PL_LINK_CTL_EN (u : Nat) : Field := ⟨u * 4096 + 0xC0, 0, 0⟩
abbrev PL_LINK_STATUS_STATE (u : Nat) : Field := ⟨u * 4096 + 0xC4, 1, 0⟩

/-! Fields of unit SMV. -/
abbrev SMV_ACTIVE_CH : Field := ⟨0x18000, 15, 0⟩
abbrev SMV_REFUSE_REASON : Field := ⟨0x18004, 15, 8⟩
abbrev SMV_REFUSE_INDEX : Field := ⟨0x18004, 7, 0⟩
abbrev SMV_DONE_MAP_CH : Field := ⟨0x18008, 15, 0⟩
abbrev SMV_ERR_MAP_CH : Field := ⟨0x1800C, 15, 0⟩
abbrev SMV_WRR_ERR_CNT_COUNT : Field := ⟨0x18010, 15, 0⟩
abbrev SMV_CH_CTL_TRIG_EN (k : Nat) : Field := ⟨0x18100 + 32 * k, 15, 15⟩
abbrev SMV_CH_CTL_TRIG (k : Nat) : Field := ⟨0x18100 + 32 * k, 14, 8⟩
abbrev SMV_CH_CTL_EN (k : Nat) : Field := ⟨0x18100 + 32 * k, 0, 0⟩
abbrev SMV_CH_HEAD_ADDR (k : Nat) : Field := ⟨0x18104 + 32 * k, 25, 0⟩
abbrev SMV_CH_CUR_ADDR (k : Nat) : Field := ⟨0x18108 + 32 * k, 25, 0⟩
abbrev SMV_CH_STATUS_TRIG_PENDING (k : Nat) : Field := ⟨0x1810C + 32 * k, 23, 16⟩
abbrev SMV_CH_STATUS_ABORTED (k : Nat) : Field := ⟨0x1810C + 32 * k, 14, 14⟩
abbrev SMV_CH_STATUS_TRIG_OVF (k : Nat) : Field := ⟨0x1810C + 32 * k, 13, 13⟩
abbrev SMV_CH_STATUS_POISON_SEEN (k : Nat) : Field := ⟨0x1810C + 32 * k, 12, 12⟩
abbrev SMV_CH_STATUS_RSTATUS (k : Nat) : Field := ⟨0x1810C + 32 * k, 10, 8⟩
abbrev SMV_CH_STATUS_ERR (k : Nat) : Field := ⟨0x1810C + 32 * k, 7, 4⟩
abbrev SMV_CH_STATUS_STATE (k : Nat) : Field := ⟨0x1810C + 32 * k, 2, 0⟩
abbrev SMV_CH_BYTES_COUNT (k : Nat) : Field := ⟨0x18110 + 32 * k, 31, 0⟩

/-! Fields of unit GTH. -/
abbrev GTH_CMD_GO (u : Nat) : Field := ⟨u * 4096 + 0x0, 31, 31⟩
abbrev GTH_CMD_OP (u : Nat) : Field := ⟨u * 4096 + 0x0, 27, 24⟩
abbrev GTH_CMD_ENTRY (u : Nat) : Field := ⟨u * 4096 + 0x0, 10, 0⟩
abbrev GTH_KEY_KEY (u : Nat) : Field := ⟨u * 4096 + 0x4, 31, 0⟩
abbrev GTH_STATUS_DIR_COPY (u : Nat) : Field := ⟨u * 4096 + 0x8, 17, 17⟩
abbrev GTH_STATUS_SOURCE (u : Nat) : Field := ⟨u * 4096 + 0x8, 16, 16⟩
abbrev GTH_STATUS_JOB (u : Nat) : Field := ⟨u * 4096 + 0x8, 13, 12⟩
abbrev GTH_STATUS_ERR (u : Nat) : Field := ⟨u * 4096 + 0x8, 11, 8⟩
abbrev GTH_STATUS_STATE (u : Nat) : Field := ⟨u * 4096 + 0x8, 1, 0⟩
abbrev GTH_ZONES_LO_ZONES (u : Nat) : Field := ⟨u * 4096 + 0xC, 31, 0⟩
abbrev GTH_ZONES_HI_ZONES (u : Nat) : Field := ⟨u * 4096 + 0x10, 31, 0⟩
abbrev GTH_DONE_LO_ZONES (u : Nat) : Field := ⟨u * 4096 + 0x14, 31, 0⟩
abbrev GTH_DONE_HI_ZONES (u : Nat) : Field := ⟨u * 4096 + 0x18, 31, 0⟩
abbrev GTH_SEG_COUNT (u : Nat) : Field := ⟨u * 4096 + 0x1C, 31, 16⟩
abbrev GTH_SEG_INDEX (u : Nat) : Field := ⟨u * 4096 + 0x1C, 15, 0⟩
abbrev GTH_BYTES_COUNT (u : Nat) : Field := ⟨u * 4096 + 0x20, 31, 0⟩
abbrev GTH_ERR_FRAME_FA (u : Nat) : Field := ⟨u * 4096 + 0x24, 31, 0⟩
abbrev GTH_AUTH_CNT_COUNT (u : Nat) : Field := ⟨u * 4096 + 0x28, 15, 0⟩
abbrev GTH_REFUSE_REASON (u : Nat) : Field := ⟨u * 4096 + 0x2C, 15, 8⟩
abbrev GTH_REFUSE_INDEX (u : Nat) : Field := ⟨u * 4096 + 0x2C, 7, 0⟩
abbrev LHR_CTL_ON_FAIL (u : Nat) : Field := ⟨u * 4096 + 0x100, 1, 1⟩
abbrev LHR_CTL_EN (u : Nat) : Field := ⟨u * 4096 + 0x100, 0, 0⟩
abbrev LHR_RATE_INTERVAL (u : Nat) : Field := ⟨u * 4096 + 0x104, 15, 0⟩
abbrev LHR_STATUS_ZONE (u : Nat) : Field := ⟨u * 4096 + 0x108, 21, 16⟩
abbrev LHR_STATUS_BAD_OVF (u : Nat) : Field := ⟨u * 4096 + 0x108, 10, 10⟩
abbrev LHR_STATUS_PASS_PARTIAL (u : Nat) : Field := ⟨u * 4096 + 0x108, 9, 9⟩
abbrev LHR_STATUS_REFETCH (u : Nat) : Field := ⟨u * 4096 + 0x108, 8, 8⟩
abbrev LHR_STATUS_STATE (u : Nat) : Field := ⟨u * 4096 + 0x108, 1, 0⟩
abbrev LHR_PASS_CNT_COUNT (u : Nat) : Field := ⟨u * 4096 + 0x10C, 31, 0⟩
abbrev LHR_PASS_TIME_US (u : Nat) : Field := ⟨u * 4096 + 0x110, 31, 0⟩
abbrev LHR_CORR_CNT_COUNT (u : Nat) : Field := ⟨u * 4096 + 0x114, 31, 0⟩
abbrev LHR_UNCORR_CNT_COUNT (u : Nat) : Field := ⟨u * 4096 + 0x118, 31, 0⟩
abbrev LHR_CORR_LAST_FA (u : Nat) : Field := ⟨u * 4096 + 0x11C, 31, 0⟩
abbrev LHR_POLICY_POLICY (u k : Nat) : Field := ⟨u * 4096 + 0x120 + 4 * k, 31, 0⟩
abbrev LHR_CMD_GO (u : Nat) : Field := ⟨u * 4096 + 0x130, 31, 31⟩
abbrev LHR_CMD_OP (u : Nat) : Field := ⟨u * 4096 + 0x130, 27, 24⟩
abbrev LHR_CMD_FORCE (u : Nat) : Field := ⟨u * 4096 + 0x130, 8, 8⟩
abbrev LHR_CMD_ZONE (u : Nat) : Field := ⟨u * 4096 + 0x130, 5, 0⟩
abbrev LHR_CMD_FA_FA (u : Nat) : Field := ⟨u * 4096 + 0x134, 31, 0⟩
abbrev LHR_CMD_STATUS_ERR (u : Nat) : Field := ⟨u * 4096 + 0x138, 11, 8⟩
abbrev LHR_CMD_STATUS_RESULT (u : Nat) : Field := ⟨u * 4096 + 0x138, 1, 0⟩
abbrev LHR_BAD_FA (u k : Nat) : Field := ⟨u * 4096 + 0x140 + 4 * k, 31, 10⟩
abbrev LHR_BAD_STATE (u k : Nat) : Field := ⟨u * 4096 + 0x140 + 4 * k, 2, 0⟩
abbrev LHR_HELD_LO_ZONES (u : Nat) : Field := ⟨u * 4096 + 0x160, 31, 0⟩
abbrev LHR_HELD_HI_ZONES (u : Nat) : Field := ⟨u * 4096 + 0x164, 31, 0⟩
abbrev LHR_REFETCH_CNT_COUNT (u : Nat) : Field := ⟨u * 4096 + 0x168, 15, 0⟩
abbrev LHR_REFUSE_REASON (u : Nat) : Field := ⟨u * 4096 + 0x16C, 15, 8⟩
abbrev LHR_REFUSE_INDEX (u : Nat) : Field := ⟨u * 4096 + 0x16C, 7, 0⟩
abbrev LHR_RB_DATA_DATA (u k : Nat) : Field := ⟨u * 4096 + 0x200 + 4 * k, 31, 0⟩
abbrev LHR_RB_CHK_CHK (u k : Nat) : Field := ⟨u * 4096 + 0x2A0 + 4 * k, 31, 0⟩
abbrev LHR_RB_CRC_COMPUTED (u : Nat) : Field := ⟨u * 4096 + 0x2B4, 31, 16⟩
abbrev LHR_RB_CRC_STORED (u : Nat) : Field := ⟨u * 4096 + 0x2B4, 15, 0⟩
abbrev LHR_RB_CORR_WORDS (u : Nat) : Field := ⟨u * 4096 + 0x2B8, 19, 0⟩
abbrev LHR_RB_UNCORR_WORDS (u : Nat) : Field := ⟨u * 4096 + 0x2BC, 19, 0⟩

/-! Fields of unit CMP. -/
abbrev CMP_STATUS_MODE (u : Nat) : Field := ⟨u * 4096 + 0x0, 1, 0⟩
abbrev CMP_CMD_REINIT (u : Nat) : Field := ⟨u * 4096 + 0x4, 0, 0⟩
abbrev CMP_ERR_CNT_COUNT (u : Nat) : Field := ⟨u * 4096 + 0x8, 15, 0⟩
abbrev CMP_PT_CTL_OPEN (u : Nat) : Field := ⟨u * 4096 + 0xC, 0, 0⟩
abbrev CMP_PT_CMD_GO (u : Nat) : Field := ⟨u * 4096 + 0x10, 31, 31⟩
abbrev CMP_PT_CMD_READ (u : Nat) : Field := ⟨u * 4096 + 0x10, 30, 30⟩
abbrev CMP_PT_CMD_DUMMY (u : Nat) : Field := ⟨u * 4096 + 0x10, 28, 24⟩
abbrev CMP_PT_CMD_ADDR_LEN (u : Nat) : Field := ⟨u * 4096 + 0x10, 23, 22⟩
abbrev CMP_PT_CMD_LEN (u : Nat) : Field := ⟨u * 4096 + 0x10, 20, 12⟩
abbrev CMP_PT_CMD_OPCODE (u : Nat) : Field := ⟨u * 4096 + 0x10, 7, 0⟩
abbrev CMP_PT_ADDR_ADDR (u : Nat) : Field := ⟨u * 4096 + 0x14, 31, 0⟩
abbrev CMP_REFUSE_REASON (u : Nat) : Field := ⟨u * 4096 + 0x18, 15, 8⟩
abbrev CMP_REFUSE_INDEX (u : Nat) : Field := ⟨u * 4096 + 0x18, 7, 0⟩
abbrev CMP_PT_DATA_DATA (u k : Nat) : Field := ⟨u * 4096 + 0x100 + 4 * k, 31, 0⟩

/-! Fields of unit GAF. -/
abbrev GAF_CTL_PORTS : Field := ⟨0x24000, 15, 8⟩
abbrev GAF_CTL_FORCE : Field := ⟨0x24000, 1, 1⟩
abbrev GAF_CTL_EN : Field := ⟨0x24000, 0, 0⟩
abbrev GAF_CMD_GO : Field := ⟨0x24004, 31, 31⟩
abbrev GAF_CMD_OP : Field := ⟨0x24004, 27, 24⟩
abbrev GAF_STATUS_CAUSE : Field := ⟨0x24008, 19, 16⟩
abbrev GAF_STATUS_PEND_PORT : Field := ⟨0x24008, 14, 12⟩
abbrev GAF_STATUS_PORT : Field := ⟨0x24008, 10, 8⟩
abbrev GAF_STATUS_PENDING : Field := ⟨0x24008, 5, 5⟩
abbrev GAF_STATUS_AUTOSWAP : Field := ⟨0x24008, 4, 4⟩
abbrev GAF_STATUS_STATE : Field := ⟨0x24008, 2, 0⟩
abbrev GAF_KEY_KEY : Field := ⟨0x2400C, 31, 0⟩
abbrev GAF_PEND_KEY_KEY : Field := ⟨0x24010, 31, 0⟩
abbrev GAF_RETRY_TICKS : Field := ⟨0x24014, 15, 0⟩
abbrev GAF_SET_ZONES (k : Nat) : Field := ⟨0x24020 + 4 * k, 31, 0⟩
abbrev GAF_CO_SET_ZONES (k : Nat) : Field := ⟨0x24040 + 4 * k, 31, 0⟩
abbrev GAF_SWAP_STATUS_UNIT : Field := ⟨0x24060, 27, 16⟩
abbrev GAF_SWAP_STATUS_REASON : Field := ⟨0x24060, 15, 8⟩
abbrev GAF_SWAP_STATUS_RESULT : Field := ⟨0x24060, 1, 0⟩
abbrev GAF_REFUSE_REASON : Field := ⟨0x24064, 15, 8⟩
abbrev GAF_REFUSE_INDEX : Field := ⟨0x24064, 7, 0⟩
abbrev GAF_SWITCH_LO_S : Field := ⟨0x24068, 31, 0⟩
abbrev GAF_SWITCH_HI_S : Field := ⟨0x2406C, 31, 0⟩

/-! Fields of unit KS. -/
abbrev KS_CMD_GO : Field := ⟨0x7000, 31, 31⟩
abbrev KS_CMD_OP : Field := ⟨0x7000, 27, 24⟩
abbrev KS_CMD_DEFER : Field := ⟨0x7000, 16, 16⟩
abbrev KS_CMD_WRAP_SLOT : Field := ⟨0x7000, 12, 8⟩
abbrev KS_CMD_SLOT : Field := ⟨0x7000, 4, 0⟩
abbrev KS_STATUS_DEFER_SLOT : Field := ⟨0x7004, 12, 8⟩
abbrev KS_STATUS_DEFER_DISCARDED : Field := ⟨0x7004, 2, 2⟩
abbrev KS_STATUS_DEFER_PENDING : Field := ⟨0x7004, 1, 1⟩
abbrev KS_STATUS_BUSY : Field := ⟨0x7004, 0, 0⟩
abbrev KS_REFUSE_REASON : Field := ⟨0x7008, 15, 8⟩
abbrev KS_REFUSE_INDEX : Field := ⟨0x7008, 7, 0⟩
abbrev KS_SEL_SLOT : Field := ⟨0x700C, 4, 0⟩
abbrev KS_SLOT_USE : Field := ⟨0x7010, 10, 8⟩
abbrev KS_SLOT_STATE : Field := ⟨0x7010, 2, 0⟩
abbrev KS_ATTR_ATTR : Field := ⟨0x7014, 31, 0⟩
abbrev KS_KCV_KCV : Field := ⟨0x7018, 31, 0⟩
abbrev KS_SUSPECT_RESULT_INVALIDATED : Field := ⟨0x701C, 15, 8⟩
abbrev KS_SUSPECT_RESULT_RESTORED : Field := ⟨0x701C, 7, 0⟩
abbrev KS_KEY_KEY (k : Nat) : Field := ⟨0x7020 + 4 * k, 31, 0⟩
abbrev KS_NEW_ATTR_ATTR : Field := ⟨0x7040, 31, 0⟩
abbrev KS_WRAP_WRAP (k : Nat) : Field := ⟨0x7060 + 4 * k, 31, 0⟩

/-! Fields of unit BG. -/
abbrev BG_STATUS_DOMAIN_LOST : Field := ⟨0x8000, 6, 6⟩
abbrev BG_STATUS_KEEP_LATCH : Field := ⟨0x8000, 5, 5⟩
abbrev BG_STATUS_DISAGREE : Field := ⟨0x8000, 4, 4⟩
abbrev BG_STATUS_ABSENT : Field := ⟨0x8000, 2, 2⟩
abbrev BG_STATUS_ABOVE_KEEP : Field := ⟨0x8000, 1, 1⟩
abbrev BG_STATUS_ABOVE_WARN : Field := ⟨0x8000, 0, 0⟩
abbrev BG_CHARGE_UC : Field := ⟨0x8004, 31, 0⟩
abbrev BG_CAPACITY_UC : Field := ⟨0x8008, 31, 0⟩
abbrev BG_OVERDRAW_UC : Field := ⟨0x800C, 31, 0⟩
abbrev BG_LOW_UC : Field := ⟨0x8010, 31, 0⟩

/-! Fields of unit TRNG. -/
abbrev TRNG_CTL_RESTART : Field := ⟨0xB000, 1, 1⟩
abbrev TRNG_CTL_EN : Field := ⟨0xB000, 0, 0⟩
abbrev TRNG_STATUS_LEVEL : Field := ⟨0xB004, 12, 8⟩
abbrev TRNG_STATUS_EMPTY_READ : Field := ⟨0xB004, 2, 2⟩
abbrev TRNG_STATUS_FAILED : Field := ⟨0xB004, 1, 1⟩
abbrev TRNG_STATUS_READY : Field := ⟨0xB004, 0, 0⟩
abbrev TRNG_DATA_DATA : Field := ⟨0xB008, 31, 0⟩
abbrev TRNG_FAIL_CNT_COUNT : Field := ⟨0xB00C, 15, 0⟩

/-! Fields of unit LC. -/
abbrev LC_STATUS_RESULT : Field := ⟨0x9000, 18, 16⟩
abbrev LC_STATUS_RETRY : Field := ⟨0x9000, 12, 12⟩
abbrev LC_STATUS_JOURNAL : Field := ⟨0x9000, 11, 8⟩
abbrev LC_STATUS_BUSY : Field := ⟨0x9000, 4, 4⟩
abbrev LC_STATUS_STATE : Field := ⟨0x9000, 2, 0⟩
abbrev LC_CMD_GO : Field := ⟨0x9004, 31, 31⟩
abbrev LC_CMD_OP : Field := ⟨0x9004, 27, 24⟩
abbrev LC_CMD_KEY : Field := ⟨0x9004, 23, 16⟩
abbrev LC_CMD_TARGET : Field := ⟨0x9004, 2, 0⟩
abbrev LC_JOURNAL_SOURCE : Field := ⟨0x9008, 23, 16⟩
abbrev LC_JOURNAL_TARGET : Field := ⟨0x9008, 15, 8⟩
abbrev LC_JOURNAL_STATUS : Field := ⟨0x9008, 7, 0⟩
abbrev LC_ROWS_VENDOR : Field := ⟨0x900C, 5, 4⟩
abbrev LC_ROWS_DEBUG : Field := ⟨0x900C, 3, 2⟩
abbrev LC_ROWS_CFG : Field := ⟨0x900C, 1, 0⟩
abbrev LC_GEN_G : Field := ⟨0x9010, 6, 0⟩
abbrev LC_HASH_HASH (k : Nat) : Field := ⟨0x9020 + 4 * k, 31, 0⟩
abbrev LC_RAW_RAW (k : Nat) : Field := ⟨0x9040 + 4 * k, 31, 0⟩
abbrev LC_REFUSE_REASON : Field := ⟨0x9050, 15, 8⟩
abbrev LC_REFUSE_INDEX : Field := ⟨0x9050, 7, 0⟩

/-! Fields of unit DA. -/
abbrev DA_RIGHTS_GRANTED : Field := ⟨0xA000, 15, 8⟩
abbrev DA_RIGHTS_BASELINE : Field := ⟨0xA000, 7, 0⟩
abbrev DA_CMD_GO : Field := ⟨0xA004, 31, 31⟩
abbrev DA_CMD_OP : Field := ⟨0xA004, 27, 24⟩
abbrev DA_STATUS_REJECT : Field := ⟨0xA008, 12, 8⟩
abbrev DA_STATUS_DENIED : Field := ⟨0xA008, 2, 2⟩
abbrev DA_STATUS_NONCE_OPEN : Field := ⟨0xA008, 1, 1⟩
abbrev DA_REFUSE_REASON : Field := ⟨0xA00C, 15, 8⟩
abbrev DA_REFUSE_INDEX : Field := ⟨0xA00C, 7, 0⟩
abbrev DA_DEVID_ID (k : Nat) : Field := ⟨0xA020 + 4 * k, 31, 0⟩
abbrev DA_CHAL_CHAL (k : Nat) : Field := ⟨0xA040 + 4 * k, 31, 0⟩
abbrev DA_BUF_DATA (k : Nat) : Field := ⟨0xA100 + 4 * k, 31, 0⟩

/-! Fields of unit PW. -/
abbrev PW_CMD_GO : Field := ⟨0x5000, 31, 31⟩
abbrev PW_CMD_TARGET : Field := ⟨0x5000, 2, 0⟩
abbrev PW_STATUS_RET_LOST : Field := ⟨0x5004, 8, 8⟩
abbrev PW_STATUS_PHASE : Field := ⟨0x5004, 6, 4⟩
abbrev PW_STATUS_STATE : Field := ⟨0x5004, 2, 0⟩
abbrev PW_REFUSE_CNT_COUNT : Field := ⟨0x5008, 15, 0⟩
abbrev PW_REFUSER_UNIT : Field := ⟨0x500C, 31, 20⟩
abbrev PW_REFUSER_KIND : Field := ⟨0x500C, 16, 16⟩
abbrev PW_REFUSER_REASON : Field := ⟨0x500C, 15, 8⟩
abbrev PW_REFUSER_EVENT : Field := ⟨0x500C, 7, 0⟩
abbrev PW_WAKE_SRC_SOURCE : Field := ⟨0x5010, 7, 0⟩
abbrev PW_DRAIN_LIMIT_US : Field := ⟨0x5014, 13, 0⟩
abbrev PW_REFUSE_REASON : Field := ⟨0x5018, 15, 8⟩
abbrev PW_REFUSE_INDEX : Field := ⟨0x5018, 7, 0⟩
abbrev PW_DOZE_MASK_ZONES (k : Nat) : Field := ⟨0x5020 + 4 * k, 31, 0⟩
abbrev PW_RET_BM0_ZONES (k : Nat) : Field := ⟨0x5040 + 4 * k, 31, 0⟩
abbrev PW_RET_BM1_ZONES (k : Nat) : Field := ⟨0x5060 + 4 * k, 31, 0⟩
abbrev PW_RET_BM2_ZONES (k : Nat) : Field := ⟨0x5080 + 4 * k, 31, 0⟩
abbrev PW_RET_POOL_BANKS : Field := ⟨0x50A0, 31, 0⟩

/-! Fields of unit EV. -/
abbrev EV_LATCH_EVENTS (k : Nat) : Field := ⟨0x6000 + 4 * k, 31, 0⟩
abbrev EV_HOST_MASK_EVENTS (k : Nat) : Field := ⟨0x6010 + 4 * k, 31, 0⟩
abbrev EV_WAKE_EVENTS (k : Nat) : Field := ⟨0x6020 + 4 * k, 31, 0⟩
abbrev EV_SEL_EVENT : Field := ⟨0x6030, 6, 0⟩
abbrev EV_INFO_RAISE_CNT : Field := ⟨0x6034, 31, 16⟩
abbrev EV_INFO_UNIT : Field := ⟨0x6034, 11, 0⟩
abbrev EV_SUB_ZONES (k : Nat) : Field := ⟨0x6040 + 4 * k, 31, 0⟩
abbrev EV_DELIV_LOST_COUNT : Field := ⟨0x6060, 15, 0⟩
abbrev EV_USER_RAISE_USER : Field := ⟨0x6064, 4, 0⟩
abbrev EV_REFUSE_REASON : Field := ⟨0x6068, 15, 8⟩
abbrev EV_REFUSE_INDEX : Field := ⟨0x6068, 7, 0⟩

/-! Fields of unit IOB. -/
abbrev IOB_CTL_VCCIO (u : Nat) : Field := ⟨u * 4096 + 0x0, 13, 12⟩
abbrev IOB_CTL_OWNER (u : Nat) : Field := ⟨u * 4096 + 0x0, 8, 8⟩
abbrev IOB_CTL_EN (u : Nat) : Field := ⟨u * 4096 + 0x0, 0, 0⟩
abbrev IOB_STATUS_VMISMATCH (u : Nat) : Field := ⟨u * 4096 + 0x4, 8, 8⟩
abbrev IOB_STATUS_SER_STALL (u : Nat) : Field := ⟨u * 4096 + 0x4, 6, 6⟩
abbrev IOB_STATUS_CAL_VALID (u : Nat) : Field := ⟨u * 4096 + 0x4, 5, 5⟩
abbrev IOB_STATUS_HOLD (u : Nat) : Field := ⟨u * 4096 + 0x4, 4, 4⟩
abbrev IOB_STATUS_VCLASS (u : Nat) : Field := ⟨u * 4096 + 0x4, 2, 0⟩
abbrev IOB_REFUSE_REASON (u : Nat) : Field := ⟨u * 4096 + 0x8, 15, 8⟩
abbrev IOB_REFUSE_INDEX (u : Nat) : Field := ⟨u * 4096 + 0x8, 7, 0⟩
abbrev IOB_PIN_SEL_PIN (u : Nat) : Field := ⟨u * 4096 + 0xC, 5, 0⟩
abbrev IOB_PIN_CFG_DIR (u : Nat) : Field := ⟨u * 4096 + 0x10, 21, 20⟩
abbrev IOB_PIN_CFG_TERM (u : Nat) : Field := ⟨u * 4096 + 0x10, 17, 16⟩
abbrev IOB_PIN_CFG_OEMODE (u : Nat) : Field := ⟨u * 4096 + 0x10, 12, 12⟩
abbrev IOB_PIN_CFG_OMODE (u : Nat) : Field := ⟨u * 4096 + 0x10, 11, 10⟩
abbrev IOB_PIN_CFG_IMODE (u : Nat) : Field := ⟨u * 4096 + 0x10, 9, 8⟩
abbrev IOB_PIN_CFG_STD (u : Nat) : Field := ⟨u * 4096 + 0x10, 4, 0⟩
abbrev IOB_DLY_OUT_TAP (u : Nat) : Field := ⟨u * 4096 + 0x14, 24, 16⟩
abbrev IOB_DLY_IN_TAP (u : Nat) : Field := ⟨u * 4096 + 0x14, 8, 0⟩
abbrev IOB_DLY_NOW_MOVING (u : Nat) : Field := ⟨u * 4096 + 0x18, 31, 31⟩
abbrev IOB_DLY_NOW_OUT (u : Nat) : Field := ⟨u * 4096 + 0x18, 24, 16⟩
abbrev IOB_DLY_NOW_IN (u : Nat) : Field := ⟨u * 4096 + 0x18, 8, 0⟩
abbrev IOB_LEVEL_LO_PINS (u : Nat) : Field := ⟨u * 4096 + 0x1C, 31, 0⟩
abbrev IOB_LEVEL_HI_PINS (u : Nat) : Field := ⟨u * 4096 + 0x20, 15, 0⟩

/-! Fields of unit IOX. -/
abbrev IOX_CTL_FORCE_SAFE : Field := ⟨0x20000, 0, 0⟩
abbrev IOX_REFUSE_REASON : Field := ⟨0x20008, 15, 8⟩
abbrev IOX_REFUSE_INDEX : Field := ⟨0x20008, 7, 0⟩
abbrev IOX_LEVEL_LO_PINS : Field := ⟨0x20010, 31, 0⟩
abbrev IOX_LEVEL_HI_PINS : Field := ⟨0x20014, 31, 0⟩
abbrev IOX_OE_LO_PINS : Field := ⟨0x20018, 31, 0⟩
abbrev IOX_OE_HI_PINS : Field := ⟨0x2001C, 31, 0⟩
abbrev IOX_CONFLICT_SIGNALS (k : Nat) : Field := ⟨0x20020 + 4 * k, 31, 0⟩
abbrev IOX_GRP_CTL_MODE (k : Nat) : Field := ⟨0x20040 + 4 * k, 8, 8⟩
abbrev IOX_GRP_CTL_EN (k : Nat) : Field := ⟨0x20040 + 4 * k, 0, 0⟩
abbrev IOX_PIN_OWNER_KIND (k : Nat) : Field := ⟨0x20100 + 16 * k, 13, 12⟩
abbrev IOX_PIN_OWNER_UNIT (k : Nat) : Field := ⟨0x20100 + 16 * k, 11, 0⟩
abbrev IOX_PIN_CFG_ALLOW_PREDICT (k : Nat) : Field := ⟨0x20104 + 16 * k, 8, 8⟩
abbrev IOX_PIN_CFG_PULL (k : Nat) : Field := ⟨0x20104 + 16 * k, 5, 4⟩
abbrev IOX_PIN_CFG_DRIVE (k : Nat) : Field := ⟨0x20104 + 16 * k, 0, 0⟩
abbrev IOX_PIN_MAP_IN (k : Nat) : Field := ⟨0x20108 + 16 * k, 23, 16⟩
abbrev IOX_PIN_MAP_OUT_B (k : Nat) : Field := ⟨0x20108 + 16 * k, 15, 8⟩
abbrev IOX_PIN_MAP_OUT_A (k : Nat) : Field := ⟨0x20108 + 16 * k, 7, 0⟩
abbrev IOX_PIN_STATE_SAFE (k : Nat) : Field := ⟨0x2010C + 16 * k, 31, 31⟩
abbrev IOX_PIN_STATE_GATED (k : Nat) : Field := ⟨0x2010C + 16 * k, 30, 30⟩
abbrev IOX_PIN_STATE_CLAIM (k : Nat) : Field := ⟨0x2010C + 16 * k, 23, 16⟩
abbrev IOX_PIN_STATE_OE (k : Nat) : Field := ⟨0x2010C + 16 * k, 1, 1⟩
abbrev IOX_PIN_STATE_LEVEL (k : Nat) : Field := ⟨0x2010C + 16 * k, 0, 0⟩
abbrev IOX_GEN_CFG_EN (k : Nat) : Field := ⟨0x20500 + 4 * k, 16, 16⟩
abbrev IOX_GEN_CFG_DEF_OE (k : Nat) : Field := ⟨0x20500 + 4 * k, 13, 13⟩
abbrev IOX_GEN_CFG_DEF_VAL (k : Nat) : Field := ⟨0x20500 + 4 * k, 12, 12⟩
abbrev IOX_GEN_CFG_DIR (k : Nat) : Field := ⟨0x20500 + 4 * k, 8, 8⟩
abbrev IOX_GEN_CFG_ZONE (k : Nat) : Field := ⟨0x20500 + 4 * k, 5, 0⟩
abbrev IOX_EVI_CFG_EDGE : Field := ⟨0x20600, 31, 0⟩

/-! Fields of unit MFE. -/
abbrev MFE_STILL_CFG_EN : Field := ⟨0x22000, 31, 31⟩
abbrev MFE_STILL_CFG_ENC : Field := ⟨0x22000, 26, 24⟩
abbrev MFE_STILL_CFG_DWELL : Field := ⟨0x22000, 23, 16⟩
abbrev MFE_STILL_CFG_THRESH : Field := ⟨0x22000, 15, 0⟩
abbrev MFE_STATUS_STILL : Field := ⟨0x22004, 0, 0⟩
abbrev MFE_REFUSE_REASON : Field := ⟨0x22008, 15, 8⟩
abbrev MFE_REFUSE_INDEX : Field := ⟨0x22008, 7, 0⟩
abbrev MFE_ENC_CFG_BITS (k : Nat) : Field := ⟨0x22100 + 32 * k, 13, 8⟩
abbrev MFE_ENC_CFG_ZMODE (k : Nat) : Field := ⟨0x22100 + 32 * k, 7, 6⟩
abbrev MFE_ENC_CFG_FILT (k : Nat) : Field := ⟨0x22100 + 32 * k, 5, 4⟩
abbrev MFE_ENC_CFG_GRAY (k : Nat) : Field := ⟨0x22100 + 32 * k, 3, 3⟩
abbrev MFE_ENC_CFG_DIR (k : Nat) : Field := ⟨0x22100 + 32 * k, 2, 2⟩
abbrev MFE_ENC_CFG_MODE (k : Nat) : Field := ⟨0x22100 + 32 * k, 1, 1⟩
abbrev MFE_ENC_CFG_EN (k : Nat) : Field := ⟨0x22100 + 32 * k, 0, 0⟩
abbrev MFE_ENC_SSI_KHZ (k : Nat) : Field := ⟨0x22104 + 32 * k, 29, 16⟩
abbrev MFE_ENC_SSI_POLL (k : Nat) : Field := ⟨0x22104 + 32 * k, 9, 0⟩
abbrev MFE_ENC_CPR_CPR (k : Nat) : Field := ⟨0x22108 + 32 * k, 31, 0⟩
abbrev MFE_ENC_POS_LO_POS (k : Nat) : Field := ⟨0x2210C + 32 * k, 31, 0⟩
abbrev MFE_ENC_POS_HI_POS (k : Nat) : Field := ⟨0x22110 + 32 * k, 15, 0⟩
abbrev MFE_ENC_ZPOS_POS (k : Nat) : Field := ⟨0x22114 + 32 * k, 31, 0⟩
abbrev MFE_ENC_STATUS_FAULT_CNT (k : Nat) : Field := ⟨0x22118 + 32 * k, 31, 16⟩
abbrev MFE_ENC_STATUS_FAULT (k : Nat) : Field := ⟨0x22118 + 32 * k, 3, 0⟩
abbrev MFE_MK_CFG_MISS_LIMIT (k : Nat) : Field := ⟨0x22200 + 64 * k, 19, 16⟩
abbrev MFE_MK_CFG_HIST (k : Nat) : Field := ⟨0x22200 + 64 * k, 12, 8⟩
abbrev MFE_MK_CFG_ENC (k : Nat) : Field := ⟨0x22200 + 64 * k, 6, 4⟩
abbrev MFE_MK_CFG_EDGE (k : Nat) : Field := ⟨0x22200 + 64 * k, 2, 2⟩
abbrev MFE_MK_CFG_EVT_EN (k : Nat) : Field := ⟨0x22200 + 64 * k, 1, 1⟩
abbrev MFE_MK_CFG_EN (k : Nat) : Field := ⟨0x22200 + 64 * k, 0, 0⟩
abbrev MFE_MK_LEAD_COUNTS (k : Nat) : Field := ⟨0x22204 + 64 * k, 23, 0⟩
abbrev MFE_MK_WINDOW_COUNTS (k : Nat) : Field := ⟨0x22208 + 64 * k, 23, 0⟩
abbrev MFE_MK_MASK_COUNTS (k : Nat) : Field := ⟨0x2220C + 64 * k, 23, 0⟩
abbrev MFE_MK_STATUS_SEQ (k : Nat) : Field := ⟨0x22210 + 64 * k, 31, 16⟩
abbrev MFE_MK_STATUS_MISSES (k : Nat) : Field := ⟨0x22210 + 64 * k, 7, 4⟩
abbrev MFE_MK_STATUS_COARSE (k : Nat) : Field := ⟨0x22210 + 64 * k, 2, 2⟩
abbrev MFE_MK_STATUS_OUTSTANDING (k : Nat) : Field := ⟨0x22210 + 64 * k, 1, 1⟩
abbrev MFE_MK_STATUS_STATE (k : Nat) : Field := ⟨0x22210 + 64 * k, 0, 0⟩
abbrev MFE_MK_PITCH_PITCH (k : Nat) : Field := ⟨0x22214 + 64 * k, 31, 0⟩
abbrev MFE_MK_NEXT_NEXT (k : Nat) : Field := ⟨0x22218 + 64 * k, 31, 0⟩
abbrev MFE_MK_TS_LO_TS (k : Nat) : Field := ⟨0x2221C + 64 * k, 31, 0⟩
abbrev MFE_MK_TS_HI_TS (k : Nat) : Field := ⟨0x22220 + 64 * k, 31, 0⟩
abbrev MFE_MK_EPOS_EPOS (k : Nat) : Field := ⟨0x22224 + 64 * k, 31, 0⟩
abbrev MFE_MK_CONFIRM_CNT_COUNT (k : Nat) : Field := ⟨0x22228 + 64 * k, 31, 0⟩
abbrev MFE_MK_CANCEL_CNT_COUNT (k : Nat) : Field := ⟨0x2222C + 64 * k, 31, 0⟩
abbrev MFE_MK_LOG0_SEQ (k : Nat) : Field := ⟨0x22800 + 16 * k, 31, 16⟩
abbrev MFE_MK_LOG0_REASON (k : Nat) : Field := ⟨0x22800 + 16 * k, 5, 4⟩
abbrev MFE_MK_LOG0_STATE (k : Nat) : Field := ⟨0x22800 + 16 * k, 1, 0⟩
abbrev MFE_MK_LOG1_PNEXT (k : Nat) : Field := ⟨0x22804 + 16 * k, 31, 0⟩
abbrev MFE_MK_LOG2_TS_LO (k : Nat) : Field := ⟨0x22808 + 16 * k, 31, 0⟩
abbrev MFE_MK_LOG3_TS_HI (k : Nat) : Field := ⟨0x2280C + 16 * k, 31, 0⟩

/-! Fields of unit CAM. -/
abbrev CAM_OUT_EN_OUT : Field := ⟨0x23000, 31, 0⟩
abbrev CAM_REFUSE_REASON : Field := ⟨0x23004, 15, 8⟩
abbrev CAM_REFUSE_INDEX : Field := ⟨0x23004, 7, 0⟩
abbrev CAM_FAULT_MAP_ENG : Field := ⟨0x23008, 15, 0⟩
abbrev CAM_ENG_CTL_START (k : Nat) : Field := ⟨0x23400 + 64 * k, 31, 16⟩
abbrev CAM_ENG_CTL_DEST (k : Nat) : Field := ⟨0x23400 + 64 * k, 13, 12⟩
abbrev CAM_ENG_CTL_HOLD_OUT (k : Nat) : Field := ⟨0x23400 + 64 * k, 9, 8⟩
abbrev CAM_ENG_CTL_MASTER (k : Nat) : Field := ⟨0x23400 + 64 * k, 6, 4⟩
abbrev CAM_ENG_CTL_EN (k : Nat) : Field := ⟨0x23400 + 64 * k, 0, 0⟩
abbrev CAM_ENG_TABLE_TABLE (k : Nat) : Field := ⟨0x23404 + 64 * k, 25, 0⟩
abbrev CAM_ENG_TCOUNT_TCOUNT (k : Nat) : Field := ⟨0x23408 + 64 * k, 15, 0⟩
abbrev CAM_ENG_PERIOD_PERIOD (k : Nat) : Field := ⟨0x2340C + 64 * k, 15, 0⟩
abbrev CAM_ENG_TARGET_DIE (k : Nat) : Field := ⟨0x23410 + 64 * k, 26, 24⟩
abbrev CAM_ENG_TARGET_ZONE (k : Nat) : Field := ⟨0x23410 + 64 * k, 21, 16⟩
abbrev CAM_ENG_TARGET_EP (k : Nat) : Field := ⟨0x23410 + 64 * k, 3, 0⟩
abbrev CAM_ENG_RING_RING (k : Nat) : Field := ⟨0x23414 + 64 * k, 25, 0⟩
abbrev CAM_ENG_RING_LEN_LEN (k : Nat) : Field := ⟨0x23418 + 64 * k, 15, 0⟩
abbrev CAM_ENG_RING_IDX_IDX (k : Nat) : Field := ⟨0x2341C + 64 * k, 15, 0⟩
abbrev CAM_ENG_STATUS_SEG (k : Nat) : Field := ⟨0x23420 + 64 * k, 31, 16⟩
abbrev CAM_ENG_STATUS_CAUSE (k : Nat) : Field := ⟨0x23420 + 64 * k, 11, 8⟩
abbrev CAM_ENG_STATUS_COMMITTED (k : Nat) : Field := ⟨0x23420 + 64 * k, 5, 5⟩
abbrev CAM_ENG_STATUS_PRED (k : Nat) : Field := ⟨0x23420 + 64 * k, 4, 4⟩
abbrev CAM_ENG_STATUS_STATE (k : Nat) : Field := ⟨0x23420 + 64 * k, 2, 0⟩
abbrev CAM_ENG_SEQ_CHAN (k : Nat) : Field := ⟨0x23424 + 64 * k, 18, 16⟩
abbrev CAM_ENG_SEQ_SEQ (k : Nat) : Field := ⟨0x23424 + 64 * k, 15, 0⟩
abbrev CAM_ENG_SP_SP (k : Nat) : Field := ⟨0x23428 + 64 * k, 31, 0⟩
abbrev CAM_ENG_CNT_LATE_CNT (k : Nat) : Field := ⟨0x2342C + 64 * k, 31, 16⟩
abbrev CAM_ENG_CNT_RETRACT_CNT (k : Nat) : Field := ⟨0x2342C + 64 * k, 15, 0⟩
abbrev CAM_ENG_SP_DROP_COUNT (k : Nat) : Field := ⟨0x23430 + 64 * k, 15, 0⟩

/-! Fields of unit IDR. -/
abbrev IDR_CMD_GO : Field := ⟨0x21000, 31, 31⟩
abbrev IDR_CMD_OP : Field := ⟨0x21000, 27, 24⟩
abbrev IDR_CMD_PORT : Field := ⟨0x21000, 18, 16⟩
abbrev IDR_CMD_LEN : Field := ⟨0x21000, 13, 8⟩
abbrev IDR_CMD_ADDR : Field := ⟨0x21000, 7, 0⟩
abbrev IDR_DELTA_DELTA : Field := ⟨0x21004, 31, 0⟩
abbrev IDR_REFUSE_REASON : Field := ⟨0x21008, 15, 8⟩
abbrev IDR_REFUSE_INDEX : Field := ⟨0x21008, 7, 0⟩
abbrev IDR_BUF_DATA (k : Nat) : Field := ⟨0x21080 + 4 * k, 31, 0⟩
abbrev IDR_PORT_CFG_WR_MS (k : Nat) : Field := ⟨0x21100 + 64 * k, 31, 24⟩
abbrev IDR_PORT_CFG_ADDR (k : Nat) : Field := ⟨0x21100 + 64 * k, 22, 16⟩
abbrev IDR_PORT_CFG_DEB_MS (k : Nat) : Field := ⟨0x21100 + 64 * k, 15, 8⟩
abbrev IDR_PORT_CFG_PAGE (k : Nat) : Field := ⟨0x21100 + 64 * k, 5, 4⟩
abbrev IDR_PORT_CFG_PRES_POL (k : Nat) : Field := ⟨0x21100 + 64 * k, 2, 2⟩
abbrev IDR_PORT_CFG_SPEED (k : Nat) : Field := ⟨0x21100 + 64 * k, 1, 1⟩
abbrev IDR_PORT_CFG_EN (k : Nat) : Field := ⟨0x21100 + 64 * k, 0, 0⟩
abbrev IDR_PORT_STATUS_NEXT_CELL (k : Nat) : Field := ⟨0x21104 + 64 * k, 19, 16⟩
abbrev IDR_PORT_STATUS_WR_STOPPED (k : Nat) : Field := ⟨0x21104 + 64 * k, 15, 15⟩
abbrev IDR_PORT_STATUS_CACHE_VALID (k : Nat) : Field := ⟨0x21104 + 64 * k, 14, 14⟩
abbrev IDR_PORT_STATUS_CNT_AMBIG (k : Nat) : Field := ⟨0x21104 + 64 * k, 13, 13⟩
abbrev IDR_PORT_STATUS_CNT_BAD (k : Nat) : Field := ⟨0x21104 + 64 * k, 12, 12⟩
abbrev IDR_PORT_STATUS_REASON (k : Nat) : Field := ⟨0x21104 + 64 * k, 11, 4⟩
abbrev IDR_PORT_STATUS_STATE (k : Nat) : Field := ⟨0x21104 + 64 * k, 2, 0⟩
abbrev IDR_PORT_COUNT_VALUE (k : Nat) : Field := ⟨0x21108 + 64 * k, 31, 0⟩
abbrev IDR_PORT_SEQ_SEQ (k : Nat) : Field := ⟨0x2110C + 64 * k, 23, 0⟩
abbrev IDR_PORT_PENDING_DELTA (k : Nat) : Field := ⟨0x21110 + 64 * k, 31, 0⟩
abbrev IDR_PORT_LOST_DELTA (k : Nat) : Field := ⟨0x21114 + 64 * k, 31, 0⟩
abbrev IDR_PORT_ERR_CNT_COUNT (k : Nat) : Field := ⟨0x21118 + 64 * k, 15, 0⟩
abbrev IDR_PORT_WR_CNT_COUNT (k : Nat) : Field := ⟨0x2111C + 64 * k, 15, 0⟩
abbrev IDR_DESC_BYTES (k : Nat) : Field := ⟨0x21800 + 4 * k, 31, 0⟩

/-! Fields of unit LQ. -/
abbrev LQ_QSTATUS_QINT (u : Nat) : Field := ⟨u * 4096 + 0x0, 29, 21⟩
abbrev LQ_QSTATUS_QFRAC (u : Nat) : Field := ⟨u * 4096 + 0x0, 20, 1⟩
abbrev LQ_QLOOP_STATE (u : Nat) : Field := ⟨u * 4096 + 0x4, 1, 0⟩
abbrev LQ_REFUSE_REASON (u : Nat) : Field := ⟨u * 4096 + 0x8, 15, 8⟩
abbrev LQ_REFUSE_INDEX (u : Nat) : Field := ⟨u * 4096 + 0x8, 7, 0⟩
abbrev LQ_LANE_CTL_MODE (u k : Nat) : Field := ⟨u * 4096 + 0x100 + 128 * k, 10, 9⟩
abbrev LQ_LANE_CTL_RX_POL (u k : Nat) : Field := ⟨u * 4096 + 0x100 + 128 * k, 8, 8⟩
abbrev LQ_LANE_CTL_TX_POL (u k : Nat) : Field := ⟨u * 4096 + 0x100 + 128 * k, 7, 7⟩
abbrev LQ_LANE_CTL_SCR_BYPASS (u k : Nat) : Field := ⟨u * 4096 + 0x100 + 128 * k, 6, 6⟩
abbrev LQ_LANE_CTL_LOOP (u k : Nat) : Field := ⟨u * 4096 + 0x100 + 128 * k, 5, 4⟩
abbrev LQ_LANE_CTL_WIDTH (u k : Nat) : Field := ⟨u * 4096 + 0x100 + 128 * k, 2, 2⟩
abbrev LQ_LANE_CTL_TX_EN (u k : Nat) : Field := ⟨u * 4096 + 0x100 + 128 * k, 1, 1⟩
abbrev LQ_LANE_CTL_EN (u k : Nat) : Field := ⟨u * 4096 + 0x100 + 128 * k, 0, 0⟩
abbrev LQ_LANE_RATE_KBPS (u k : Nat) : Field := ⟨u * 4096 + 0x104 + 128 * k, 24, 0⟩
abbrev LQ_LANE_TX_POST (u k : Nat) : Field := ⟨u * 4096 + 0x108 + 128 * k, 18, 16⟩
abbrev LQ_LANE_TX_PRE (u k : Nat) : Field := ⟨u * 4096 + 0x108 + 128 * k, 10, 8⟩
abbrev LQ_LANE_TX_SWING (u k : Nat) : Field := ⟨u * 4096 + 0x108 + 128 * k, 3, 0⟩
abbrev LQ_LANE_RX_BW (u k : Nat) : Field := ⟨u * 4096 + 0x10C + 128 * k, 9, 8⟩
abbrev LQ_LANE_RX_PEAK (u k : Nat) : Field := ⟨u * 4096 + 0x10C + 128 * k, 3, 0⟩
abbrev LQ_LANE_LOCK_LOCK_BAD (u k : Nat) : Field := ⟨u * 4096 + 0x110 + 128 * k, 22, 16⟩
abbrev LQ_LANE_LOCK_LOCK_GOOD (u k : Nat) : Field := ⟨u * 4096 + 0x110 + 128 * k, 10, 0⟩
abbrev LQ_LANE_PRBS_CHK (u k : Nat) : Field := ⟨u * 4096 + 0x114 + 128 * k, 10, 8⟩
abbrev LQ_LANE_PRBS_GEN (u k : Nat) : Field := ⟨u * 4096 + 0x114 + 128 * k, 2, 0⟩
abbrev LQ_LANE_STATUS_DIV (u k : Nat) : Field := ⟨u * 4096 + 0x118 + 128 * k, 18, 16⟩
abbrev LQ_LANE_STATUS_TX_UNDER (u k : Nat) : Field := ⟨u * 4096 + 0x118 + 128 * k, 11, 11⟩
abbrev LQ_LANE_STATUS_ECC_UNC (u k : Nat) : Field := ⟨u * 4096 + 0x118 + 128 * k, 10, 10⟩
abbrev LQ_LANE_STATUS_RX_OVF (u k : Nat) : Field := ⟨u * 4096 + 0x118 + 128 * k, 9, 9⟩
abbrev LQ_LANE_STATUS_LOCK_LOST (u k : Nat) : Field := ⟨u * 4096 + 0x118 + 128 * k, 8, 8⟩
abbrev LQ_LANE_STATUS_TX_ACTIVE (u k : Nat) : Field := ⟨u * 4096 + 0x118 + 128 * k, 4, 4⟩
abbrev LQ_LANE_STATUS_PRBS_LOCK (u k : Nat) : Field := ⟨u * 4096 + 0x118 + 128 * k, 3, 3⟩
abbrev LQ_LANE_STATUS_RX_IDLE (u k : Nat) : Field := ⟨u * 4096 + 0x118 + 128 * k, 2, 2⟩
abbrev LQ_LANE_STATUS_CDR_LOCK (u k : Nat) : Field := ⟨u * 4096 + 0x118 + 128 * k, 1, 1⟩
abbrev LQ_LANE_STATUS_BLOCK_LOCK (u k : Nat) : Field := ⟨u * 4096 + 0x118 + 128 * k, 0, 0⟩
abbrev LQ_LANE_ERR_CNT_COUNT (u k : Nat) : Field := ⟨u * 4096 + 0x11C + 128 * k, 31, 0⟩
abbrev LQ_LANE_PRBS_ERR_COUNT (u k : Nat) : Field := ⟨u * 4096 + 0x120 + 128 * k, 31, 0⟩
abbrev LQ_LANE_DROP_CNT_COUNT (u k : Nat) : Field := ⟨u * 4096 + 0x124 + 128 * k, 31, 0⟩
abbrev LQ_LANE_UNDER_CNT_COUNT (u k : Nat) : Field := ⟨u * 4096 + 0x128 + 128 * k, 31, 0⟩
abbrev LQ_LANE_SLIP_CNT_COUNT (u k : Nat) : Field := ⟨u * 4096 + 0x12C + 128 * k, 15, 0⟩
abbrev LQ_LANE_SWEEP_CTL_GO (u k : Nat) : Field := ⟨u * 4096 + 0x130 + 128 * k, 31, 31⟩
abbrev LQ_LANE_SWEEP_CTL_US (u k : Nat) : Field := ⟨u * 4096 + 0x130 + 128 * k, 13, 0⟩
abbrev LQ_LANE_TX_PAIR_ERR_COUNT (u k : Nat) : Field := ⟨u * 4096 + 0x134 + 128 * k, 15, 0⟩
abbrev LQ_LANE_SWEEP0_ERRORS (u k : Nat) : Field := ⟨u * 4096 + 0x140 + 4 * k, 31, 0⟩
abbrev LQ_LANE_SWEEP1_ERRORS (u k : Nat) : Field := ⟨u * 4096 + 0x1C0 + 4 * k, 31, 0⟩
abbrev LQ_LANE_SWEEP2_ERRORS (u k : Nat) : Field := ⟨u * 4096 + 0x240 + 4 * k, 31, 0⟩
abbrev LQ_LANE_SWEEP3_ERRORS (u k : Nat) : Field := ⟨u * 4096 + 0x2C0 + 4 * k, 31, 0⟩

end F

end Sys2Proof.Machine
end

