-- ==== Sys2Proof/Machine/RegTable.lean ====
section
/-! DEFINITION. The register map: for every unit, each register's offset and its fields with their bits,
access code (Table 00.6), reset value and legal values, as the register tables of the chapters give
them. A field whose reset the tables give as "live", "from image", "sensed" or "scan" has 0 here and is
written by the operation that it shows (the exceptions, reset values 1 of rails that are always good when readable
and of option bytes, are as the tables say). -/

namespace Sys2Proof.Machine

/-- The access codes of Table 00.6. `w1cAll` is a W1C count that a 1 in any bit clears; `woHeld` is a WO
field whose value the unit keeps for its next command though it reads 0. -/
inductive Access
  | rw | ro | wo | woHeld | w1c | w1cAll | w1s | rws | rwl | own
  deriving DecidableEq, Repr

/-- One field of a register: its bits, access code, reset value, the legal values (none listed: all) and
the reason with which another value is refused (R13). -/
structure FieldDesc where
  hi : Nat
  lo : Nat
  acc : Access
  reset : Nat
  ok : List (Nat × Nat)
  why : Reason
  deriving DecidableEq, Repr

/-- One register, or a run of `count` registers `stride` apart. -/
structure RegDesc where
  off : Nat
  count : Nat
  stride : Nat
  fields : List FieldDesc
  deriving DecidableEq, Repr

/-- A field with every value legal. -/
abbrev fd (hi lo : Nat) (acc : Access) (reset : Nat) : FieldDesc := ⟨hi, lo, acc, reset, [], .none⟩

/-- Registers of unit MG: chapter 00, 02, 03, 25, 26. -/
def regsMG : List RegDesc := [
  ⟨0x0, 1, 4, [fd 31 24 .ro 90, fd 23 8 .ro 21056, fd 7 0 .ro 176]⟩,
  ⟨0x40, 1, 4, [fd 6 6 .ro 0, fd 5 5 .ro 0, fd 4 4 .ro 0, fd 3 3 .ro 0, fd 2 2 .ro 0, fd 1 1 .ro 1, fd 0 0 .ro 1]⟩,
  ⟨0x44, 1, 4, [fd 6 6 .w1c 0, fd 5 5 .w1c 0, fd 4 4 .w1c 0, fd 3 3 .w1c 0, fd 2 2 .w1c 0]⟩,
  ⟨0x48, 1, 4, [fd 31 0 .ro 0]⟩,
  ⟨0x4C, 1, 4, [fd 31 0 .w1c 0]⟩,
  ⟨0x60, 1, 4, [fd 25 0 .rw 50000000]⟩,
  ⟨0x64, 1, 4, [fd 15 0 .ro 0]⟩,
  ⟨0x68, 1, 4, [⟨13, 0, .rw, 200, [(10, 10000)], .reservedValue⟩]⟩,
  ⟨0x6C, 1, 4, [fd 1 1 .rw 0, fd 0 0 .rw 0]⟩,
  ⟨0x70, 1, 4, [fd 3 3 .ro 0, fd 2 2 .w1c 0, fd 1 1 .w1c 0, fd 0 0 .w1c 0]⟩,
  ⟨0x80, 1, 4, [fd 31 20 .ro 0, fd 15 8 .ro 0, fd 7 0 .ro 0]⟩,
  ⟨0x84, 1, 4, [fd 15 0 .w1cAll 0]⟩,
  ⟨0x88, 1, 4, [fd 15 8 .ro 0, fd 7 0 .ro 0]⟩,
  ⟨0xA0, 1, 4, [fd 31 24 .ro 0, fd 23 16 .ro 0, fd 15 8 .ro 0, fd 7 0 .ro 0]⟩,
  ⟨0xA4, 1, 4, [fd 18 16 .ro 0, fd 15 8 .ro 0, fd 7 0 .ro 0]⟩,
  ⟨0xA8, 1, 4, [⟨9, 8, .rws, 1, [(0, 2)], .reservedValue⟩, ⟨7, 0, .rws, 100, [(60, 110)], .reservedValue⟩]⟩,
  ⟨0xAC, 1, 4, [fd 2 2 .ro 0, fd 1 1 .w1c 0, fd 0 0 .w1c 0]⟩]

/-- Registers of unit BR: chapter 02 (Tables 02.14 to 02.18). -/
def regsBR : List RegDesc := [
  ⟨0x0, 1, 4, [fd 0 0 .w1s 0]⟩,
  ⟨0x4, 1, 4, [fd 15 12 .ro 0, fd 7 4 .ro 0, fd 2 0 .ro 0]⟩,
  ⟨0x8, 1, 4, [fd 15 0 .ro 0]⟩,
  ⟨0xC, 1, 4, [⟨23, 8, .rw, 100, [(1, 10000)], .reservedValue⟩, ⟨7, 0, .rw, 16, [(1, 255)], .reservedValue⟩]⟩,
  ⟨0x10, 1, 4, [fd 15 8 .ro 0, fd 7 0 .ro 0]⟩]

/-- Registers of unit HL: chapter 03. -/
def regsHL : List RegDesc := [
  ⟨0x0, 1, 4, [fd 15 8 .ro 0, fd 1 1 .ro 0, fd 0 0 .ro 1]⟩,
  ⟨0x4, 1, 4, [fd 16 0 .rw 0]⟩,
  ⟨0x8, 1, 4, [fd 15 0 .w1cAll 0]⟩,
  ⟨0xC, 1, 4, [fd 15 0 .w1cAll 0]⟩,
  ⟨0x10, 1, 4, [fd 15 0 .w1cAll 0]⟩,
  ⟨0x14, 1, 4, [fd 15 8 .ro 0, fd 7 0 .ro 0]⟩]

/-- Registers of unit ORM: chapter 04. -/
def regsORM : List RegDesc := [
  ⟨0x0, 1, 4, [fd 31 31 .w1s 0, fd 7 0 .rw 0]⟩,
  ⟨0x4, 1, 4, [fd 15 8 .ro 0, fd 3 2 .ro 0, fd 1 1 .ro 0, fd 0 0 .ro 0]⟩,
  ⟨0x8, 1, 4, [fd 15 8 .ro 0, fd 7 0 .ro 0]⟩,
  ⟨0xC, 1, 4, [fd 7 0 .rw 0]⟩,
  ⟨0x10, 1, 4, [fd 31 16 .ro 0, fd 1 0 .ro 0]⟩,
  ⟨0x14, 1, 4, [fd 16 0 .ro 0]⟩,
  ⟨0x18, 1, 4, [fd 9 7 .ro 0, fd 6 4 .ro 0, fd 1 0 .ro 0]⟩,
  ⟨0x1C, 1, 4, [fd 31 0 .ro 0]⟩,
  ⟨0x20, 8, 4, [fd 31 0 .w1c 0]⟩,
  ⟨0x40, 16, 4, [fd 31 0 .rw 4294967295]⟩,
  ⟨0x80, 3, 4, [fd 31 0 .ro 0]⟩]

/-- Registers of unit RS: chapter 05. -/
def regsRS : List RegDesc := [
  ⟨0x0, 1, 4, [fd 31 24 .wo 0, fd 0 0 .w1s 0]⟩,
  ⟨0x4, 1, 4, [fd 6 4 .ro 0, fd 3 0 .ro 0]⟩,
  ⟨0x8, 1, 4, [fd 25 25 .w1c 0, fd 24 24 .ro 0, fd 23 20 .ro 0, fd 19 16 .ro 0, fd 3 0 .ro 1]⟩,
  ⟨0xC, 1, 4, [fd 15 12 .ro 0, fd 11 8 .ro 0, fd 7 4 .ro 0, fd 3 0 .ro 0]⟩,
  ⟨0x10, 1, 4, [fd 2 2 .rws 0, fd 1 1 .rws 0, fd 0 0 .rws 0]⟩,
  ⟨0x14, 1, 4, [⟨15, 0, .rw, 500, [(100, 65535)], .timeoutRange⟩]⟩,
  ⟨0x18, 1, 4, [fd 15 0 .wo 0]⟩,
  ⟨0x1C, 1, 4, [fd 15 0 .ro 0]⟩,
  ⟨0x20, 1, 4, [fd 15 8 .ro 0, fd 7 0 .ro 0]⟩]

/-- Registers of unit CK: chapter 06. -/
def regsCK : List RegDesc := [
  ⟨0x0, 1, 4, [fd 15 15 .w1c 0, fd 14 14 .ro 0, fd 11 8 .ro 0, fd 7 7 .ro 0, fd 6 4 .ro 0, fd 1 0 .ro 0]⟩,
  ⟨0x4, 1, 4, [⟨6, 0, .rws, 60, [(48, 64)], .divRange⟩]⟩,
  ⟨0x8, 1, 4, [fd 1 1 .w1s 0, fd 0 0 .w1s 0]⟩,
  ⟨0xC, 1, 4, [fd 31 0 .ro 0]⟩,
  ⟨0x10, 1, 4, [fd 31 0 .ro 0]⟩,
  ⟨0x14, 1, 4, [fd 15 0 .ro 0]⟩,
  ⟨0x18, 1, 4, [fd 31 0 .ro 0]⟩,
  ⟨0x1C, 1, 4, [fd 31 0 .ro 0]⟩,
  ⟨0x20, 1, 4, [fd 18 0 .ro 416666]⟩,
  ⟨0x24, 1, 4, [fd 15 0 .ro 0]⟩,
  ⟨0x28, 1, 4, [fd 15 0 .w1cAll 0]⟩,
  ⟨0x2C, 1, 4, [fd 19 0 .ro 0]⟩,
  ⟨0x30, 1, 4, [fd 15 8 .ro 0, fd 7 0 .ro 0]⟩]

/-- Registers of unit SLP: chapter 06. -/
def regsSLP : List RegDesc := [
  ⟨0x0, 1, 4, [fd 4 4 .ro 0, fd 2 0 .ro 0]⟩,
  ⟨0x4, 1, 4, [fd 15 0 .w1c 0]⟩]

/-- Registers of unit ZN: chapter 06, 07, 08, 10, 11, 14, 19, 22. -/
def regsZN0 : List RegDesc := [
  ⟨0x80, 1, 4, [fd 10 8 .ro 0, fd 5 3 .ro 0, fd 2 0 .ro 0]⟩,
  ⟨0x84, 1, 4, [fd 31 16 .ro 0, fd 15 0 .ro 0]⟩,
  ⟨0x88, 1, 4, [fd 31 16 .ro 0, fd 15 0 .ro 0]⟩,
  ⟨0x8C, 1, 4, [fd 31 0 .w1cAll 0]⟩,
  ⟨0x90, 1, 4, [fd 4 4 .rw 0, fd 3 0 .rw 0]⟩,
  ⟨0x94, 1, 4, [fd 31 0 .ro 0]⟩,
  ⟨0x100, 1, 4, [fd 17 17 .w1s 0, fd 16 16 .w1s 0, fd 13 13 .rw 0, fd 12 0 .rw 0]⟩,
  ⟨0x104, 1, 4, [fd 31 28 .ro 0, fd 25 25 .w1c 0, fd 24 24 .w1c 0, fd 16 16 .ro 0, fd 12 0 .ro 0]⟩,
  ⟨0x108, 1, 4, [⟨24, 16, .rw, 100, [(1, 500)], .timeoutRange⟩, fd 4 4 .rw 0, fd 2 2 .rw 0, ⟨1, 0, .rw, 0, [(0, 2)], .reservedValue⟩]⟩,
  ⟨0x10C, 1, 4, [⟨26, 16, .rw, 64, [(16, 1024)], .reservedValue⟩, ⟨4, 0, .rw, 4, [(1, 16)], .reservedValue⟩]⟩,
  ⟨0x110, 1, 4, [fd 15 0 .ro 0]⟩,
  ⟨0x114, 1, 4, [fd 31 31 .ro 0, fd 15 0 .ro 0]⟩,
  ⟨0x118, 1, 4, [fd 15 8 .ro 0, fd 7 0 .ro 0]⟩,
  ⟨0x180, 1, 4, [fd 8 8 .ro 0, fd 7 7 .ro 0, fd 6 4 .ro 0, fd 3 3 .ro 0, fd 2 0 .ro 0]⟩,
  ⟨0x184, 2, 4, [fd 31 0 .ro 0]⟩,
  ⟨0x18C, 1, 4, [fd 18 18 .w1c 0, fd 17 17 .w1c 0, fd 16 16 .ro 0, fd 2 0 .ro 0]⟩,
  ⟨0x190, 1, 4, [fd 31 16 .ro 0, fd 15 0 .ro 0]⟩,
  ⟨0x1A0, 1, 4, [fd 15 0 .w1c 0]⟩,
  ⟨0x200, 1, 4, [fd 31 0 .ro 0]⟩,
  ⟨0x204, 1, 4, [fd 15 0 .ro 0]⟩,
  ⟨0x208, 1, 4, [fd 31 0 .ro 0]⟩,
  ⟨0x20C, 1, 4, [fd 15 0 .ro 0]⟩,
  ⟨0x210, 1, 4, [fd 31 0 .ro 0]⟩,
  ⟨0x214, 1, 4, [fd 15 0 .ro 0]⟩,
  ⟨0x218, 1, 4, [fd 31 0 .w1cAll 0]⟩]

/-- Registers of unit ZN: chapter 06, 07, 08, 10, 11, 14, 19, 22. -/
def regsZN1 : List RegDesc := [
  ⟨0x21C, 1, 4, [fd 31 0 .w1cAll 0]⟩,
  ⟨0x220, 1, 4, [fd 31 0 .w1cAll 0]⟩,
  ⟨0x224, 1, 4, [fd 31 31 .w1c 0, fd 29 24 .ro 0, fd 23 22 .ro 0, fd 8 0 .ro 0]⟩,
  ⟨0x230, 1, 4, [⟨5, 0, .rw, 0, [(0, 47)], .reservedValue⟩]⟩,
  ⟨0x234, 1, 4, [fd 31 29 .ro 0, fd 28 14 .ro 0, fd 4 4 .ro 0, fd 3 3 .ro 0, fd 2 0 .ro 0]⟩,
  ⟨0x238, 1, 4, [fd 30 16 .rw 0, fd 14 0 .rw 0]⟩,
  ⟨0x23C, 1, 4, [fd 30 16 .ro 0, fd 5 5 .w1c 0, fd 4 4 .w1c 0, fd 3 3 .ro 0, fd 2 2 .ro 1, fd 1 1 .ro 0, fd 0 0 .ro 1]⟩,
  ⟨0x240, 1, 4, [fd 31 0 .w1c 0]⟩,
  ⟨0x244, 1, 4, [fd 31 0 .w1c 0]⟩,
  ⟨0x280, 1, 4, [⟨5, 0, .rw, 0, [(0, 47)], .reservedValue⟩]⟩,
  ⟨0x284, 1, 4, [fd 0 0 .rw 0]⟩,
  ⟨0x288, 1, 4, [fd 15 8 .rw 0, fd 7 0 .rw 0]⟩,
  ⟨0x28C, 1, 4, [fd 15 8 .ro 0, fd 7 0 .ro 0]⟩,
  ⟨0x290, 1, 4, [fd 31 0 .rw 0]⟩,
  ⟨0x294, 1, 4, [fd 31 0 .rw 0]⟩,
  ⟨0x298, 1, 4, [fd 7 0 .rw 0]⟩,
  ⟨0x29C, 1, 4, [fd 1 1 .w1c 0, fd 0 0 .w1s 0]⟩,
  ⟨0x340, 1, 4, [fd 31 31 .w1s 0, fd 0 0 .rw 0]⟩,
  ⟨0x344, 1, 4, [⟨13, 0, .rw, 10, [(1, 10000)], .timeoutRange⟩]⟩,
  ⟨0x348, 1, 4, [fd 10 10 .w1c 0, fd 9 9 .w1c 0, fd 8 8 .w1c 0, fd 2 0 .ro 0]⟩,
  ⟨0xF00, 16, 8, [fd 31 0 .wo 0]⟩,
  ⟨0xF04, 16, 8, [fd 3 0 .wo 0]⟩]

/-- Registers of unit ZN. -/
def regsZN : List RegDesc := regsZN0 ++ regsZN1

/-- Registers of unit DR: chapter 07, 09, 10. -/
def regsDR : List RegDesc := [
  ⟨0x0, 1, 4, [fd 0 0 .w1s 0]⟩,
  ⟨0x4, 1, 4, [fd 15 0 .ro 0]⟩,
  ⟨0x8, 1, 4, [fd 15 0 .ro 0]⟩,
  ⟨0xC, 1, 4, [fd 15 0 .ro 0]⟩,
  ⟨0x10, 1, 4, [fd 31 0 .ro 0]⟩,
  ⟨0x14, 1, 4, [fd 31 0 .ro 0]⟩,
  ⟨0x18, 1, 4, [fd 31 31 .ro 0, fd 27 26 .ro 0, fd 25 25 .ro 0, fd 24 24 .ro 0, fd 23 16 .ro 0, fd 9 0 .ro 0]⟩,
  ⟨0x100, 1, 4, [fd 31 0 .ro 0]⟩,
  ⟨0x104, 1, 4, [fd 31 0 .ro 0]⟩,
  ⟨0x108, 1, 4, [fd 7 0 .ro 0]⟩,
  ⟨0x10C, 1, 4, [⟨6, 0, .rw, 0, [(0, 69), (96, 96), (98, 98)], .reservedValue⟩]⟩,
  ⟨0x110, 1, 4, [fd 31 31 .ro 0, fd 26 24 .ro 0]⟩,
  ⟨0x114, 1, 4, [fd 31 0 .ro 0]⟩,
  ⟨0x118, 1, 4, [fd 0 0 .w1s 0]⟩,
  ⟨0x11C, 1, 4, [⟨16, 0, .rw, 1000, [(10, 100000)], .timeoutRange⟩]⟩,
  ⟨0x120, 1, 4, [fd 15 0 .w1c 0]⟩,
  ⟨0x124, 1, 4, [fd 15 8 .ro 0, fd 7 0 .ro 0]⟩,
  ⟨0x200, 1, 4, [fd 15 0 .ro 0]⟩,
  ⟨0x204, 4, 4, [fd 15 0 .ro 0]⟩,
  ⟨0x214, 1, 4, [fd 15 0 .ro 65535]⟩,
  ⟨0x218, 1, 4, [fd 31 31 .w1s 0, fd 15 0 .rw 1300]⟩,
  ⟨0x21C, 1, 4, [fd 0 0 .w1c 0]⟩]

/-- Registers of unit SPN: chapter 09, 10. -/
def regsSPN : List RegDesc := [
  ⟨0x0, 1, 4, [fd 0 0 .w1s 0]⟩,
  ⟨0x4, 1, 4, [fd 15 0 .ro 0]⟩,
  ⟨0x8, 1, 4, [fd 15 0 .ro 0]⟩,
  ⟨0xC, 1, 4, [fd 15 0 .ro 0]⟩,
  ⟨0x10, 1, 4, [fd 31 0 .ro 0]⟩,
  ⟨0x14, 1, 4, [fd 31 0 .ro 0]⟩,
  ⟨0x18, 1, 4, [fd 31 31 .ro 0, fd 27 26 .ro 0, fd 25 25 .ro 0, fd 24 24 .ro 0, fd 23 16 .ro 0, fd 9 0 .ro 0]⟩,
  ⟨0x1C, 1, 4, [fd 31 0 .ro 0]⟩,
  ⟨0x20, 1, 4, [fd 31 0 .ro 0]⟩,
  ⟨0x100, 1, 4, [fd 31 0 .ro 0]⟩,
  ⟨0x104, 1, 4, [fd 31 0 .ro 0]⟩,
  ⟨0x108, 1, 4, [fd 7 0 .ro 0]⟩,
  ⟨0x10C, 1, 4, [⟨6, 0, .rw, 0, [(0, 69), (96, 96), (98, 98)], .reservedValue⟩]⟩,
  ⟨0x110, 1, 4, [fd 31 31 .ro 0, fd 26 24 .ro 0]⟩,
  ⟨0x114, 1, 4, [fd 31 0 .ro 0]⟩,
  ⟨0x118, 1, 4, [fd 0 0 .w1s 0]⟩,
  ⟨0x11C, 1, 4, [⟨16, 0, .rw, 1000, [(10, 100000)], .timeoutRange⟩]⟩,
  ⟨0x120, 1, 4, [fd 15 0 .w1c 0]⟩,
  ⟨0x124, 1, 4, [fd 15 8 .ro 0, fd 7 0 .ro 0]⟩]

/-- Registers of unit INIT: chapter 10 (Table 10.6), 11 (Table 11.6). -/
def regsINIT : List RegDesc := [
  ⟨0x300, 3, 4, [⟨19, 0, .rw, 100, [(1, 1000000)], .timeoutRange⟩]⟩,
  ⟨0x30C, 1, 4, [⟨19, 0, .rw, 10000, [(1, 1000000)], .timeoutRange⟩]⟩,
  ⟨0x310, 1, 4, [⟨19, 0, .rw, 10, [(1, 1000000)], .timeoutRange⟩]⟩,
  ⟨0x314, 1, 4, [fd 15 0 .w1cAll 0]⟩,
  ⟨0x318, 1, 4, [fd 15 0 .w1cAll 0]⟩,
  ⟨0x31C, 1, 4, [fd 15 0 .w1cAll 0]⟩,
  ⟨0x320, 1, 4, [fd 15 0 .w1cAll 0]⟩,
  ⟨0x324, 1, 4, [fd 31 22 .ro 0, fd 13 8 .ro 0, fd 6 0 .ro 0]⟩,
  ⟨0x328, 1, 4, [fd 3 0 .rw 8]⟩,
  ⟨0x32C, 1, 4, [fd 15 0 .w1cAll 0]⟩]

/-- Registers of unit CUL: chapter 10 (Table 10.9). -/
def regsCUL : List RegDesc := [
  ⟨0x0, 1, 4, [fd 0 0 .w1s 0]⟩,
  ⟨0x4, 1, 4, [fd 31 16 .ro 0, fd 7 0 .ro 0]⟩,
  ⟨0x8, 1, 4, [fd 7 0 .rw 0]⟩,
  ⟨0xC, 6, 4, [fd 31 0 .ro 0]⟩]

/-- Registers of unit PL: chapter 11, 12. -/
def regsPL : List RegDesc := [
  ⟨0x0, 4, 4, [⟨4, 0, .rw, 0, [(0, 21)], .reservedValue⟩]⟩,
  ⟨0x10, 1, 4, [⟨13, 0, .rw, 20, [(1, 10000)], .timeoutRange⟩]⟩,
  ⟨0x14, 1, 4, [fd 19 16 .w1c 0, fd 3 0 .ro 0]⟩,
  ⟨0x20, 4, 4, [fd 10 0 .ro 0]⟩,
  ⟨0x30, 1, 4, [fd 15 8 .ro 0, fd 7 0 .ro 0]⟩,
  ⟨0x80, 1, 4, [fd 1 0 .rw 0]⟩,
  ⟨0x84, 1, 4, [fd 0 0 .rw 0]⟩,
  ⟨0x88, 1, 4, [fd 15 8 .rw 0, fd 7 0 .rw 0]⟩,
  ⟨0x8C, 1, 4, [fd 15 8 .ro 0, fd 7 0 .ro 0]⟩,
  ⟨0x90, 1, 4, [fd 31 0 .rw 0]⟩,
  ⟨0x94, 1, 4, [fd 31 0 .rw 0]⟩,
  ⟨0x98, 1, 4, [fd 7 0 .rw 0]⟩,
  ⟨0x9C, 1, 4, [fd 1 1 .w1c 0, fd 0 0 .w1s 0]⟩,
  ⟨0xC0, 1, 4, [fd 10 8 .rwl 0, fd 0 0 .rw 0]⟩,
  ⟨0xC4, 1, 4, [fd 1 0 .ro 0]⟩]

/-- Registers of unit SMV: chapter 12. -/
def regsSMV : List RegDesc := [
  ⟨0x0, 1, 4, [fd 15 0 .ro 0]⟩,
  ⟨0x4, 1, 4, [fd 15 8 .ro 0, fd 7 0 .ro 0]⟩,
  ⟨0x8, 1, 4, [fd 15 0 .w1c 0]⟩,
  ⟨0xC, 1, 4, [fd 15 0 .w1c 0]⟩,
  ⟨0x10, 1, 4, [fd 15 0 .w1cAll 0]⟩,
  ⟨0x100, 16, 32, [fd 15 15 .rwl 0, fd 14 8 .rwl 0, fd 0 0 .rw 0]⟩,
  ⟨0x104, 16, 32, [fd 25 0 .rwl 0]⟩,
  ⟨0x108, 16, 32, [fd 25 0 .ro 0]⟩,
  ⟨0x10C, 16, 32, [fd 23 16 .ro 0, fd 14 14 .w1c 0, fd 13 13 .w1c 0, fd 12 12 .w1c 0, fd 10 8 .ro 0, fd 7 4 .ro 0, fd 2 0 .ro 0]⟩,
  ⟨0x110, 16, 32, [fd 31 0 .ro 0]⟩]

/-- Registers of unit GTH: chapter 13 (Table 13.10), 15 (Table 15.4). -/
def regsGTH0 : List RegDesc := [
  ⟨0x0, 1, 4, [fd 31 31 .w1s 0, ⟨27, 24, .rw, 0, [(1, 3)], .reservedValue⟩, fd 10 0 .rw 0]⟩,
  ⟨0x4, 1, 4, [fd 31 0 .rw 0]⟩,
  ⟨0x8, 1, 4, [fd 17 17 .ro 0, fd 16 16 .ro 0, fd 13 12 .ro 0, fd 11 8 .ro 0, fd 1 0 .ro 0]⟩,
  ⟨0xC, 1, 4, [fd 31 0 .ro 0]⟩,
  ⟨0x10, 1, 4, [fd 31 0 .ro 0]⟩,
  ⟨0x14, 1, 4, [fd 31 0 .ro 0]⟩,
  ⟨0x18, 1, 4, [fd 31 0 .ro 0]⟩,
  ⟨0x1C, 1, 4, [fd 31 16 .ro 0, fd 15 0 .ro 0]⟩,
  ⟨0x20, 1, 4, [fd 31 0 .ro 0]⟩,
  ⟨0x24, 1, 4, [fd 31 0 .ro 0]⟩,
  ⟨0x28, 1, 4, [fd 15 0 .w1cAll 0]⟩,
  ⟨0x2C, 1, 4, [fd 15 8 .ro 0, fd 7 0 .ro 0]⟩,
  ⟨0x100, 1, 4, [fd 1 1 .rw 0, fd 0 0 .rw 1]⟩,
  ⟨0x104, 1, 4, [⟨15, 0, .rw, 10, [(8, 65535)], .reservedValue⟩]⟩,
  ⟨0x108, 1, 4, [fd 21 16 .ro 0, fd 10 10 .w1c 0, fd 9 9 .w1c 0, fd 8 8 .ro 0, fd 1 0 .ro 0]⟩,
  ⟨0x10C, 1, 4, [fd 31 0 .ro 0]⟩,
  ⟨0x110, 1, 4, [fd 31 0 .ro 0]⟩,
  ⟨0x114, 1, 4, [fd 31 0 .w1cAll 0]⟩,
  ⟨0x118, 1, 4, [fd 31 0 .w1cAll 0]⟩,
  ⟨0x11C, 1, 4, [fd 31 0 .ro 0]⟩,
  ⟨0x120, 4, 4, [fd 31 0 .rwl 1431655765]⟩,
  ⟨0x130, 1, 4, [fd 31 31 .w1s 0, fd 27 24 .rw 0, fd 8 8 .rw 0, fd 5 0 .rw 0]⟩,
  ⟨0x134, 1, 4, [fd 31 0 .rw 0]⟩,
  ⟨0x138, 1, 4, [fd 11 8 .ro 0, fd 1 0 .ro 0]⟩,
  ⟨0x140, 8, 4, [fd 31 10 .ro 0, fd 2 0 .ro 0]⟩]

/-- Registers of unit GTH: chapter 13 (Table 13.10), 15 (Table 15.4). -/
def regsGTH1 : List RegDesc := [
  ⟨0x160, 1, 4, [fd 31 0 .ro 0]⟩,
  ⟨0x164, 1, 4, [fd 31 0 .ro 0]⟩,
  ⟨0x168, 1, 4, [fd 15 0 .w1c 0]⟩,
  ⟨0x16C, 1, 4, [fd 15 8 .ro 0, fd 7 0 .ro 0]⟩,
  ⟨0x200, 40, 4, [fd 31 0 .ro 0]⟩,
  ⟨0x2A0, 5, 4, [fd 31 0 .ro 0]⟩,
  ⟨0x2B4, 1, 4, [fd 31 16 .ro 0, fd 15 0 .ro 0]⟩,
  ⟨0x2B8, 1, 4, [fd 19 0 .ro 0]⟩,
  ⟨0x2BC, 1, 4, [fd 19 0 .ro 0]⟩]

/-- Registers of unit GTH. -/
def regsGTH : List RegDesc := regsGTH0 ++ regsGTH1

/-- Registers of unit CMP: chapter 13 (Table 13.11). -/
def regsCMP : List RegDesc := [
  ⟨0x0, 1, 4, [fd 1 0 .ro 0]⟩,
  ⟨0x4, 1, 4, [fd 0 0 .w1s 0]⟩,
  ⟨0x8, 1, 4, [fd 15 0 .w1c 0]⟩,
  ⟨0xC, 1, 4, [fd 0 0 .rw 0]⟩,
  ⟨0x10, 1, 4, [fd 31 31 .w1s 0, fd 30 30 .rw 0, ⟨28, 24, .rw, 0, [(0, 30)], .reservedValue⟩, ⟨23, 22, .rw, 0, [(0, 0), (2, 3)], .reservedValue⟩, ⟨20, 12, .rw, 0, [(0, 256)], .reservedValue⟩, fd 7 0 .rw 0]⟩,
  ⟨0x14, 1, 4, [fd 31 0 .rw 0]⟩,
  ⟨0x18, 1, 4, [fd 15 8 .ro 0, fd 7 0 .ro 0]⟩,
  ⟨0x100, 64, 4, [fd 31 0 .rw 0]⟩]

/-- Registers of unit GAF: chapter 14 (Table 14.8). -/
def regsGAF : List RegDesc := [
  ⟨0x0, 1, 4, [fd 15 8 .rwl 0, fd 1 1 .rw 0, fd 0 0 .rw 0]⟩,
  ⟨0x4, 1, 4, [fd 31 31 .w1s 0, fd 27 24 .rw 0]⟩,
  ⟨0x8, 1, 4, [fd 19 16 .ro 0, fd 14 12 .ro 0, fd 10 8 .ro 0, fd 5 5 .ro 0, fd 4 4 .ro 0, fd 2 0 .ro 0]⟩,
  ⟨0xC, 1, 4, [fd 31 0 .ro 0]⟩,
  ⟨0x10, 1, 4, [fd 31 0 .ro 0]⟩,
  ⟨0x14, 1, 4, [⟨15, 0, .rw, 1000, [(1, 65535)], .timeoutRange⟩]⟩,
  ⟨0x20, 8, 4, [fd 31 0 .rw 0]⟩,
  ⟨0x40, 8, 4, [fd 31 0 .ro 0]⟩,
  ⟨0x60, 1, 4, [fd 27 16 .ro 0, fd 15 8 .ro 0, fd 1 0 .ro 0]⟩,
  ⟨0x64, 1, 4, [fd 15 8 .ro 0, fd 7 0 .ro 0]⟩,
  ⟨0x68, 1, 4, [fd 31 0 .ro 0]⟩,
  ⟨0x6C, 1, 4, [fd 31 0 .ro 0]⟩]

/-- Registers of unit KS: chapter 16 (Table 16.8). -/
def regsKS : List RegDesc := [
  ⟨0x0, 1, 4, [fd 31 31 .w1s 0, ⟨27, 24, .rw, 0, [(1, 6)], .reservedValue⟩, fd 16 16 .rw 0,
    ⟨12, 8, .rw, 0, [(0, 1), (16, 23)], .reservedValue⟩, ⟨4, 0, .rw, 0, [(0, 1), (16, 23)], .reservedValue⟩]⟩,
  ⟨0x4, 1, 4, [fd 12 8 .ro 0, fd 2 2 .w1c 0, fd 1 1 .ro 0, fd 0 0 .ro 0]⟩,
  ⟨0x8, 1, 4, [fd 15 8 .ro 0, fd 7 0 .ro 0]⟩,
  ⟨0xC, 1, 4, [⟨4, 0, .rw, 0, [(0, 1), (16, 23)], .reservedValue⟩]⟩,
  ⟨0x10, 1, 4, [fd 10 8 .ro 0, fd 2 0 .ro 0]⟩,
  ⟨0x14, 1, 4, [fd 31 0 .ro 0]⟩,
  ⟨0x18, 1, 4, [fd 31 0 .ro 0]⟩,
  ⟨0x1C, 1, 4, [fd 15 8 .ro 0, fd 7 0 .ro 0]⟩,
  ⟨0x20, 8, 4, [fd 31 0 .woHeld 0]⟩,
  ⟨0x40, 1, 4, [fd 31 0 .rw 0]⟩,
  ⟨0x60, 12, 4, [fd 31 0 .woHeld 0]⟩]

/-- Registers of unit BG: chapter 16 (Table 16.9). -/
def regsBG : List RegDesc := [
  ⟨0x0, 1, 4, [fd 6 6 .w1c 0, fd 5 5 .ro 0, fd 4 4 .ro 0, fd 2 2 .ro 0, fd 1 1 .ro 0, fd 0 0 .ro 0]⟩,
  ⟨0x4, 1, 4, [fd 31 0 .rw 0]⟩,
  ⟨0x8, 1, 4, [fd 31 0 .rw 0]⟩,
  ⟨0xC, 1, 4, [fd 31 0 .w1cAll 0]⟩,
  ⟨0x10, 1, 4, [fd 31 0 .rw 0]⟩]

/-- Registers of unit TRNG: chapter 16 (Table 16.10). -/
def regsTRNG : List RegDesc := [
  ⟨0x0, 1, 4, [fd 1 1 .w1s 0, fd 0 0 .rw 1]⟩,
  ⟨0x4, 1, 4, [fd 12 8 .ro 0, fd 2 2 .w1c 0, fd 1 1 .ro 0, fd 0 0 .ro 0]⟩,
  ⟨0x8, 1, 4, [fd 31 0 .ro 0]⟩,
  ⟨0xC, 1, 4, [fd 15 0 .w1c 0]⟩]

/-- Registers of unit LC: chapter 17 (Table 17.12). -/
def regsLC : List RegDesc := [
  ⟨0x0, 1, 4, [fd 18 16 .ro 0, fd 12 12 .ro 0, fd 11 8 .ro 0, fd 4 4 .ro 0, fd 2 0 .ro 0]⟩,
  ⟨0x4, 1, 4, [fd 31 31 .w1s 0, ⟨27, 24, .rw, 0, [(1, 4)], .reservedValue⟩, fd 23 16 .wo 0,
    ⟨2, 0, .rw, 0, [(0, 5), (7, 7)], .reservedValue⟩]⟩,
  ⟨0x8, 1, 4, [fd 23 16 .ro 0, fd 15 8 .ro 0, fd 7 0 .ro 0]⟩,
  ⟨0xC, 1, 4, [fd 5 4 .ro 0, fd 3 2 .ro 0, fd 1 0 .ro 0]⟩,
  ⟨0x10, 1, 4, [fd 6 0 .ro 0]⟩,
  ⟨0x20, 8, 4, [fd 31 0 .woHeld 0]⟩,
  ⟨0x40, 4, 4, [fd 31 0 .ro 0]⟩,
  ⟨0x50, 1, 4, [fd 15 8 .ro 0, fd 7 0 .ro 0]⟩]

/-- Registers of unit DA: chapter 17 (Table 17.13). -/
def regsDA : List RegDesc := [
  ⟨0x0, 1, 4, [fd 15 8 .ro 0, fd 7 0 .ro 0]⟩,
  ⟨0x4, 1, 4, [fd 31 31 .w1s 0, ⟨27, 24, .rw, 0, [(1, 3)], .reservedValue⟩]⟩,
  ⟨0x8, 1, 4, [fd 12 8 .ro 0, fd 2 2 .w1c 0, fd 1 1 .ro 0]⟩,
  ⟨0xC, 1, 4, [fd 15 8 .ro 0, fd 7 0 .ro 0]⟩,
  ⟨0x20, 8, 4, [fd 31 0 .ro 0]⟩,
  ⟨0x40, 20, 4, [fd 31 0 .ro 0]⟩,
  ⟨0x100, 48, 4, [fd 31 0 .rw 0]⟩]

/-- Registers of unit PW: chapter 18 (Table 18.5). -/
def regsPW : List RegDesc := [
  ⟨0x0, 1, 4, [fd 31 31 .w1s 0, ⟨2, 0, .rw, 0, [(0, 4)], .reservedValue⟩]⟩,
  ⟨0x4, 1, 4, [fd 8 8 .w1c 0, fd 6 4 .ro 0, fd 2 0 .ro 0]⟩,
  ⟨0x8, 1, 4, [fd 15 0 .w1cAll 0]⟩,
  ⟨0xC, 1, 4, [fd 31 20 .ro 0, fd 16 16 .ro 0, fd 15 8 .ro 0, fd 7 0 .ro 255]⟩,
  ⟨0x10, 1, 4, [fd 7 0 .ro 255]⟩,
  ⟨0x14, 1, 4, [⟨13, 0, .rw, 100, [(1, 10000)], .timeoutRange⟩]⟩,
  ⟨0x18, 1, 4, [fd 15 8 .ro 0, fd 7 0 .ro 0]⟩,
  ⟨0x20, 8, 4, [fd 31 0 .rwl 0]⟩,
  ⟨0x40, 8, 4, [fd 31 0 .rws 0]⟩,
  ⟨0x60, 8, 4, [fd 31 0 .rws 0]⟩,
  ⟨0x80, 8, 4, [fd 31 0 .rws 0]⟩,
  ⟨0xA0, 1, 4, [fd 31 0 .rws 0]⟩]

/-- Registers of unit EV: chapter 19 (Table 19.2). -/
def regsEV : List RegDesc := [
  ⟨0x0, 4, 4, [fd 31 0 .w1c 0]⟩,
  ⟨0x10, 4, 4, [fd 31 0 .rw 0]⟩,
  ⟨0x20, 4, 4, [fd 31 0 .rw 0]⟩,
  ⟨0x30, 1, 4, [fd 6 0 .rw 0]⟩,
  ⟨0x34, 1, 4, [fd 31 16 .ro 0, fd 11 0 .ro 0]⟩,
  ⟨0x40, 8, 4, [fd 31 0 .rw 0]⟩,
  ⟨0x60, 1, 4, [fd 15 0 .w1cAll 0]⟩,
  ⟨0x64, 1, 4, [fd 4 0 .wo 0]⟩,
  ⟨0x68, 1, 4, [fd 15 8 .ro 0, fd 7 0 .ro 0]⟩]

/-- Registers of unit IOB: chapter 20 (Table 20.4). -/
def regsIOB : List RegDesc := [
  ⟨0x0, 1, 4, [fd 13 12 .rwl 0, fd 8 8 .rwl 0, fd 0 0 .rw 0]⟩,
  ⟨0x4, 1, 4, [fd 8 8 .w1c 0, fd 6 6 .ro 0, fd 5 5 .ro 0, fd 4 4 .ro 1, fd 2 0 .ro 0]⟩,
  ⟨0x8, 1, 4, [fd 15 8 .ro 0, fd 7 0 .ro 0]⟩,
  ⟨0xC, 1, 4, [⟨5, 0, .rw, 0, [(0, 47)], .reservedValue⟩]⟩,
  ⟨0x10, 1, 4, [fd 21 20 .ro 0, fd 17 16 .ro 0, fd 12 12 .ro 0, fd 11 10 .ro 0, fd 9 8 .ro 0, fd 4 0 .ro 0]⟩,
  ⟨0x14, 1, 4, [fd 24 16 .rw 0, fd 8 0 .rw 0]⟩,
  ⟨0x18, 1, 4, [fd 31 31 .ro 0, fd 24 16 .ro 0, fd 8 0 .ro 0]⟩,
  ⟨0x1C, 1, 4, [fd 31 0 .ro 0]⟩,
  ⟨0x20, 1, 4, [fd 15 0 .ro 0]⟩]

/-- Registers of unit IOX: chapter 21 (Table 21.5). -/
def regsIOX : List RegDesc := [
  ⟨0x0, 1, 4, [fd 0 0 .rw 0]⟩,
  ⟨0x8, 1, 4, [fd 15 8 .ro 0, fd 7 0 .ro 0]⟩,
  ⟨0x10, 1, 4, [fd 31 0 .ro 0]⟩,
  ⟨0x14, 1, 4, [fd 31 0 .ro 0]⟩,
  ⟨0x18, 1, 4, [fd 31 0 .ro 0]⟩,
  ⟨0x1C, 1, 4, [fd 31 0 .ro 0]⟩,
  ⟨0x20, 8, 4, [fd 31 0 .ro 0]⟩,
  ⟨0x40, 8, 4, [fd 8 8 .rwl 0, fd 0 0 .rw 0]⟩,
  ⟨0x100, 64, 16, [fd 13 12 .own 0, fd 11 0 .own 0]⟩,
  ⟨0x104, 64, 16, [fd 8 8 .own 0, ⟨5, 4, .own, 0, [(0, 2)], .reservedValue⟩, fd 0 0 .own 0]⟩,
  ⟨0x108, 64, 16, [fd 23 16 .own 0, fd 15 8 .own 0, fd 7 0 .own 0]⟩,
  ⟨0x10C, 64, 16, [fd 31 31 .ro 1, fd 30 30 .ro 0, fd 23 16 .ro 0, fd 1 1 .ro 0, fd 0 0 .ro 0]⟩,
  ⟨0x500, 64, 4, [fd 16 16 .rw 0, fd 13 13 .rw 0, fd 12 12 .rw 0, fd 8 8 .rw 0, fd 5 0 .rw 0]⟩,
  ⟨0x600, 1, 4, [fd 31 0 .rw 0]⟩]

/-- Registers of unit MFE: chapter 22 (Table 22.7). -/
def regsMFE0 : List RegDesc := [
  ⟨0x0, 1, 4, [fd 31 31 .rw 0, fd 26 24 .rw 0, fd 23 16 .rw 0, fd 15 0 .rw 0]⟩,
  ⟨0x4, 1, 4, [fd 0 0 .ro 0]⟩,
  ⟨0x8, 1, 4, [fd 15 8 .ro 0, fd 7 0 .ro 0]⟩,
  ⟨0x100, 8, 32, [fd 13 8 .rwl 0, fd 7 6 .rwl 0, fd 5 4 .rwl 0, fd 3 3 .rwl 0, fd 2 2 .rwl 0, fd 1 1 .rwl 0, fd 0 0 .rw 0]⟩,
  ⟨0x104, 8, 32, [fd 29 16 .rwl 1000, fd 9 0 .rwl 100]⟩,
  ⟨0x108, 8, 32, [fd 31 0 .rw 0]⟩,
  ⟨0x10C, 8, 32, [fd 31 0 .ro 0]⟩,
  ⟨0x110, 8, 32, [fd 15 0 .ro 0]⟩,
  ⟨0x114, 8, 32, [fd 31 0 .ro 0]⟩,
  ⟨0x118, 8, 32, [fd 31 16 .w1c 0, fd 3 0 .w1c 0]⟩,
  ⟨0x200, 8, 64, [fd 19 16 .rwl 4, fd 12 8 .rwl 8, fd 6 4 .rwl 0, fd 2 2 .rwl 0, fd 1 1 .rw 0, fd 0 0 .rw 0]⟩,
  ⟨0x204, 8, 64, [fd 23 0 .rwl 0]⟩,
  ⟨0x208, 8, 64, [fd 23 0 .rwl 0]⟩,
  ⟨0x20C, 8, 64, [fd 23 0 .rwl 0]⟩,
  ⟨0x210, 8, 64, [fd 31 16 .ro 0, fd 7 4 .ro 0, fd 2 2 .w1c 0, fd 1 1 .ro 0, fd 0 0 .ro 0]⟩,
  ⟨0x214, 8, 64, [fd 31 0 .ro 0]⟩,
  ⟨0x218, 8, 64, [fd 31 0 .ro 0]⟩,
  ⟨0x21C, 8, 64, [fd 31 0 .ro 0]⟩,
  ⟨0x220, 8, 64, [fd 31 0 .ro 0]⟩,
  ⟨0x224, 8, 64, [fd 31 0 .ro 0]⟩,
  ⟨0x228, 8, 64, [fd 31 0 .w1c 0]⟩,
  ⟨0x22C, 8, 64, [fd 31 0 .w1c 0]⟩,
  ⟨0x800, 128, 16, [fd 31 16 .ro 0, fd 5 4 .ro 0, fd 1 0 .ro 0]⟩,
  ⟨0x804, 128, 16, [fd 31 0 .ro 0]⟩,
  ⟨0x808, 128, 16, [fd 31 0 .ro 0]⟩]

/-- Registers of unit MFE: chapter 22 (Table 22.7). -/
def regsMFE1 : List RegDesc := [
  ⟨0x80C, 128, 16, [fd 31 0 .ro 0]⟩]

/-- Registers of unit MFE. -/
def regsMFE : List RegDesc := regsMFE0 ++ regsMFE1

/-- Registers of unit CAM: chapter 22 (Table 22.8). -/
def regsCAM : List RegDesc := [
  ⟨0x0, 1, 4, [fd 31 0 .rw 0]⟩,
  ⟨0x4, 1, 4, [fd 15 8 .ro 0, fd 7 0 .ro 0]⟩,
  ⟨0x8, 1, 4, [fd 15 0 .w1c 0]⟩,
  ⟨0x400, 16, 64, [fd 31 16 .rwl 0, fd 13 12 .rwl 0, fd 9 8 .rwl 0, fd 6 4 .rwl 0, fd 0 0 .rw 0]⟩,
  ⟨0x404, 16, 64, [fd 25 0 .rwl 0]⟩,
  ⟨0x408, 16, 64, [fd 15 0 .rwl 0]⟩,
  ⟨0x40C, 16, 64, [fd 15 0 .rwl 1]⟩,
  ⟨0x410, 16, 64, [fd 26 24 .rwl 0, fd 21 16 .rwl 0, fd 3 0 .rwl 0]⟩,
  ⟨0x414, 16, 64, [fd 25 0 .rwl 0]⟩,
  ⟨0x418, 16, 64, [fd 15 0 .rwl 0]⟩,
  ⟨0x41C, 16, 64, [fd 15 0 .ro 0]⟩,
  ⟨0x420, 16, 64, [fd 31 16 .ro 0, fd 11 8 .ro 0, fd 5 5 .ro 0, fd 4 4 .ro 0, fd 2 0 .ro 0]⟩,
  ⟨0x424, 16, 64, [fd 18 16 .ro 0, fd 15 0 .ro 0]⟩,
  ⟨0x428, 16, 64, [fd 31 0 .ro 0]⟩,
  ⟨0x42C, 16, 64, [fd 31 16 .w1c 0, fd 15 0 .w1c 0]⟩,
  ⟨0x430, 16, 64, [fd 15 0 .w1c 0]⟩]

/-- Registers of unit IDR: chapter 23 (Table 23.5). -/
def regsIDR : List RegDesc := [
  ⟨0x0, 1, 4, [fd 31 31 .w1s 0, fd 27 24 .rw 0, fd 18 16 .rw 0, fd 13 8 .rw 0, fd 7 0 .rw 0]⟩,
  ⟨0x4, 1, 4, [fd 31 0 .rw 0]⟩,
  ⟨0x8, 1, 4, [fd 15 8 .ro 0, fd 7 0 .ro 0]⟩,
  ⟨0x80, 8, 4, [fd 31 0 .rw 0]⟩,
  ⟨0x100, 8, 64, [fd 31 24 .rwl 10, fd 22 16 .rwl 80, fd 15 8 .rwl 20, fd 5 4 .rwl 0, fd 2 2 .rwl 0, fd 1 1 .rwl 1, fd 0 0 .rw 0]⟩,
  ⟨0x104, 8, 64, [fd 19 16 .ro 0, fd 15 15 .w1c 0, fd 14 14 .ro 0, fd 13 13 .w1c 0, fd 12 12 .ro 0, fd 11 4 .ro 0, fd 2 0 .ro 0]⟩,
  ⟨0x108, 8, 64, [fd 31 0 .ro 0]⟩,
  ⟨0x10C, 8, 64, [fd 23 0 .ro 0]⟩,
  ⟨0x110, 8, 64, [fd 31 0 .ro 0]⟩,
  ⟨0x114, 8, 64, [fd 31 0 .w1cAll 0]⟩,
  ⟨0x118, 8, 64, [fd 15 0 .w1c 0]⟩,
  ⟨0x11C, 8, 64, [fd 15 0 .w1c 0]⟩,
  ⟨0x800, 512, 4, [fd 31 0 .ro 0]⟩]

/-- Registers of unit LQ: chapter 24 (Tables 24.6, 24.7). -/
def regsLQ : List RegDesc := [
  ⟨0x0, 1, 4, [fd 29 21 .ro 0, fd 20 1 .ro 0]⟩,
  ⟨0x4, 1, 4, [fd 1 0 .ro 0]⟩,
  ⟨0x8, 1, 4, [fd 15 8 .ro 0, fd 7 0 .ro 0]⟩,
  ⟨0x100, 4, 128, [fd 10 9 .rwl 0, fd 8 8 .rwl 0, fd 7 7 .rwl 0, fd 6 6 .rwl 0, fd 5 4 .rwl 0, fd 2 2 .rwl 0, fd 1 1 .rw 0, fd 0 0 .rw 0]⟩,
  ⟨0x104, 4, 128, [fd 24 0 .rwl 10312500]⟩,
  ⟨0x108, 4, 128, [fd 18 16 .rw 0, fd 10 8 .rw 0, fd 3 0 .rw 10]⟩,
  ⟨0x10C, 4, 128, [fd 9 8 .rw 2, fd 3 0 .rw 6]⟩,
  ⟨0x110, 4, 128, [fd 22 16 .rwl 16, fd 10 0 .rwl 64]⟩,
  ⟨0x114, 4, 128, [fd 10 8 .rwl 0, fd 2 0 .rwl 0]⟩,
  ⟨0x118, 4, 128, [fd 18 16 .ro 0, fd 11 11 .w1c 0, fd 10 10 .w1c 0, fd 9 9 .w1c 0, fd 8 8 .w1c 0, fd 4 4 .ro 0, fd 3 3 .ro 0, fd 2 2 .ro 0, fd 1 1 .ro 0, fd 0 0 .ro 0]⟩,
  ⟨0x11C, 4, 128, [fd 31 0 .w1cAll 0]⟩,
  ⟨0x120, 4, 128, [fd 31 0 .w1cAll 0]⟩,
  ⟨0x124, 4, 128, [fd 31 0 .w1cAll 0]⟩,
  ⟨0x128, 4, 128, [fd 31 0 .w1cAll 0]⟩,
  ⟨0x12C, 4, 128, [fd 15 0 .w1cAll 0]⟩,
  ⟨0x130, 4, 128, [fd 31 31 .w1s 0, ⟨13, 0, .rw, 100, [(1, 10000)], .reservedValue⟩]⟩,
  ⟨0x134, 4, 128, [fd 15 0 .w1cAll 0]⟩,
  ⟨0x140, 16, 4, [fd 31 0 .ro 0]⟩,
  ⟨0x1C0, 16, 4, [fd 31 0 .ro 0]⟩,
  ⟨0x240, 16, 4, [fd 31 0 .ro 0]⟩,
  ⟨0x2C0, 16, 4, [fd 31 0 .ro 0]⟩]

/-- A field forced read-only (the entries of Table 11.6 and R358 that a unit fixes). -/
def RegDesc.fixAt (off : Nat) (f : List FieldDesc) (r : RegDesc) : RegDesc :=
  if r.off = off then { r with fields := f } else r

/-- The initiator block of a zone or compute link: TMO3 is reserved and UNC_MODE bit 3 reads 1 and is RO
(Tables 10.6 and 11.6, R354). -/
def regsInitZone : List RegDesc :=
  ((regsINIT.map (RegDesc.fixAt 0x328 [fd 3 3 .ro 1, fd 2 0 .rw 0])).map
    (RegDesc.fixAt 0x30C [fd 31 0 .ro 0]))

/-- The registers of P-die unit `n`; `none` for an unlisted unit (Table 00.4, R69). -/
def pdieRegs (n : Nat) : Option (List RegDesc) :=
  if n = 0x000 then some regsMG
  else if n = 0x001 then some (regsHL ++ regsINIT.map (RegDesc.fixAt 0x328 [fd 3 0 .ro 0xF]))
  else if n = 0x002 then some regsRS
  else if n = 0x003 then some regsORM
  else if n = 0x004 then some regsCK
  else if n = 0x005 then some regsPW
  else if n = 0x006 then some (regsEV ++ regsINIT)
  else if n = 0x007 then some regsKS
  else if n = 0x008 then some regsBG
  else if n = 0x009 then some regsLC
  else if n = 0x00A then some regsDA
  else if n = 0x00B then some regsTRNG
  else if 0x010 ≤ n ∧ n ≤ 0x013 then some (regsPL ++ regsInitZone)
  else if 0x014 ≤ n ∧ n ≤ 0x017 then some (regsPL.filter (fun r => r.off != 0xC0 && r.off != 0xC4))
  else if n = 0x018 then some (regsSMV ++ regsINIT.map (RegDesc.fixAt 0x328 [fd 3 0 .ro 0x8]))
  else if n = 0x020 then some regsIOX
  else if n = 0x021 then some regsIDR
  else if n = 0x022 then some regsMFE
  else if n = 0x023 then some (regsCAM ++ regsINIT)
  else if n = 0x024 then some (regsGAF ++ regsINIT)
  else if n = 0x025 then some regsCUL
  else if n = 0x030 then some regsSPN
  else if 0x031 ≤ n ∧ n ≤ 0x034 then some regsBR
  else none

/-- The registers of fabric-die unit `n` (Table 00.5). -/
def fabricRegs (n : Nat) : Option (List RegDesc) :=
  if n ≤ 0x03F then some (regsZN ++ regsInitZone)
  else if n ≤ 0x045 then some regsLQ
  else if 0x050 ≤ n ∧ n ≤ 0x057 then some regsIOB
  else if n = 0x060 then some (regsGTH ++ regsINIT)
  else if n = 0x063 then some regsDR
  else if n = 0x064 then some regsSLP
  else if n = 0x065 then some regsCMP
  else none

/-- The registers of the unit with 12-bit ID `u` (R4). -/
def unitRegs (u : Nat) : Option (List RegDesc) :=
  if u / 512 = 0 then pdieRegs u
  else if u / 512 ≤ 4 then fabricRegs (u % 512)
  else none

/-- Does the description cover offset `o`? -/
def RegDesc.covers (r : RegDesc) (o : Nat) : Bool :=
  decide (r.off ≤ o) && decide (o < r.off + r.count * r.stride) && (o - r.off) % r.stride == 0

/-- The description of the register at key `u × 0x1000 + offset`, if there is one. -/
def regDesc (key : Nat) : Option RegDesc :=
  match unitRegs (key / 4096) with
  | some l => l.find? (fun r => r.covers (key % 4096))
  | none => none

/-- The reset value that a list of fields gives a register. -/
def resetOf : List FieldDesc → Nat
  | [] => 0
  | f :: r => f.reset * 2 ^ f.lo + resetOf r

/-- ZN_INFO of a zone is fixed by its place (Table 07.5). -/
def zoneInfo (u : Nat) : Nat := (u / 512) * 256 + (u % 64 / 8) * 8 + u % 8

/-- The value a register reads at POR (R6; ZN_INFO by its place). -/
def regReset (key : Nat) : Word :=
  if key % 4096 = 0x080 ∧ 512 ≤ key / 4096 ∧ key / 4096 % 512 < 64 then
    BitVec.ofNat 32 (zoneInfo (key / 4096))
  else match regDesc key with
  | some r => BitVec.ofNat 32 (resetOf r.fields)
  | none => 0

end Sys2Proof.Machine
end

