-- ==== Sys2Proof/Machine/Tab.lean ====
section
/-! DEFINITION. Sparse data by number, in one canonical form: keys strictly rising, no entry equal to
what an unlisted key reads as (the default `d`, a function of the key). Registers, memories and all
numbered units of the device are held so. Lemmas: Laws/Tab.lean. -/

namespace Sys2Proof.Machine

/-- A sparse table: the entries that differ from the default. -/
abbrev Tab (α : Type) := List (Nat × α)

/-- The entry listed at `k`, if one is. -/
def Tab.find {α : Type} : Tab α → Nat → Option α
  | [], _ => none
  | (a, v) :: t, k => if a = k then some v else Tab.find t k

/-- What key `k` reads as. -/
def Tab.get {α : Type} (d : Nat → α) (t : Tab α) (k : Nat) : α :=
  match Tab.find t k with
  | some v => v
  | none => d k

/-- List value `v` at key `k`. -/
def Tab.put {α : Type} (k : Nat) (v : α) : Tab α → Tab α
  | [] => [(k, v)]
  | (a, w) :: t =>
    if k < a then (k, v) :: (a, w) :: t
    else if a = k then (k, v) :: t
    else (a, w) :: Tab.put k v t

/-- Unlist key `k`. -/
def Tab.del {α : Type} (k : Nat) : Tab α → Tab α
  | [] => []
  | (a, w) :: t => if a = k then Tab.del k t else (a, w) :: Tab.del k t

/-- Write value `v` at key `k`, keeping the canonical form. -/
def Tab.set {α : Type} [DecidableEq α] (d : Nat → α) (t : Tab α) (k : Nat) (v : α) : Tab α :=
  if v = d k then Tab.del k t else Tab.put k v t

/-- The keys of a table rise strictly from above `lo`. -/
def Tab.risesFrom {α : Type} : Nat → Tab α → Bool
  | _, [] => true
  | lo, (a, _) :: t => decide (lo ≤ a) && Tab.risesFrom (a + 1) t

/-- The canonical form: keys strictly rising, no entry equal to the default. -/
def Tab.wf {α : Type} [DecidableEq α] (d : Nat → α) (t : Tab α) : Bool :=
  Tab.risesFrom 0 t && t.all (fun e => decide (e.2 ≠ d e.1))

end Sys2Proof.Machine
end

