-- ==== Sys2Proof/Machine/State.lean ====
section
/-! DEFINITION. The state of the device: every register (one sparse table keyed by unit × 0x1000 + offset),
and the queues, buffers, engines and pins that the chapters describe, as plain data; the reasons a
command can stop with; the state after reset. A register that shows engine state keeps it (the register is
its home); what a selector register selects, and what is live, is kept in the structures below and computed
when read (Machine/Registers.lean). -/

namespace Sys2Proof.Machine

/-! ## The ring network (chapters 09, 10) -/

/-- A packet: the header unit as its 128 bits (Table 09.4) and the data units. -/
structure Packet where
  hdr : Unit128
  data : List DataUnit
  deriving DecidableEq, Repr

/-- A request waiting in an initiator port (R293). `seq` numbers the port's requests in issue order; `who`
is the engine's own mark for what it asked (a channel, an engine, 0 for none). -/
structure PortReq where
  seq : Nat
  cmd : Nat
  cls : Nat
  addr : Nat
  len : Nat
  be : Nat
  data : List DataUnit
  who : Nat
  deriving DecidableEq, Repr

/-- A request that the stop holds outstanding until its response is delivered or consumed (R287 to R298).
`tag` is none for one answered at once (R658); `resp` is the response taken, with the order in which it
arrived; `expired` after a timeout (R289); `abandoned` under R298; `held` once ORDER_HOLD was raised (R296). -/
structure Outst where
  seq : Nat
  tag : Option Nat
  cmd : Nat
  cls : Nat
  addr : Nat
  resp : Option (Nat × Nat × List DataUnit)
  expired : Bool
  abandoned : Bool
  held : Bool
  who : Nat
  deriving DecidableEq, Repr

/-- A failed posted write that reads may still have to report (R295): its number, target and class, its
status, whether a pending FENCE waited on it, and the number of the first request issued after the port
was told. -/
structure FailedWrite where
  seq : Nat
  target : Nat
  cls : Nat
  status : Nat
  waited : Bool
  told : Option Nat
  deriving DecidableEq, Repr

/-- A response delivered to an initiator's port: command, class, status, address and data. -/
structure Delivered where
  cmd : Nat
  cls : Nat
  status : Nat
  addr : Nat
  data : List DataUnit
  who : Nat
  deriving DecidableEq, Repr

/-- A FENCE pending in a port: its number and the worst status seen so far (R271). -/
structure FencePend where
  seq : Nat
  status : Nat
  deriving DecidableEq, Repr

/-- An initiator stop (R264, R287 to R298): the requests that wait to launch, those behind a pending FENCE,
those outstanding, the quarantined tags, the responses taken in and not yet handled, and what has been
delivered to the port. `alt` is the class (1 or 2) that injects next (R278). -/
structure InitState where
  port : List PortReq
  held : List PortReq
  out : List Outst
  quar : List Nat
  nextTag : Nat
  nextSeq : Nat
  arrived : Nat
  fence : Option FencePend
  fails : List FailedWrite
  alt : Bool
  rx : List Packet
  inbox : List Delivered
  deriving DecidableEq, Repr

/-- A stop with no request and no response. -/
def InitState.idle : InitState :=
  { port := [], held := [], out := [], quar := [], nextTag := 0, nextSeq := 0, arrived := 0, fence := none,
    fails := [], alt := false, rx := [], inbox := [] }

/-- A stream request of which a pool bank has performed some words only (R348): the request, how many words, the units
read so far and the first status that was not 0. -/
structure PoolPart where
  req : Packet
  done : Nat
  data : List DataUnit
  status : Nat
  deriving DecidableEq, Repr

/-- A target stop: the input buffer of 4 request packets with the direction each came from (R277), the requests its block
has taken and not yet answered, the side it took from last (R279), the isolation cause (Table 10.1) and drops (R303),
whether it is draining (Table 10.2), what its banks have performed in part (R348), and what its banks have performed while
the answer waits for its turn (R281, R347); and the direction that the buffer took from last (R279). -/
structure TargetState where
  inq : List (Bool × Packet)
  taken : List Packet
  lastCcw : Bool
  fillCcw : Bool
  iso : Nat
  drops : Nat
  drain : Bool
  parts : List PoolPart
  performed : List PoolPart
  deriving DecidableEq, Repr

/-- An empty target that is not isolated. -/
def TargetState.idle : TargetState :=
  { inq := [], taken := [], lastCcw := true, fillCcw := true, iso := 0, drops := 0, drain := false, parts := [],
    performed := [] }

/-- The ring network: the packets waiting at each node; the target stops and initiators by number; and the
non-posted requests that each bridge end (number d) and bridge stop (8 + d) has forwarded across the bridge
and not seen answered (R313). -/
structure RingState where
  nodes : Tab (List Packet)
  fwd : Tab (List Packet)
  targets : Tab TargetState
  inits : Tab InitState
  deriving DecidableEq, Repr

/-- No packet anywhere. -/
def RingState.idle : RingState := { nodes := [], fwd := [], targets := [], inits := [] }

/-! ## Records and events (chapters 10, 19, 25) -/

/-- An error record (Table 10.3). -/
structure Record where
  mt : Nat
  addr : Nat
  tag : Nat
  cls : Nat
  status : Nat
  addrValid : Bool
  unit : Nat
  peer : Nat
  kind : Nat
  rep : Nat
  deriving DecidableEq, Repr

/-- A refusal record on its way to the management unit: unit, reason code, index (R632). -/
structure RefusalRec where
  unit : Nat
  reason : Nat
  index : Nat
  deriving DecidableEq, Repr

/-- One raise: event number, raising unit, payload, machine time (R505, Table 19.1). -/
structure Raise where
  ev : Nat
  unit : Nat
  payload : Nat
  mt : Nat
  deriving DecidableEq, Repr

/-- The event controller: raises per event and last raising unit (EV_INFO), subscription masks by event × 8 + k
(EV_SUBk), the delivery queue of 64 raises, each with the subscription mask in force as it entered (bit: zone
index; R510), the raises that wait for MCK to be latched (R505), and whether MIRQ_N is pulled low (R509). -/
structure EventState where
  count : Tab Nat
  unit : Tab Nat
  subs : Tab Word
  queue : List (Raise × Nat)
  waiting : List Raise
  mirqLow : Bool
  deriving DecidableEq, Repr

/-- No event raised yet. -/
def EventState.idle : EventState :=
  { count := [], unit := [], subs := [], queue := [], waiting := [], mirqLow := false }

/-- The Cullet: its 256 records by index (absent: never written), the newest record's index, and each fabric
die's buffer of records waiting at stop 96 (R317). -/
structure CulletState where
  log : Tab (Option Record)
  newest : Option Nat
  buffers : Tab (List Record)
  deriving DecidableEq, Repr

/-- An empty log. -/
def CulletState.idle : CulletState := { log := [], newest := none, buffers := [] }

/-- Refusal records: each fabric die's queue of 16 (R632), P-die records waiting for an MCK cycle, and the banks whose
enable check at GOE waits for room in its die's queue, oldest first (R527, R632). -/
structure RefusalState where
  queues : Tab (List RefusalRec)
  waiting : List RefusalRec
  checks : List Nat
  deriving DecidableEq, Repr

/-- No record waiting. -/
def RefusalState.idle : RefusalState := { queues := [], waiting := [], checks := [] }

/-! ## Supplies, pins, reset and clocks (chapters 02, 03, 05, 06) -/

/-- The board's side of the device: the rails that are good, RST_N, MCK running (R79), MCS_N low (R56, R57), and the
levels that the board puts on the machine I/O pins. -/
structure BoardState where
  vccp : Bool
  vccaux : Bool
  vccint : Bool
  vmio : Bool
  vlane : Bool
  vlanet : Bool
  vccioBad : List Nat
  vclass : Tab Nat
  rstLow : Bool
  mck : Bool
  mcsLow : Bool
  mioPins : Nat
  deriving DecidableEq, Repr

/-- Every rail good, MCK running, RST_N high, every bank at class 4 (1.8 V). -/
def BoardState.nominal : BoardState :=
  { vccp := true, vccaux := true, vccint := true, vmio := true, vlane := true, vlanet := true,
    vccioBad := [], vclass := [], rstLow := false, mck := true, mcsLow := false,
    mioPins := 0 }

/-- Reset and start-up: POR asserted; an RST_N reset recognised and not yet released; a start-up that waits for RST_N
or MCK; an accepted RS_CMD.DEVICE waiting for MCS_N (R117); the brown-out latch (R119) and a BROWNOUT_INT reset whose
fabric dies are not released again; the pin phase of machine I/O (Table 05.3: 0 A, 1 B, 2 C); whether MLINK is served
(R133); whether the die start limit counts (R138); the dies in step 10; those past GRR; those whose bridge end answers
for them (R118, R486); those whose pads a fall of VCCINT disabled (R119); those whose bring-up waits for their slave loop (R139, R118, R502); and the pool banks that the
next step 8 is to fill with zeros (Table 05.2), bit n for bank n; the supply latches that wait for MCK (0 RET_LOST, 2 VCCINT,
3 VMIO, 4 VLANE, 5 VLANET, 32 + k bank k); the die whose fatal bridge failure is a reset source that waits for MCK
(R111); whether the oscillator stops once the running ORM commit has ended (R99); and what the command that began a
bring-up of dies which still waits said that it will find (R79, R139). -/
structure ResetState where
  por : Bool
  rstActive : Bool
  startPending : Bool
  cmdReset : Bool
  brownPending : Bool
  brownActive : Bool
  phase : Nat
  served : Bool
  limitOn : Bool
  rel : List Nat
  released : List Nat
  brdFence : List Nat
  clamped : List Nat
  late : List Nat
  fill : Nat
  latchWait : List Nat
  fatal : Option Nat
  oscStop : Bool
  found : DiesUp
  deriving DecidableEq, Repr

/-- POR asserted: phase A, nothing released. -/
def ResetState.por0 : ResetState :=
  { por := true, rstActive := false, startPending := true, cmdReset := false, brownPending := false,
    brownActive := false, phase := 0, served := false, limitOn := false, rel := [], released := [], brdFence := [], clamped := [],
    late := [], fill := 2 ^ 32 - 1, latchWait := [], fatal := none,
    oscStop := false, found := DiesUp.blank }

/-- Clocks: the reference (cycles counted since reset), machine time and each die's copy (R160, R167), the
epoch E and whether the root or a slave output is gated, the captured CK_MT_HI (R169), the multiplier in
use, the machine time of the last lock of a loop, the lock that the epoch waits for (R170), whether step 6 or a RELOCK
has loops that still take part, and the remainder of each loop's holdover count in fiftieths of a root cycle (key 0 the
root, else the die; R161). -/
structure ClockState where
  refCycles : Nat
  mt : Nat
  copies : Tab Nat
  osc : Nat
  root : Nat
  slaves : Tab Nat
  rootGated : Bool
  slaveGated : List Nat
  svcRef : Nat
  mult : Nat
  epoch : Nat
  lastLock : Nat
  epochDue : Option Nat
  captMt : Option Nat
  mtStarted : Bool
  stepLoops : Bool
  refselUsed : Bool
  fracs : Tab Nat
  deriving DecidableEq, Repr

/-- Clocks off: oscillator STOPPED, loops OFF, every service domain on the reference. -/
def ClockState.off : ClockState :=
  { refCycles := 0, mt := 0, copies := [], osc := 0, root := 0, slaves := [], rootGated := true,
    slaveGated := [1, 2, 3, 4], svcRef := 0xFFFFF, mult := 60, epoch := 0, lastLock := 0, epochDue := none,
    captMt := none, mtStarted := false, stepLoops := false, refselUsed := false, fracs := [] }

/-! ## Zones (chapters 06, 07, 08, 14) -/

/-- Why a zone clock is held. -/
inductive HoldCause
  | policy
  | lehr
  | therm
  | reference
  deriving DecidableEq, Repr

/-- How a stop-switch-restart that runs on a zone ends (R180, R183, R184, R407). -/
inductive SwitchEnd
  | switchDone
  | rampDone
  deriving DecidableEq, Repr

/-- What a held or gated zone clock goes on with once it runs again: the ramp or the switch that the stop came upon, or a
GO or RAMP that was accepted meanwhile. -/
inductive ClockWait
  | none
  | ramp
  | switch
  | command
  deriving DecidableEq, Repr

/-- The zone clock's own state: a running stop-switch-restart (its t_s, target and ending), a running ramp
(target, step, DWELL and the zone cycles still to dwell: R182), the hold, the divider to restart on, the divider to return
to after FALLBACK, the last rising edge, THEN and RETURN as they stood when the zone's policy last acted (R186), the
source and divider that a command asked of the zone's next release (R179), and what a hold interrupts or keeps waiting. -/
structure ZoneClock where
  ts : Nat
  toRef : Bool
  toDiv : Nat
  ending : SwitchEnd
  rampTo : Nat
  rampStep : Nat
  rampDwell : Nat
  rampLeft : Nat
  held : Option HoldCause
  heldRef : Bool
  heldDiv : Nat
  backDiv : Option Nat
  lastEdge : Nat
  thenBack : Bool
  returns : Bool
  asked : Option (Bool × Nat)
  wait : ClockWait
  deriving DecidableEq, Repr

/-- A stopped zone clock. -/
def ZoneClock.stopped : ZoneClock :=
  { ts := 0, toRef := false, toDiv := 0, ending := .switchDone, rampTo := 0, rampStep := 0,
    rampDwell := 0, rampLeft := 0,
    held := none, heldRef := false, heldDiv := 0, backDiv := none, lastEdge := 0,
    thenBack := false, returns := false, asked := none, wait := .none }

/-- An inbound endpoint: the tokens of its buffer, how many of them are offered on I_VALID, whether the newest
landed within 0.1 ns of an edge and misses the next capture (R210), its count (Table 07.9), and, one entry a token, the
outbound endpoints (zone number, endpoint) of the tokens launched before a switch edge that are still to reach it (R405). -/
structure InEp where
  buf : List (BitVec 36)
  offered : Nat
  late : Bool
  count : Nat
  stale : List (Nat × Nat)
  deriving DecidableEq, Repr

/-- An outbound endpoint: its 2-entry buffer, the tokens in the crossing stages of its channel, oldest first
(R211), its count, and the tokens accepted before a switch edge, oldest first, each with the route of the outgoing plane
on which it still travels (R404). -/
structure OutEp where
  buf : List (BitVec 36)
  flight : List (BitVec 36)
  count : Nat
  old : List (Route × BitVec 36)
  deriving DecidableEq, Repr

/-- A memory port's output: value, CORR, UNCORR, the value on its way to an output register (R223, R229), and
whether it was read at the present edge. -/
structure PortOut where
  val : Nat
  corr : Bool
  unc : Bool
  next : Option (Nat × Bool × Bool)
  fresh : Bool
  deriving DecidableEq, Repr

/-- A queue controller: the position of the head word; the occupancy that the zone side sees; for a CHANNEL_IN
queue the words captured and landed that it does not see yet, for a CHANNEL_OUT queue the words launched that
it does not see yet (`land`, then `cap`: R240); whether the newest landed word misses the next capture; the
sticky flags, the thresholds in force, a written pair that takes effect at the next zone edge (R244), DOUT with the word on
its way to it, and VALID (FWFT). -/
structure QueueState where
  rd : Nat
  vis : Nat
  cap : Nat
  land : Nat
  late : Bool
  ovf : Bool
  unf : Bool
  ae : Nat
  af : Nat
  pend : Option (Nat × Nat)
  dout : PortOut
  valid : Bool
  deriving DecidableEq, Repr

/-- An arithmetic slice: the input, pre-adder and product registers where present (value and poison), the
accumulator, its poison, P and POISON_OUT. The input register holds the operands as they were given. -/
structure SliceState where
  inR : Option SliceIn
  preR : Option (Int × SliceIn)
  prodR : Option (Int × Int × SliceIn)
  acc : BitVec 64
  accPoison : Bool
  p : BitVec 64
  pout : Bool
  ovf : Bool
  deriving DecidableEq, Repr

/-- A slice with every register 0 (R254). -/
def SliceState.clear : SliceState :=
  { inR := none, preR := none, prodR := none, acc := 0, accPoison := false, p := 0, pout := false,
    ovf := false }

/-- An event port entry: event, unit, payload, machine time (R513). -/
abbrev PortEvent := Raise

/-- Where a zone is in its release: nothing written yet, GOE, GWE or GRR done (R146, R149). -/
inductive ReleaseStage
  | none
  | goe
  | gwe
  | grr
  deriving DecidableEq, Repr

/-- What a load records with a plane beside its key and INIT_ON_SWAP (R430): the kind of its stream (1 BASE, 2
ZONE, 0 none) and the CRC-32 of the stream header's bytes 0x00 to 0x7F. -/
structure PlaneRec where
  kind : Nat
  crc : Nat
  deriving DecidableEq, Repr

/-- A zone, beside its registers: what its two planes' frames mean, what their loads recorded, its clock, its flip-flops that read 1, the
carry-outs of the last edge, its memory ports and queues, slices, channel endpoints, event port, its
release, reset and swap sequences, and its crossbar port (R537): XB_OUT and XB_OE as last launched, the levels
captured and XB_IN, bit j for port bit j; the last writes that reached the arbiter of a lent memory (memory, whether the
ring's, machine time: R228); the zone's edges since its swap's release began (Table 14.3, step 7); and whether
its base load is complete and its release still to come (R384). -/
structure Zone where
  img0 : Image
  img1 : Image
  rec0 : PlaneRec
  rec1 : PlaneRec
  clk : ZoneClock
  stage : ReleaseStage
  ffs : List Nat
  ports : Tab PortOut
  queues : Tab QueueState
  slices : Tab SliceState
  ins : Tab InEp
  outs : Tab OutEp
  events : List PortEvent
  evReady : Nat
  evLate : Bool
  frozen : Bool
  noAlign : Bool
  xbOut : Nat
  xbOe : Nat
  xbCap : Nat
  xbIn : Nat
  arb : List (Nat × Bool × Nat)
  relEdges : Nat
  loaded : Bool
  deriving DecidableEq, Repr

/-- An empty endpoint. -/
def InEp.empty : InEp := { buf := [], offered := 0, late := false, count := 0, stale := [] }
/-- An empty endpoint. -/
def OutEp.empty : OutEp := { buf := [], flight := [], count := 0, old := [] }
/-- An output register that holds 0. -/
def PortOut.zero : PortOut := { val := 0, corr := false, unc := false, next := none, fresh := false }
/-- An empty queue. -/
def QueueState.empty : QueueState :=
  { rd := 0, vis := 0, cap := 0, land := 0, late := false, ovf := false, unf := false, ae := 0, af := 0,
    pend := none, dout := .zero, valid := false }

/-- A zone that has never been configured (R392). -/
def Zone.blank : Zone :=
  { img0 := .blank, img1 := .blank, rec0 := { kind := 0, crc := 0 },
    rec1 := { kind := 0, crc := 0 }, clk := .stopped, stage := .none, ffs := [], ports := [], queues := [],
    slices := [], ins := [], outs := [], events := [], evReady := 0, evLate := false, frozen := false,
    noAlign := false,
    xbOut := 0, xbOe := 0, xbCap := 0, xbIn := 0,
    arb := [], relEdges := 0, loaded := false }
/-! ## User I/O banks (chapter 20) -/

/-- One pin of a bank: its configuration (R519), the delay targets and the taps in use (R532), the input
register (the bits presented to the zone, those captured and not yet presented, and the word boundary of a
SER4 input), the output and output-enable registers, and the level on its pad. -/
structure PinState where
  cfg : PinCfg
  outTgt : Nat
  inTgt : Nat
  outNow : Nat
  inNow : Nat
  q : Nat
  hist : Nat
  slip : Nat
  o : Nat
  oe : Nat
  level : Bool
  deriving DecidableEq, Repr

/-- An unused pin. -/
def PinState.unused : PinState :=
  { cfg := { dir := 0, term := 0, oeDdr := false, omode := 0, imode := 0, std := 0, outTap := 0, inTap := 0,
             outInit := false, oeInit := false },
    outTgt := 0, inTgt := 0, outNow := 0, inNow := 0, q := 0, hist := 0, slip := 0, o := 0, oe := 0,
    level := false }

/-- What a user I/O pad applies: nothing, a level, a weak pull (true: up), or a keeper of a level (R525, R526). -/
inductive PadOut
  | off
  | drive (level : Bool)
  | pull (up : Bool)
  | keep (level : Bool)
  deriving DecidableEq, Repr

/-- A bank's pins by number; the bank's number is (d − 1) × 8 + b. -/
abbrev BankPins := Tab PinState


/-! ## Non-volatile stores and keys (chapters 04, 16, 17) -/

/-- A page of the ORM: its eight groups as stored, its status cell (0 BLANK, 1 WRITING, 2 DONE) and CYCLES. -/
structure OrmPage where
  groups : List Code72
  cell : Nat
  cycles : Nat
  deriving DecidableEq, Repr

/-- A page never committed: erased. -/
def OrmPage.blank : OrmPage := { groups := List.replicate 8 (BitVec.allOnes 72), cell := 0, cycles := 0 }

/-- The option bytes in force (Table 04.3). -/
structure Options where
  crcOn : Bool
  wdogOn : Bool
  present : Bool
  wdogTicks : Nat
  bridgeReset : Bool
  autoswap : Bool
  vendorDebug : Bool
  optLock : Bool
  bankHold : Nat
  mioOe : Nat
  mioVal : Nat
  pageLock : Nat
  deriving DecidableEq, Repr

/-- The fuse defaults (Table 04.3). -/
def Options.fuseDefaults : Options :=
  { crcOn := true, wdogOn := false, present := false, wdogTicks := 1000, bridgeReset := false, autoswap := false,
    vendorDebug := false, optLock := false, bankHold := 0, mioOe := 0, mioVal := 0, pageLock := 0 }

/-- A device write of the ORM (R102, R108, Table 17.8): a journal entry (source, target, status, count), or the cell of a
lifetime counter: counter, cell number and the 8 bytes to program. -/
inductive OrmDev
  | journal (source target status count : Nat)
  | cell (counter cell : Nat) (bytes : List Nat)
  deriving DecidableEq, Repr

/-- The ORM: pages, options in force, the host commit that runs (page and the 64 bytes to program), the device write that
runs, the journal entry that waits for the engine, and the increments that wait for it per lifetime counter. -/
structure OrmState where
  pages : Tab OrmPage
  opt : Options
  write : Option (Nat × List Nat)
  dev : Option OrmDev
  entry : Option OrmDev
  incs : Tab Nat
  deriving DecidableEq, Repr

/-- The fuses: LC0, LC1, DEVID, the three hash rows of 256 bits and an 8-bit check (0 VENDOR, 1 DEBUG, 2 CFG;
bits 263:8 the hash, bits 7:0 the check), GEN, the values that the last fuse sense read, and whether the reads of a
sense disagree on every attempt (R134). -/
structure FuseState where
  lc0 : Nat
  lc1 : Nat
  devid : Nat
  rows : Tab Nat
  gen : Nat
  sensed0 : Nat
  sensed1 : Nat
  unstable : Bool
  deriving DecidableEq, Repr

/-- A key slot: state (Table 16.3), key, attributes, KCV, and use count. -/
structure KeySlot where
  state : Nat
  key : Nat
  attr : Nat
  kcv : Nat
  use : Nat
  deriving DecidableEq, Repr

/-- An empty slot. -/
def KeySlot.empty : KeySlot := { state := 0, key := 0, attr := 0, kcv := 0, use := 0 }

/-- The key store: slots by code; the running FUSE_PROG (slot, key, attributes) or REVOKE (slot); and the
pending deferred rewrite (slot, key, attributes). -/
structure KeyState where
  slots : Tab KeySlot
  prog : Option (Nat × Nat × Nat)
  revoke : Option Nat
  deferred : Option (Nat × Nat × Nat)
  deriving DecidableEq, Repr

/-- The TRNG: FIFO (oldest first), and the health tests (R455): the last sample, how many times it has come in a
row, the first sample of the window, the samples of the window so far, and how many equal the first. -/
structure TrngState where
  fifo : List Nat
  last : Bool
  run : Nat
  first : Bool
  seen : Nat
  same : Nat
  deriving DecidableEq, Repr

/-- The life-cycle unit and debug authoriser: the target of the running transition, whether the start-up to come
raises LC_TRANSITION_DONE (R473), a completed transition whose device reset waits for MCK (R471), and the open
nonce; `fused` once the fuses of the running transition match its target (Table 17.7, step 5). -/
structure LcState where
  target : Option Nat
  fused : Bool
  announce : Bool
  resetDue : Bool
  nonce : Option Nat
  deriving DecidableEq, Repr

/-- The TAP: the selected instruction, the data register, the submission that waits for MCK (its instruction
and value), whether a denial waits for MCK to show in DA_STATUS (R79, R477), the boundary register, and the units
that the RING instruction has taken. -/
structure TapState where
  ir : Nat
  dr : Nat
  waiting : Option (Nat × Nat)
  denied : Bool
  boundary : List Bool
  units : List Unit128
  deriving DecidableEq, Repr

/-- The battery: VBAT below 1.8 V and below 1.2 V (R458), the case of Table 16.7 that holds (0 none yet), and
whether case 9 was noted at this start-up and the ones before it without a break. -/
structure BatState where
  below18 : Bool
  below12 : Bool
  caseNow : Nat
  lostNoted : Bool
  deriving DecidableEq, Repr


/-! ## Configuration, changeover and scrubbing (chapters 13, 14, 15) -/

/-- A directory entry (Table 13.4). -/
structure DirEntry where
  key : Nat
  kind : Nat
  zone : Nat
  active : Bool
  offset : Nat
  length : Nat
  deriving DecidableEq, Repr

/-- A Gather job of a die: its command (0 base load, 1 STAGE_KEY, 2 STAGE_ENTRY), the number that STAGE_ENTRY
names, the entries still to load (the current one first), the header's 256 bytes, the next segment, the frames
written and the MEM_INIT rows named (by zone × 65,536 + FA[25:10], and zone × 65,536 + MEM × 256 + BLOCK), the
key slots held, the zones whose plane it has moved to STAGING, the images of the zones it writes, whether a
slot it holds was erased, the source of a command that waits for a refetch to end (R431), and the flash address that it
reads next. -/
structure GatherJob where
  op : Nat
  entry : Nat
  todo : List DirEntry
  hdr : List Nat
  seg : Nat
  written : List Nat
  named : List Nat
  held : List Nat
  staging : List Nat
  images : List (Nat × Image)
  lost : Bool
  waits : Option Nat
  pos : Nat
  deriving DecidableEq, Repr

/-- No job. -/
def GatherJob.none : GatherJob :=
  { op := 0, entry := 0, todo := [], hdr := [], seg := 0, written := [], named := [], held := [],
    staging := [], images := [], lost := false, waits := .none, pos := 0 }

/-- A refetch of a die's Lehr (R430): the frame, its place in the bad list (none for LHR_CMD), the header once
accepted, the key slot held, and the flash address of its first segment. -/
structure Refetch where
  fa : Nat
  cmd : Bool
  hdr : List Nat
  slot : Option Nat
  lost : Bool
  pos : Nat
  deriving DecidableEq, Repr

/-- The Lehr of a die: the place of the scan (zone and frame ordinal 0 to 2,047), the frames in progress
(frame address; verifying or scrubbing), the plane being verified (zone, plane, next ordinal, asked by
LHR_CMD), the refetch, the reference cycle at which the pass began, and the VERIFY or REFETCH of LHR_CMD that runs, as it
was accepted (operation, zone, frame address); and whether a slot came while two frames were in progress (R422). -/
structure LehrState where
  zone : Nat
  ord : Nat
  busy : List (Nat × Bool)
  verify : Option (Nat × Nat × Nat × Bool)
  refetch : Option Refetch
  began : Nat
  cmd : Option (Nat × Nat × Nat)
  owed : Bool
  deriving DecidableEq, Repr

/-- A Lehr that has not started. -/
def LehrState.idle : LehrState :=
  { zone := 0, ord := 0, busy := [], verify := .none, refetch := .none, began := 0, cmd := .none,
    owed := false }

/-- What a configuration port puts on its flash bus (R365, R369): the reset pulse of CMPd_RST_N, or a command in
8D-8D-8D or 1-1-1: the bytes of opcode and address as sent, the dummy cycles, the bytes written, and how many are read. -/
inductive CmpXfer
  | reset
  | send (octal : Bool) (head : List Nat) (dummy : Nat) (out : List Nat) (read : Nat)
  deriving DecidableEq, Repr

/-- The configuration port of a die: the pass-through command that runs (whether it reads, and LEN), the directory of its
flash as it was last read (R372; none before any read), whether a burst of its present reader has failed once (R368),
RD_OPCODE and RD_DUMMY of the header that switched it to 8D-8D-8D (R369), and what it last put on its bus. -/
structure CmpState where
  run : Option (Bool × Nat)
  dir : Option (List DirEntry)
  failed : Bool
  rdOp : Nat
  rdDummy : Nat
  bus : List CmpXfer
  deriving DecidableEq, Repr

/-- A configuration port that is idle. -/
def CmpState.idle : CmpState := { run := .none, dir := .none, failed := false, rdOp := 0, rdDummy := 0, bus := [] }

/-- An insertion as a descriptor gives it to the Gaffer (R412): port, key, compatible dies, zone mask. -/
structure Insertion where
  port : Nat
  key : Nat
  dies : Nat
  zones : Nat
  deriving DecidableEq, Repr

/-- What the Gaffer, which runs on MCK, takes from elsewhere: an insertion, a port whose part is removed, the cause of an
abort. -/
inductive GafLate
  | insert (i : Insertion)
  | gone (port : Nat)
  | abort (cause : Nat)
  deriving DecidableEq, Repr

/-- The Gaffer: the insertion of the changeover and the pending one; the changeover's state (GAF_STATUS.STATE but
for SWAPPING: 0 IDLE, 1 LOOKUP, 2 STAGING, 3 READY); per die the entries still to stage (zone, entry), the zone
whose STAGE_ENTRY runs (its number + 1) and the ticks left to retry; and the swap that runs: its set, the zones that
have not completed, whether it is the changeover's, whether a zone has completed, S once it is fixed, whether the zones
have been switched at S, and the zones whose drain was forced (R401); and what it takes once MCK runs
again, in order. -/
structure GafferState where
  cur : Option Insertion
  pend : Option Insertion
  co : Nat
  stage : Tab (List (Nat × Nat))
  run : Tab Nat
  retry : Tab Nat
  swapSet : List Nat
  swap : List Nat
  swapCo : Bool
  swapAny : Bool
  edge : Option Nat
  passed : Bool
  forced : List Nat
  late : List GafLate
  deriving DecidableEq, Repr

/-- A Gaffer in IDLE. -/
def GafferState.idle : GafferState :=
  { cur := none, pend := none, co := 0, stage := [], run := [], retry := [], swapSet := [], swap := [],
    swapCo := false, swapAny := false, edge := none, passed := false,
    forced := [], late := [] }


/-! ## Power states (chapter 18) -/

/-- Power entry and wake: the target of the entry in progress, the zones that its state stops, a wake event raised after
the commit point or while MCK was stopped, each die's machine time as the wake began (R500), the event and unit that abort
an entry at the next MCK edge (R495, R498), whether the wake is one from DORMANT (R502); whether the loops that the state
stopped were restarted; and whether the fabric rail is back after DORMANT. -/
structure PowerState where
  target : Nat
  stops : List Nat
  wakeLater : Option Nat
  wakeMt : Tab Nat
  abortLater : Option (Nat × Nat)
  regating : Bool
  loopsRestart : Bool
  up : Bool
  deriving DecidableEq, Repr

/-- RUN: no entry and no wake. -/
def PowerState.idle : PowerState :=
  { target := 0, stops := [], wakeLater := none, wakeMt := [], abortLater := none, regating := false, loopsRestart := false,
    up := false }

/-! ## The pool and the stream mover (chapter 12) -/

/-- The pool's arbitration: the owner in force per bank (PL_BANKn_OWNER shows what was last written, R346), and
the banks whose present starving episode has been reported (R349). -/
structure PoolState where
  eff : Tab Nat
  told : List Nat
  deriving DecidableEq, Repr

/-- A chunk of a descriptor (R360): its number, its addresses and bytes; what has been read; whether its write has
been issued; whether it is not to be written any more (R362, R364). -/
structure Chunk where
  no : Nat
  src : Nat
  dst : Nat
  len : Nat
  data : Option (List DataUnit)
  wrote : Bool
  dead : Bool
  deriving DecidableEq, Repr

/-- A channel of the stream mover: whether its descriptor fetch has been issued; the descriptor's four words; the
row and the byte in it of the next chunk, and that chunk's number; the chunks outstanding, oldest first; the
failure that stops it (error and status) while outstanding responses are awaited. -/
structure SmvChannel where
  asked : Bool
  desc : List Nat
  row : Nat
  pos : Nat
  next : Nat
  chunks : List Chunk
  fail : Option (Nat × Nat)
  deriving DecidableEq, Repr

/-- An idle channel. -/
def SmvChannel.idle : SmvChannel :=
  { asked := false, desc := [], row := 0, pos := 0, next := 0, chunks := [], fail := none }


/-! ## Serial lanes (chapter 24) -/

/-- A block in a lane's buffer: its payload as a codeword, CTRL, and ERR. -/
structure LaneBlock where
  word : Code72
  ctrl : Bool
  err : Bool
  deriving DecidableEq, Repr

/-- A lane, beside its registers: the receive and transmit buffers, oldest first; the HALF 0 token held; the
scramblers' last 58 bits; the headers counted in the block-lock state (valid ones in a row in HUNT; all and invalid
ones of the window in LOCKED); whether the next block delivered carries FIRST; the episodes of kinds 5 and 7 under
way; the block last sent (header and payload as on the line); the PRBS generator and checker, its agreeing bits,
and the bits and errors of its window; the sweep's PEAK to restore, step, and errors since the step began. -/
structure LaneState where
  rx : List LaneBlock
  tx : List LaneBlock
  half0 : Option (BitVec 36)
  txScr : Nat
  rxScr : Nat
  good : Nat
  seen : Nat
  bad : Nat
  first : Bool
  overflow : Bool
  unc : Bool
  sent : Option (Nat × Nat)
  gen : Nat
  chk : Nat
  agree : Nat
  window : Nat
  wrong : Nat
  sweepPeak : Nat
  sweepStep : Nat
  sweepErr : Nat
  deriving DecidableEq, Repr

/-- A lane after reset. The PRBS generator starts from all ones (assumption log 4). -/
def LaneState.idle : LaneState :=
  { rx := [], tx := [], half0 := none, txScr := 0, rxScr := 0, good := 0, seen := 0, bad := 0, first := false,
    overflow := false, unc := false, sent := none, gen := 2 ^ 31 - 1, chk := 0, agree := 0, window := 0, wrong := 0,
    sweepPeak := 0, sweepStep := 0, sweepErr := 0 }


/-! ## Motion front end, cam engines, crossbar inputs (chapters 21, 22) -/

/-- An encoder channel: the levels of A and B that last counted, the 48-bit position, POS_HI as captured (R169), the
position from which ZMISS counts and whether the first Z since EN is still to come (R556), the value of the last SSI
frame and whether a frame runs and B read high before it (R557), and for standstill the movement since the 1 ms
window began (now, lowest, highest) and the spans of the windows before, newest first (R569). -/
structure Encoder where
  a : Bool
  b : Bool
  pos : Nat
  capt : Option Nat
  zRef : Nat
  zFirst : Bool
  vPrev : Nat
  frame : Option Bool
  cur : Int
  low : Int
  high : Int
  spans : List Nat
  deriving DecidableEq, Repr

/-- An encoder at position 0. -/
def Encoder.idle : Encoder :=
  { a := false, b := false, pos := 0, capt := none, zRef := 0, zFirst := false, vPrev := 0, frame := none, cur := 0,
    low := 0, high := 0, spans := [] }

/-- A mark channel, beside its registers: the level last seen, the position of the last accepted edge, the previous
edge of ACQUIRE, the history (newest last), P_last, P_next, and the position at issue (R559 to R562). -/
structure MarkChannel where
  level : Bool
  last : Option Nat
  prev : Option Nat
  hist : List Int
  pLast : Nat
  pNext : Nat
  issued : Nat
  deriving DecidableEq, Repr

/-- A channel that has seen nothing. -/
def MarkChannel.idle : MarkChannel :=
  { level := false, last := none, prev := none, hist := [], pLast := 0, pNext := 0, issued := 0 }

/-- A cam engine, beside its registers: the 8 words of its segment, its base B, the fetched NEXT and RETRACT segments,
the fetches under way (0 NEXT, 1 RETRACT, 2 START), the provisional chain (channel, SEQ, confirmed), whether the next
set-point is the segment's first, and for each output the data (1) and OE (2) that it presented before PRED rose
(R550). -/
structure CamEngine where
  seg : List Nat
  base : Nat
  nextSeg : Option (List Nat)
  retrSeg : Option (List Nat)
  fetch : List Nat
  chain : Option (Nat × Nat × Bool)
  first : Bool
  gate0 : Nat
  gate1 : Nat
  deriving DecidableEq, Repr

/-- An idle engine. -/
def CamEngine.idle : CamEngine :=
  { seg := [], base := 0, nextSeg := none, retrSeg := none, fetch := [], chain := none, first := false, gate0 := 0,
    gate1 := 0 }


/-! ## Identity ports (chapter 23) -/

/-- A write to a part's memory (R596 to R600, R604): kind 0 a counter cell under ADD, 1 a cell of CNT_INIT, 2 the WRITE
command; the cell (for WRITE the word address); the sequence (for WRITE the length); the value (for WRITE the bytes as
one number); the delta that the write takes from PENDING (for CNT_INIT the value that cell 0 is to hold). -/
structure IdWrite where
  kind : Nat
  cell : Nat
  seq : Nat
  val : Nat
  delta : Nat
  deriving DecidableEq, Repr

/-- An identity port, beside its registers: the presence last seen and the debounced one; the state that REMOVING
returns to; the transaction that runs (0 none, 1 a descriptor read, 2 a page write, 3 polling, 4 a read-back); whether
the read has been repeated and whether the repeat is due; whether the read is an insertion's, and a READY reached in
REMOVING is still to be handed over; whether IDR_CMD runs on the port; the write under way; the failed write that the
next attempt repeats; the failed writes in a row; and whether the part was in the socket before the reference failed, so that
its removal counts although it has not been debounced since (R26, R587). -/
structure IdPort where
  raw : Bool
  deb : Bool
  back : Nat
  tx : Nat
  again : Bool
  due : Bool
  fresh : Bool
  hand : Bool
  cmd : Bool
  wr : Option IdWrite
  redo : Option IdWrite
  fails : Nat
  kept : Bool
  deriving DecidableEq, Repr

/-- A port after reset. -/
def IdPort.idle : IdPort :=
  { raw := false, deb := false, back := 0, tx := 0, again := false, due := false, fresh := false, hand := false,
    cmd := false, wr := none, redo := none, fails := 0, kept := false }


/-! ## MLINK (chapter 03) -/

/-- A ring access that MLINK has accepted and not yet answered (R71 to R76): its kind, MLINK address and count, the
payload words of a write, and whether it waits for an abandoned one to be answered (R76). -/
structure LinkAccess where
  write : Bool
  addr : Nat
  count : Nat
  words : List Nat
  waiting : Bool
  deriving DecidableEq, Repr

/-- What a rise of MCS_N asks for that waits for MCK (R79): a short frame (R78), a ring access abandoned (R75), or the
COMMAND reset of the frame that ended (R117). -/
inductive CsRise
  | short
  | abandon
  | command
  deriving DecidableEq, Repr

/-- MLINK: the ring access under way, the last reply sent, from its ready token to its CRC (Table 03.3), and the rise of
MCS_N that waits for MCK. -/
structure MlinkState where
  access : Option LinkAccess
  reply : List Byte
  rose : Option CsRise
  deriving DecidableEq, Repr


/-- The whole device, but for its memories and the command queue. `free` counts the free values used so far
(assumption log 3: the model's own field). -/
structure Device where
  regs : Tab Word
  free : Nat
  board : BoardState
  rst : ResetState
  clk : ClockState
  zones : Tab Zone
  ring : RingState
  brErrs : Tab (List Nat)
  ev : EventState
  cul : CulletState
  refusals : RefusalState
  pw : PowerState
  banks : Tab BankPins
  orm : OrmState
  fuses : FuseState
  keys : KeyState
  trng : TrngState
  lc : LcState
  tap : TapState
  bat : BatState
  gath : Tab GatherJob
  cmp : Tab CmpState
  lehr : Tab LehrState
  gaf : GafferState
  pool : PoolState
  smv : Tab SmvChannel
  smvTurn : Nat
  bankVolt : List Nat
  calSeen : Nat
  lanes : Tab LaneState
  warnOn : Bool
  enc : Tab Encoder
  marks : Tab MarkChannel
  cams : Tab CamEngine
  eviSeen : Nat
  xbConf : List Nat
  ident : Tab IdPort
  ml : MlinkState
  deriving DecidableEq, Repr

/-- One stored configuration frame: 20 codewords and the CRC-16 of its 160 bytes (R382). -/
structure Frame where
  words : List Code72
  crc : BitVec 16
  deriving DecidableEq, Repr

/-- A slot that no frame has been written to. -/
def Frame.none : Frame := { words := [], crc := 0 }

/-- A memory of codewords or rows of 72 bits by address; what no entry lists reads as all zeros (R120). -/
abbrev Memory := Tab Code72

/-- The canonical form of a memory. -/
def Memory.wf (m : Memory) : Bool := Tab.wf (fun _ => (0 : Code72)) m

/-- The addressed stores: the pool (word address: byte address ÷ 8, 0 to 8,388,607), the block memories (row
address: (zone number × 48 + memory) × 512 + row), and the configuration frames ((zone number × 65,536)
+ FA[25:10]). -/
structure Stores where
  pool : Memory
  bm : Memory
  frames : Tab Frame
  deriving DecidableEq, Repr

/-- The state: the commands that wait, the device and its stores. -/
structure State where
  pending : List Instr
  dev : Device
  mem : Stores
  deriving DecidableEq, Repr

/-- Why a command stops with a fault. -/
inductive Fault
  /-- Raised by a command whose operands have not the shape that WellFormed asks for (a list of the wrong
  length): no such command can reach the device. Safe: no effect is claimed for it. -/
  | illFormed (mnemonic : String)
  deriving DecidableEq, Repr

/-- Why a command is refused by the model. A refusal that the device itself reports (R14) is a next state. -/
inductive Refusal
  /-- Raised for a row that has no meaning yet. Safe: nothing is claimed for it. -/
  | notModelled (mnemonic : String)
  deriving DecidableEq, Repr

/-- The device right after reset: POR asserted with every rail good, every register at its reset value
(the values the manual does not give: assumption log 4). -/
def Device.reset : Device :=
  { regs := Tab.set regReset (Tab.set regReset [] F.RS_CAUSE_CAUSE.key 1) F.BG_STATUS_ABOVE_WARN.key 3, free := 0, board := .nominal, rst := .por0,
    clk := .off, zones := [], ring := .idle, brErrs := [], ev := .idle, cul := .idle, refusals := .idle,
    pw := .idle,
    banks := [],
    orm := { pages := [], opt := .fuseDefaults, write := none, dev := none, entry := none, incs := [] },
    fuses := { lc0 := 0x5A35A3, lc1 := 0xA5CA5C, devid := 0, rows := [], gen := 0, sensed0 := 0x5A35A3, sensed1 := 0xA5CA5C, unstable := false },
    keys := { slots := [], prog := none, revoke := none, deferred := none },
    trng := { fifo := [], last := false, run := 0, first := false, seen := 0, same := 0 },
    lc := { target := none, fused := false, announce := false, resetDue := false, nonce := none },
    tap := { ir := 2, dr := 0x152409CB, waiting := none, denied := false, boundary := [], units := [] },
    bat := { below18 := false, below12 := false, caseNow := 0, lostNoted := false },
    gath := [],
    cmp := [],
    lehr := [],
    gaf := .idle,
    pool := { eff := [], told := [] },
    smv := [],
    smvTurn := 0,
    bankVolt := [],
    calSeen := 0,
    lanes := [],
    warnOn := false,
    enc := [],
    marks := [],
    cams := [],
    eviSeen := 0,
    xbConf := [],
    ident := [],
    ml := { access := none, reply := [], rose := none }
  }

/-- The machine right after reset: nothing waits, and every memory reads zero (R120). -/
def State.reset : State :=
  { pending := [], dev := .reset, mem := { pool := [], bm := [], frames := [] } }

end Sys2Proof.Machine
end

