-- ==== Sys2Proof/Machine/Operands.lean ====
section
/-! DEFINITION. The operand forms that units share: fields of registers, ring headers (Table 09.4), ring
addresses, frame addresses, and the numbering of zones, stops and initiators. -/

namespace Sys2Proof

/-- A stop's key. -/
def StopId.key (t : StopId) : Nat := t.die.val * 128 + t.stop.val

/-- The initiator's key: its stop's. The compute links have no stop: die `d` uses key 640 + d. -/
def Initiator.key : Initiator → Nat
  | .zone z => z.die.no * 128 + z.zone.val
  | .mlink => 1
  | .events => 6
  | .smv => 24
  | .cam => 35
  | .gaf => 36
  | .gather d => d.no * 128 + 96
  | .link d => 640 + d.no

end Sys2Proof

namespace Sys2Proof.Machine

/-- The number with bits `hi:lo` replaced by `v`. -/
def putBits (n hi lo v : Nat) : Nat :=
  n / 2 ^ (hi + 1) * 2 ^ (hi + 1) + v % 2 ^ (hi + 1 - lo) * 2 ^ lo + n % 2 ^ lo

/-- All the zone numbers (0 to 255), in ascending index (R510). -/
def zoneNumbers : List Nat := List.range 256

/-- The zone numbers of die `d` (1 to 4). -/
def dieZones (d : Nat) : List Nat := (List.range 64).map (fun z => (d - 1) * 64 + z)

/-- The fabric dies, 1 to 4. -/
def fabricDies : List Nat := [1, 2, 3, 4]

/-- The key of a stop: die × 128 + stop number. -/
def stopKey (die stop : Nat) : Nat := die * 128 + stop

/-- The key of zone number `n`'s stop. -/
def zoneStop (n : Nat) : Nat := stopKey (zoneDie n) (n % 64)

/-- The unit ID of a stop: its die and, as the low 7 bits, its number (R4). -/
def stopUnit (key : Nat) : Nat := key / 128 * 512 + key % 128

/-- The die of a unit ID (R4). -/
def unitDie (u : Nat) : Nat := u / 512

/-- Does a stop exist (Table 09.1)? -/
def stopExists (die stop : Nat) : Bool :=
  if die = 0 then
    [0, 1, 6, 7, 24, 48, 49, 50, 51, 52].contains stop || (decide (16 ≤ stop) && decide (stop ≤ 23))
      || (decide (32 ≤ stop) && decide (stop ≤ 37))
  else decide (die ≤ 4) && (decide (stop ≤ 69) || stop == 96 || stop == 98)

/-- Is an initiator's key that of a zone? -/
def isZoneKey (key : Nat) : Bool :=
  decide (128 ≤ key) && decide (key < 640) && decide (key % 128 < 64)

/-- The zone number of a zone's stop key. -/
def keyZone (key : Nat) : Nat := (key / 128 - 1) * 64 + key % 128

/-- The unit ID that an initiator's records name: its stop's unit; for a compute link its pool group. -/
def initUnit (key : Nat) : Nat := if 640 < key then U.PL (key - 641) else stopUnit key

/-- The field `f` of Table 10.6 in the initiator block of `key`: at 0x300 of its unit. -/
def initField (key : Nat) (f : Nat → Field) : Field := f (initUnit key)

end Sys2Proof.Machine
end

