-- ==== Sys2Proof/Machine/Ops.lean ====
section
/-! DEFINITION. The named operations that every unit shares: reading and writing register fields, free
values, zones and stops, raising events (R505, R508 to R511), refusals (R14, R631, R632), Cullet records
(R314 to R318), and the words of the memories. -/

namespace Sys2Proof.Machine

/-! ## Registers (R6) -/

/-- The value of the register at `key` (unit × 0x1000 + offset). -/
def Device.rd (d : Device) (key : Nat) : Nat := (Tab.get regReset d.regs key).toNat

/-- The device with `v` in the register at `key`. -/
def Device.wr (d : Device) (key v : Nat) : Device :=
  { d with regs := Tab.set regReset d.regs key (BitVec.ofNat 32 v) }

/-- A field's value. -/
def Device.get (d : Device) (f : Field) : Nat := bits (d.rd f.key) f.hi f.lo

/-- A field that is one bit, read as a Boolean. -/
def Device.on (d : Device) (f : Field) : Bool := d.get f != 0

/-- The device with `v` in a field. -/
def Device.set (d : Device) (f : Field) (v : Nat) : Device :=
  d.wr f.key (putBits (d.rd f.key) f.hi f.lo v)

/-- A saturating count one higher. -/
def Device.inc (d : Device) (f : Field) : Device := d.set f (satInc (f.hi + 1 - f.lo) (d.get f))

/-- A wrapping count one higher. -/
def Device.bump (d : Device) (f : Field) : Device := d.set f (d.get f + 1)

/-- A bit of a field set: bit `i` of the field. -/
def Device.setFieldBit (d : Device) (f : Field) (i : Nat) : Device := d.set f (setBit (d.get f) i)

/-- A bit of a field cleared. -/
def Device.clearFieldBit (d : Device) (f : Field) (i : Nat) : Device := d.set f (clearBit (d.get f) i)

/-- Do the fields of a list hold? -/
def Device.setAll (d : Device) : List (Field × Nat) → Device
  | [] => d
  | (f, v) :: r => (d.set f v).setAll r

/-! ## Free values (assumption log 3) -/

/-- The device after one free value has been used. -/
def Device.tick (d : Device) : Device := { d with free := d.free + 1 }
/-- The next free Boolean. -/
def Device.freeBool (d : Device) : Bool := Config.freeBool d.free
/-- The next free number below `n` (0 where `n` is 0). -/
def Device.freeBelow (d : Device) (n : Nat) : Nat := Config.freeNat d.free % n

/-! ## Applying an operation to several things -/

/-- Apply `f` for each number of a list, in its order. -/
def Device.each (d : Device) (l : List Nat) (f : Device → Nat → Device) : Device := l.foldl f d

/-- Apply `f` where `b` holds. -/
def Device.when (d : Device) (b : Bool) (f : Device → Device) : Device := if b then f d else d

/-! ## Zones, stops and initiators -/

/-- Zone number `n`. -/
def Device.zone (d : Device) (n : Nat) : Zone := Tab.get (fun _ => Zone.blank) d.zones n
/-- The device with zone number `n` replaced. -/
def Device.setZone (d : Device) (n : Nat) (z : Zone) : Device :=
  { d with zones := Tab.set (fun _ => Zone.blank) d.zones n z }
/-- The device with zone number `n` changed by `f`. -/
def Device.modZone (d : Device) (n : Nat) (f : Zone → Zone) : Device := d.setZone n (f (d.zone n))

/-- The target stop with a key. -/
def Device.target (d : Device) (k : Nat) : TargetState := Tab.get (fun _ => TargetState.idle) d.ring.targets k
/-- The device with a target stop replaced. -/
def Device.setTarget (d : Device) (k : Nat) (t : TargetState) : Device :=
  { d with ring := { d.ring with targets := Tab.set (fun _ => TargetState.idle) d.ring.targets k t } }

/-- The initiator with a key. -/
def Device.init (d : Device) (k : Nat) : InitState := Tab.get (fun _ => InitState.idle) d.ring.inits k
/-- The device with an initiator replaced. -/
def Device.setInit (d : Device) (k : Nat) (i : InitState) : Device :=
  { d with ring := { d.ring with inits := Tab.set (fun _ => InitState.idle) d.ring.inits k i } }

/-- Is die `die` fenced (RS_STATUS.DIE_FENCED)? The P-die is never. -/
def Device.fenced (d : Device) (die : Nat) : Bool :=
  decide (1 ≤ die) && decide (die ≤ 4) && bit (d.get F.RS_STATUS_DIE_FENCED) (die - 1)

/-- Are the fabric dies without power in DORMANT (PW_STATUS.STATE 4), with the rail not back yet (R502)? -/
def Device.dormant (d : Device) : Bool := d.get F.PW_STATUS_STATE == 4 && !d.pw.up

/-- The active plane's state is ACTIVE (4): the zone is configured (Table 14.1). -/
def Device.zoneActive (d : Device) (n : Nat) : Bool :=
  (if d.on (F.ZN_PLANE_ACTIVE (zoneUnit n)) then d.get (F.ZN_PLANE_STATE1 (zoneUnit n))
    else d.get (F.ZN_PLANE_STATE0 (zoneUnit n))) == 4

/-- The image of a zone's active plane. -/
def Device.image (d : Device) (n : Nat) : Image :=
  if d.on (F.ZN_PLANE_ACTIVE (zoneUnit n)) then (d.zone n).img1 else (d.zone n).img0

/-! ## Machine time (R160, R167) -/

/-- Machine time as die `die` holds it: the P-die's own, or the die's copy. -/
def Device.mtOf (d : Device) (die : Nat) : Nat :=
  if die = 0 then d.clk.mt else Tab.get (fun _ => 0) d.clk.copies die

/-! ## Events (R505 to R511) -/

/-- Events 31, 94 and 95 never latch (R507). -/
def neverLatches (ev : Nat) : Bool := ev == 31 || ev == 94 || ev == 95

/-- A latched event that the host mask passes exists (R509). -/
def Device.mirqWanted (d : Device) : Bool :=
  [0, 1, 2, 3].any (fun k =>
    decide (Nat.land (d.get (F.EV_LATCH_EVENTS k)) (d.get (F.EV_HOST_MASK_EVENTS k)) ≠ 0))

/-- MIRQ_N follows its condition; it is released while POR is asserted (R53, R509). -/
def Device.mirqUpdate (d : Device) : Device :=
  { d with ev := { d.ev with mirqLow := d.mirqWanted && !d.rst.por } }

/-- Latch one raise: the latch bit, RAISE_CNT (16 bits, wraps) and the unit (R505). -/
def Device.latchRaise (d : Device) (r : Raise) : Device :=
  (({ d with ev := { d.ev with
        count := Tab.set (fun _ => 0) d.ev.count r.ev ((Tab.get (fun _ => 0) d.ev.count r.ev + 1) % 65536),
        unit := Tab.set (fun _ => 0) d.ev.unit r.ev r.unit } }).when (!neverLatches r.ev)
      (fun d => d.setFieldBit (F.EV_LATCH_EVENTS (r.ev / 32)) (r.ev % 32))).mirqUpdate

/-- The subscription mask of an event: EV_SUB0 to 7 as one number (R510). -/
def Device.subMask (d : Device) (ev : Nat) : Nat :=
  (List.range 8).foldl (fun a k => a + (Tab.get (fun _ => (0 : Word)) d.ev.subs (ev * 8 + k)).toNat * 2 ^ (32 * k)) 0

/-- A raise enters the delivery queue, or is lost to it and counted (R510, R511). -/
def Device.enqueueRaise (d : Device) (r : Raise) : Device :=
  if d.ev.queue.length < 64 then { d with ev := { d.ev with queue := d.ev.queue ++ [(r, d.subMask r.ev)] } }
  else d.inc F.EV_DELIV_LOST_COUNT

/-- One stream-mover channel counts a raise of its trigger event; a descriptor that waits for it consumes it
(R363). -/
def Device.smvTrigger (ev : Nat) (d : Device) (c : Nat) : Device :=
  if d.on (F.SMV_CH_CTL_TRIG_EN c) && d.get (F.SMV_CH_CTL_TRIG c) == ev then
    if d.get (F.SMV_CH_STATUS_STATE c) = 2 then d.set (F.SMV_CH_STATUS_STATE c) 3
    else if d.get (F.SMV_CH_STATUS_TRIG_PENDING c) = 255 then d.set (F.SMV_CH_STATUS_TRIG_OVF c) 1
    else d.bump (F.SMV_CH_STATUS_TRIG_PENDING c)
  else d

/-- Does a unit raise nothing: its die is fenced, or is a fabric die in DORMANT (R508)? -/
def Device.silent (d : Device) (unit : Nat) : Bool :=
  decide (unitDie unit ≠ 0) && (d.fenced (unitDie unit) || d.dormant)

/-- Record and deliver one raise, without its effect on the power states: latched at once while MCK runs
(MCK_RANGE always, R505), else when MCK resumes; delivered and counted by triggers in either case. -/
def Device.raiseCore (d : Device) (ev unit payload : Nat) : Device :=
  if d.silent unit then d
  else
    let r : Raise := { ev := ev, unit := unit, payload := payload, mt := d.mtOf (unitDie unit) }
    let d := d.enqueueRaise r
    let d := d.each (List.range 16) (Device.smvTrigger ev)
    if d.board.mck || ev == Ev.MCK_RANGE then d.latchRaise r
    else { d with ev := { d.ev with waiting := d.ev.waiting ++ [r] } }

/-! ## Refusals (R14, R631 to R633) -/

/-- MG_REFUSAL_LAST and MG_REFUSAL_CNT take a refusal record (R632). -/
def Device.lastRefusal (d : Device) (r : RefusalRec) : Device :=
  (d.setAll [(F.MG_REFUSAL_LAST_UNIT, r.unit), (F.MG_REFUSAL_LAST_REASON, r.reason),
    (F.MG_REFUSAL_LAST_INDEX, r.index)]).inc F.MG_REFUSAL_CNT_COUNT

/-- A refusal of the unit whose *_REFUSE register is at `key`: the unit's record at once; the record goes to
the management unit, which takes it by `take`, in the MCK cycle (P-die), or into the die's queue (fabric dies; lost
when fenced). -/
def Device.refuseBy (take : Device → RefusalRec → Device) (d : Device) (key : Nat) (why : Reason) (index : Nat) : Device :=
  let r : RefusalRec := { unit := key / 4096, reason := why.code, index := index % 256 }
  let d := d.wr key (why.code * 256 + index % 256)
  if unitDie r.unit = 0 then
    if d.board.mck then take d r
    else { d with refusals := { d.refusals with waiting := d.refusals.waiting ++ [r] } }
  else if d.fenced (unitDie r.unit) then d
  else
    let q := Tab.get (fun _ => []) d.refusals.queues (unitDie r.unit) ++ [r]
    let t := Tab.set (fun _ => []) d.refusals.queues (unitDie r.unit) q
    { d with refusals := { d.refusals with queues := t } }

/-- Is a die's refusal queue full, so that register writes that arrive there wait (R632)? -/
def Device.refusalsFull (d : Device) (die : Nat) : Bool :=
  decide (16 ≤ (Tab.get (fun _ => []) d.refusals.queues die).length)

/-! ## The power states' part of a raise (R493 to R499) -/

/-- Does the source of an event run in a power state (R493, Table 19.3)? -/
def sourceRuns (state ev : Nat) : Bool :=
  if ev = 2 ∨ ev = 3 ∨ ev = 10 ∨ ev = 11 then false
  else if state = 4 then
    !((decide (32 ≤ ev) && decide (ev ≤ 40)) || ev == 88 || (decide (64 ≤ ev) && decide (ev ≤ 87))
      || decide (96 ≤ ev) || ev == 5 || ev == 6 || ev == 7)
  else if state = 3 then !((decide (64 ≤ ev) && decide (ev ≤ 87)) || ev == 5 || ev == 6 || ev == 7)
  else true

/-- Is an event's wake enable set (R515)? -/
def Device.wakeEnabled (d : Device) (ev : Nat) : Bool := bit (d.get (F.EV_WAKE_EVENTS (ev / 32))) (ev % 32)

/-- The records of a refused or aborted power command (R496): `kind` 0 refused, 1 aborted. The effect of its two events
on the power states is not in it: an aborted entry leaves none to affect, and `pwRefuse` adds it for a refused command. -/
def Device.pwRefusal (d : Device) (kind unit : Nat) (why : Reason) (ev : Nat) : Device :=
  let d := d.inc F.PW_REFUSE_CNT_COUNT
  let d := d.setAll [(F.PW_REFUSER_UNIT, unit), (F.PW_REFUSER_KIND, kind), (F.PW_REFUSER_REASON, why.code),
    (F.PW_REFUSER_EVENT, ev)]
  (Device.refuseBy (fun d r => (d.lastRefusal r).raiseCore Ev.REFUSAL r.unit 0) d F.PW_REFUSE_REASON.key why
    (F.PW_CMD_GO.key % 4096 / 4)).raiseCore Ev.PW_ENTRY_REFUSED U.PW 0

/-- An entry is aborted (R495, R496): every drained stop is released, nothing else changes. -/
def Device.pwAbort (d : Device) (unit : Nat) (why : Reason) (ev : Nat) : Device :=
  let d := d.each d.pw.stops (fun d n => d.setTarget (zoneStop n) { d.target (zoneStop n) with drain := false })
  let d := { d with pw := .idle }
  let d := d.setAll [(F.PW_CMD_GO, 0), (F.PW_STATUS_PHASE, 0)]
  d.pwRefusal 1 unit why ev

/-- A wake begins (R499): the source is recorded and the loops that the state stopped are started (R501,
R502). The zones follow when the wake completes. -/
def Device.wakeBegin (d : Device) (source : Nat) : Device :=
  let st := d.get F.PW_STATUS_STATE
  let d := d.setAll [(F.PW_STATUS_PHASE, 5), (F.PW_WAKE_SRC_SOURCE, source)]
  let d := { d with pw := { d.pw with wakeLater := none, wakeMt := d.clk.copies } }
  if st = 3 ∨ st = 4 then
    let d := { d with clk := { d.clk with root := Loop.ACQUIRING } }
    let d := { d with pw := { d.pw with loopsRestart := true, regating := decide (st = 4) } }
    if st = 3 then
      let t := fabricDies.foldl
        (fun t k => if d.fenced k then t else Tab.set (fun _ => 0) t k Loop.ACQUIRING) d.clk.slaves
      { d with clk := { d.clk with slaves := t } }
    else d
  else d

/-- What a raise does to an entry in progress or a low-power state, at once while MCK runs, else at its next edge (R495,
R497 to R499). -/
def Device.powerHook (d : Device) (ev unit : Nat) : Device :=
  if !d.wakeEnabled ev then d
  else
    let phase := d.get F.PW_STATUS_PHASE
    if phase = 2 then
      if !sourceRuns d.pw.target ev then d
      else if d.board.mck then d.pwAbort unit .busy ev
      else if d.pw.abortLater.isNone then { d with pw := { d.pw with abortLater := some (ev, unit) } } else d
    else if phase = 3 then
      if sourceRuns d.pw.target ev && d.pw.wakeLater.isNone then
        { d with pw := { d.pw with wakeLater := some ev } } else d
    else if phase = 4 then
      if sourceRuns (d.get F.PW_STATUS_STATE) ev then
        if d.board.mck then d.wakeBegin ev
        else if d.pw.wakeLater.isNone then { d with pw := { d.pw with wakeLater := some ev } } else d
      else d
    else d

/-- One raise of event `ev` by `unit` (R505, R508, R510, R363, R495, R499). -/
def Device.raise (d : Device) (ev unit payload : Nat) : Device :=
  if d.silent unit then d else (d.raiseCore ev unit payload).powerHook ev unit

/-- The records of a refused power command (R496), with what its two events do to an entry or a power state. -/
def Device.pwRefuse (d : Device) (unit : Nat) (why : Reason) : Device :=
  ((d.pwRefusal 0 unit why 0xFF).powerHook Ev.REFUSAL U.PW).powerHook Ev.PW_ENTRY_REFUSED U.PW

/-! ## Refusals as every unit makes them (R14, R631 to R633) -/

/-- A refusal record reaches the management unit: MG_REFUSAL_LAST, MG_REFUSAL_CNT and REFUSAL (R632). -/
def Device.applyRefusal (d : Device) (r : RefusalRec) : Device := (d.lastRefusal r).raise Ev.REFUSAL r.unit 0

/-- A refusal of the unit whose *_REFUSE register is at `key`, with its code and index (R14, R631, R632). -/
def Device.refuse (d : Device) (key : Nat) (why : Reason) (index : Nat) : Device :=
  Device.refuseBy Device.applyRefusal d key why index

/-- A refusal whose index is a register's offset ÷ 4 (R631). -/
def Device.refuseAt (d : Device) (refuseReg : Field) (why : Reason) (reg : Field) : Device :=
  d.refuse refuseReg.key why (reg.key % 4096 / 4)

/-! ## The Cullet (R314 to R318) -/

/-- A record as its detector makes it: the time is the copy of the detector's die. -/
def Device.mkRecord (d : Device) (kind unit peer : Nat) : Record :=
  { mt := d.mtOf (unitDie unit), addr := 0, tag := 0, cls := 0, status := 0, addrValid := false, unit := unit,
    peer := peer, kind := kind, rep := 0 }

/-- No other party (R314). -/
def noPeer : Nat := 0xFFF

/-- The Cullet takes a record: as a repeat of the newest, or as a new one at CUL_NEXT (R316, R318). -/
def Device.culletTake (d : Device) (r : Record) : Device :=
  let at? : Option (Nat × Record) := match d.cul.newest with
    | none => none
    | some i => match Tab.get (fun _ => none) d.cul.log i with
      | none => none
      | some o => if o.unit = r.unit ∧ o.kind = r.kind ∧ o.peer = r.peer then some (i, o) else none
  match at? with
  | some (i, o) =>
    { d with cul := { d.cul with
        log := Tab.set (fun _ => none) d.cul.log i (some { o with rep := satInc 16 o.rep }) } }
  | none =>
    let i := d.get F.CUL_NEXT_INDEX
    let d := { d with cul := { d.cul with log := Tab.set (fun _ => none) d.cul.log i (some r), newest := some i } }
    let d := d.set F.CUL_NEXT_INDEX (i + 1)
    if i = 255 then d.inc F.CUL_NEXT_WRAPS else d

/-- A unit writes a record: P-die units to the Cullet at once; fabric dies into their die's buffer of 32, or
lost and counted; a fenced die's records are lost (R317). -/
def Device.record (d : Device) (r : Record) : Device :=
  let die := unitDie r.unit
  if die = 0 then d.culletTake r
  else if d.fenced die then d
  else
    let b := Tab.get (fun _ => []) d.cul.buffers die
    if b.length < 32 then
      { d with cul := { d.cul with buffers := Tab.set (fun _ => []) d.cul.buffers die (b ++ [r]) } }
    else d.inc (F.DR_CUL_LOST_COUNT (U.DR die))

/-- The words E0 to E5 of a record (Table 10.3). -/
def Record.words (r : Record) : List Nat :=
  [r.mt % 2 ^ 32, r.mt / 2 ^ 32 % 2 ^ 32, r.addr % 2 ^ 32,
   r.tag % 1024 * 2 ^ 22 + r.cls % 4 * 2 ^ 20 + r.status % 8 * 2 ^ 17 + b2n r.addrValid * 2 ^ 16
     + r.addr / 2 ^ 32 % 65536,
   r.unit % 4096 * 2 ^ 20 + r.peer % 4096 * 2 ^ 8 + r.kind % 256,
   r.rep % 65536 * 65536]

/-! ## Memories (R120, R319) -/

/-- The word stored at an address; all zeros where nothing is listed. -/
def Memory.read (m : Memory) (a : Nat) : Code72 := Tab.get (fun _ => 0) m a
/-- The memory with a word stored. -/
def Memory.write (m : Memory) (a : Nat) (w : Code72) : Memory := Tab.set (fun _ => 0) m a w
/-- The memory with every listed word whose address is in `lo … hi - 1` zeroed. -/
def Memory.zero (m : Memory) (lo hi : Nat) : Memory := m.filter (fun e => e.1 < lo || hi ≤ e.1)

/-- A pool word (address: byte address ÷ 8). -/
def Stores.poolRd (m : Stores) (a : Nat) : Code72 := m.pool.read a
/-- The stores with a pool word written. -/
def Stores.poolWr (m : Stores) (a : Nat) (w : Code72) : Stores := { m with pool := m.pool.write a w }

/-- The address of a block-memory row (R221): zone number, memory 0 to 47, row 0 to 511. -/
def bmAddr (zone mem row : Nat) : Nat := (zone * 48 + mem) * 512 + row
/-- A row. -/
def Stores.row (m : Stores) (a : Nat) : Code72 := m.bm.read a
/-- The stores with a row written. -/
def Stores.setRow (m : Stores) (a : Nat) (w : Code72) : Stores := { m with bm := m.bm.write a w }

/-- The frame in a slot. -/
def Stores.frame (m : Stores) (k : Nat) : Frame := Tab.get (fun _ => Frame.none) m.frames k
/-- The stores with a frame slot written. -/
def Stores.setFrame (m : Stores) (k : Nat) (f : Frame) : Stores :=
  { m with frames := Tab.set (fun _ => Frame.none) m.frames k f }

/-! ## Commands -/

/-- The state with its device changed: the memories and the queue stay. -/
def State.on (s : State) (f : Device → Device) : State := { s with dev := f s.dev }

/-- The state with its device and memories changed: the queue stays. -/
def State.onBoth (s : State) (f : Device → Stores → Device × Stores) : State :=
  { s with dev := (f s.dev s.mem).1, mem := (f s.dev s.mem).2 }

/-- A management action, which takes place only while MCK runs (R79). -/
def Device.onMck (d : Device) (f : Device → Device) : Device := if d.board.mck then f d else d

/-- A management action on the reference oscillator's timebase, which runs whether or not MCK does (R447, R471). -/
def Device.onTimebase (d : Device) (f : Device → Device) : Device := if d.clk.osc = Osc.STABLE then f d else d

end Sys2Proof.Machine
end

