-- ==== Sys2Proof/Machine/Clocks.lean ====
section
/-! DEFINITION. Zone clocks and loops (chapter 06): stop-switch-restart, ramps, the loss-of-lock policies, the
restarts after a hold, machine time, and the commands of the clock unit that touch nothing else. -/

namespace Sys2Proof.Machine

/-! ## Loops -/

/-- The state of die `die`'s slave loop. -/
def Device.slave (d : Device) (die : Nat) : Nat := Tab.get (fun _ => 0) d.clk.slaves die
/-- The device with a slave loop's state changed. -/
def Device.setSlave (d : Device) (die st : Nat) : Device :=
  { d with clk := { d.clk with slaves := Tab.set (fun _ => 0) d.clk.slaves die st } }
/-- Is the slave output of a die gated? -/
def Device.slaveGatedOn (d : Device) (die : Nat) : Bool := d.clk.slaveGated.contains die
/-- The device with a slave's output gated or not. -/
def Device.gateSlave (d : Device) (die : Nat) (g : Bool) : Device :=
  { d with clk := { d.clk with slaveGated :=
      if g then die :: d.clk.slaveGated.filter (· != die) else d.clk.slaveGated.filter (· != die) } }

/-- A service domain on the reference or on root ÷ 16 (R175, CK_SVC_REF). -/
def Device.setSvc (d : Device) (i : Nat) (onRef : Bool) : Device :=
  { d with clk := { d.clk with svcRef := putBit d.clk.svcRef i onRef } }
/-- The 16 P-die domains on the reference or on root ÷ 16. -/
def Device.setSvcP (d : Device) (onRef : Bool) : Device := d.each (List.range 16) (fun d i => d.setSvc i onRef)

/-- A zone's loop is locked: the root and its die's slave are LOCKED (R164). -/
def Device.loopLocked (d : Device) (n : Nat) : Bool :=
  d.clk.root == Loop.LOCKED && d.slave (zoneDie n) == Loop.LOCKED

/-- Does a root output run (LOCKED or in holdover)? -/
def Device.rootRuns (d : Device) : Bool := !d.clk.rootGated

/-- Does the P-die's service clock run: on the root, or on a stable reference (R145, R175)? -/
def Device.pSvc (d : Device) : Bool := !d.rst.por && (d.rootRuns || d.clk.osc == Osc.STABLE)

/-! ## Zone clocks -/

/-- Does the Lehr hold a zone (LHR_HELD)? -/
def Device.lehrHeld (d : Device) (n : Nat) : Bool :=
  let u := U.GTH (zoneDie n)
  if n % 64 < 32 then bit (d.get (F.LHR_HELD_LO_ZONES u)) (n % 64) else bit (d.get (F.LHR_HELD_HI_ZONES u)) (n % 64 - 32)

/-- ZN_CLK_STATUS.STATE of zone number `n`. -/
def Device.zcState (d : Device) (n : Nat) : Nat := d.get (F.ZN_CLK_STATUS_STATE (zoneUnit n))
/-- Set ZN_CLK_STATUS.STATE. -/
def Device.setZcState (d : Device) (n st : Nat) : Device := d.set (F.ZN_CLK_STATUS_STATE (zoneUnit n)) st
/-- Change a zone clock's own state. -/
def Device.modClk (d : Device) (n : Nat) (f : ZoneClock → ZoneClock) : Device :=
  d.modZone n (fun z => { z with clk := f z.clk })

/-- The first machine-time value at or after `m` that is an edge of divider `n` under epoch `e` (R171). -/
def alignedFrom (e n m : Nat) : Nat :=
  if m ≤ e then e - (e - m) / n * n else e + roundUp (m - e) n

/-- Machine time as the die of a zone counts it, by which the zone's edges are placed (R160). -/
def Device.zoneMt (d : Device) (n : Nat) : Nat := d.mtOf (zoneDie n)

/-- The next rising edge of a zone's clock, strictly after now: on the aligned grid where the zone is aligned;
else one period after its last edge or, on the reference, the next reference edge, whose phase is free (R171, R173). -/
def Device.nextEdge (d : Device) (n : Nat) : Nat :=
  let div := d.get (F.ZN_CLK_STATUS_DIV_NOW (zoneUnit n))
  let now := d.zoneMt n
  if div = 0 then now + 1 + Config.refPhase now % d.clk.mult
  else if d.on (F.ZN_CLK_STATUS_ALIGNED (zoneUnit n)) then alignedFrom d.clk.epoch div (now + 1)
  else now + 1 + ((d.zone n).clk.lastEdge + div - 1 - now % div) % div

/-- A thermal trip holds every zone clock: TRIP reads 1 with ACTION SAFE_HOLD (Table 26.11). -/
def Device.thermHold (d : Device) : Bool :=
  d.on F.MG_THERM_STATUS_TRIP && d.get F.MG_THERM_CFG_ACTION == 2

/-- Does the power state that stands past its commit point gate a zone's clock: DOZE those of PW_DOZE_MASK, NAP and SLUMBER
all (Table 18.1, R484)? -/
def Device.pwGates (d : Device) (n : Nat) : Bool :=
  let ph := d.get F.PW_STATUS_PHASE
  (ph == 3 || ph == 4 || ph == 5)
    && (d.pw.target == 2 || d.pw.target == 3
      || (d.pw.target == 1 && bit (d.get (F.PW_DOZE_MASK_ZONES (n / 32))) (n % 32)))

/-- A zone that would start while a thermal trip holds every clock stands held for it (R651), and one that would start in a
power state that gates it stands gated (R484). -/
def Device.startCatch (d : Device) (n : Nat) (ref : Bool) (div : Nat) : Device :=
  if d.thermHold then
    (d.modClk n (fun c => { c with held := some .therm, heldRef := ref, heldDiv := div })).setAll
      [(F.ZN_CLK_STATUS_STATE (zoneUnit n), Zc.HELD), (F.ZN_CLK_STATUS_ALIGNED (zoneUnit n), 0)]
  else if d.pwGates n then
    (d.modClk n (fun c => { c with heldRef := ref, heldDiv := div })).setZcState n Zc.GATED
  else d

/-- Run a zone on the root with divider `div`, aligned (R171), which ends what R136 and R501 left unaligned (R185); RIDING
where its loop is in holdover. -/
def Device.zoneOnRoot (d : Device) (n div edge : Nat) : Device :=
  let d := (d.modZone n (fun z => { z with noAlign := false })).modClk n
    (fun c => { c with held := none, backDiv := none, lastEdge := edge })
  (d.setAll [(F.ZN_CLK_STATUS_STATE (zoneUnit n), if d.loopLocked n then Zc.ROOT else Zc.RIDING),
    (F.ZN_CLK_STATUS_ALIGNED (zoneUnit n), 1), (F.ZN_CLK_STATUS_DIV_NOW (zoneUnit n), div)]).startCatch n false div

/-- Run a zone on the reference: not aligned (R173), DIV_NOW 0. -/
def Device.zoneOnRef (d : Device) (n : Nat) : Device :=
  let d := d.modClk n (fun c => { c with held := none })
  (d.setAll [(F.ZN_CLK_STATUS_STATE (zoneUnit n), Zc.REF), (F.ZN_CLK_STATUS_ALIGNED (zoneUnit n), 0),
    (F.ZN_CLK_STATUS_DIV_NOW (zoneUnit n), 0)]).startCatch n true 0

/-- Write ZN_CLK_GAP and ZN_CLK_LOST (R181; both saturate at their widths). -/
def Device.writeGap (d : Device) (n unit g lost : Nat) : Device :=
  d.setAll [(F.ZN_CLK_GAP_UNIT (zoneUnit n), unit), (F.ZN_CLK_GAP_GAP (zoneUnit n), min g 0xFFFF),
    (F.ZN_CLK_LOST_COUNT (zoneUnit n), min lost 0xFFFF)]

/-- Start a stop-switch-restart: the clock stops after its next edge t_s (R180). -/
def Device.startSwitch (d : Device) (n : Nat) (toRef : Bool) (div : Nat) (ending : SwitchEnd) : Device :=
  let ts := if (d.zone n).clk.held.isSome then (d.zone n).clk.lastEdge else d.nextEdge n
  let fromRef := decide (d.zcState n = Zc.REF)
  (d.modClk n (fun c => { c with ts := ts, toRef := toRef, toDiv := div, ending := ending, held := none,
                                 heldRef := fromRef })).setZcState n Zc.SWITCHING

/-- The gap G of a switch onto the reference, in reference cycles (R180, R181): 2 where no root runs; from
the reference 1; from the root the phase decides between 1 and 2 (R173: a free value). -/
def Device.refGap (d : Device) (n : Nat) : Nat :=
  if !d.rootRuns then 2
  else if (d.zone n).clk.heldRef then 1
  else 1 + b2n d.freeBool

/-- End a switch whose clock restarts now: the new source, ALIGNED, GAP and LOST (R180, R181). -/
def Device.endSwitch (d : Device) (n : Nat) : Device :=
  let c := (d.zone n).clk
  if c.toRef then
    let g := d.refGap n
    (d.tick.zoneOnRef n).writeGap n 1 g (g - 1)
  else
    let tr := alignedFrom d.clk.epoch c.toDiv (c.ts + 8)
    let g := tr - c.ts
    (d.zoneOnRoot n c.toDiv tr).writeGap n 0 g (roundUp g c.toDiv / c.toDiv - 1)

/-- What a zone clock that is stopped now has to go on with: a ramp that runs, or a switch. -/
def Device.interrupted (d : Device) (n : Nat) : ClockWait :=
  if d.zcState n = Zc.SWITCHING then .switch
  else if d.zcState n = Zc.RAMPING ∧ d.on (F.ZN_CLK_CTL_RAMP (zoneUnit n)) then .ramp
  else .none

/-- Hold a zone clock: it stops after its next edge with state kept. The hold remembers the source and the
divider to restart on, and what it interrupts (Table 06.4, R432, R651). -/
def Device.holdZone (d : Device) (n : Nat) (why : HoldCause) (ref : Bool) (div : Nat) : Device :=
  let e := d.nextEdge n
  let w := d.interrupted n
  (d.modClk n (fun c => { c with held := some why, heldRef := ref, heldDiv := div, lastEdge := e, wait := w })).setAll
    [(F.ZN_CLK_STATUS_STATE (zoneUnit n), Zc.HELD), (F.ZN_CLK_STATUS_ALIGNED (zoneUnit n), 0)]

/-- Table 06.3: why a GO or RAMP is refused, the first condition in table order. -/
def Device.clkRefusal (d : Device) (n : Nat) (go ramp ref : Bool) (div : Nat) : Option Reason :=
  if go && ramp then some .reservedValue
  else if d.zcState n = Zc.SWITCHING ∨ d.zcState n = Zc.RAMPING ∨ d.on (F.ZN_CLK_CTL_GO (zoneUnit n))
      ∨ d.on (F.ZN_CLK_CTL_RAMP (zoneUnit n)) then some .busy
  else if !ref && (decide (div < 4) || decide (4096 < div) || decide (15 * div < d.clk.mult)) then
    some .divRange
  else if (!ref || ramp) && !d.loopLocked n then some .loopUnlocked
  else if ramp && ref then some .reservedValue
  else none

/-- Start the switch or ramp that an accepted command asks for (R180, R182, R184). A zone that is not configured takes the
source and divider at its next release (R179). One that is gated, or held by anything but its policy, keeps the command
until its clock resumes (assumption log 124); a Lehr hold that came upon a policy hold is such a one too (R432), and one held
by its policy that a power state gates (R484) stands gated until the wake. -/
def Device.clkStart (d : Device) (n : Nat) (ramp ref : Bool) (div : Nat) : Device :=
  if !d.zoneActive n || d.zcState n == Zc.STOPPED then d.modClk n (fun c => { c with asked := some (ref, div) })
  else if d.zcState n = Zc.GATED ∨
      (d.zcState n = Zc.HELD ∧ ((d.zone n).clk.held ≠ some .policy ∨ d.lehrHeld n ∨ d.thermHold)) then
    (d.modClk n (fun c => { c with toRef := ref, toDiv := div, wait := .command })).set
      (if ramp then F.ZN_CLK_CTL_RAMP (zoneUnit n) else F.ZN_CLK_CTL_GO (zoneUnit n)) 1
  else if d.zcState n = Zc.HELD ∧ d.pwGates n then
    ((d.modClk n (fun c =>
      { c with toRef := ref, toDiv := div, wait := .command, held := none, heldRef := ref, heldDiv := div })).setZcState n
        Zc.GATED).set (if ramp then F.ZN_CLK_CTL_RAMP (zoneUnit n) else F.ZN_CLK_CTL_GO (zoneUnit n)) 1
  else if ramp then
    if d.zcState n = Zc.ROOT then
      if d.get (F.ZN_CLK_STATUS_DIV_NOW (zoneUnit n)) = div then d.raise Ev.RAMP_DONE (zoneUnit n) 0
      else
        let step := d.get (F.ZN_RAMP_STEP (zoneUnit n))
        let dwell := d.get (F.ZN_RAMP_DWELL (zoneUnit n))
        ((d.modClk n (fun c => { c with rampTo := div, rampStep := step, rampDwell := dwell, rampLeft := dwell })).setZcState n
          Zc.RAMPING).set (F.ZN_CLK_CTL_RAMP (zoneUnit n)) 1
    else (d.startSwitch n false div .rampDone).set (F.ZN_CLK_CTL_RAMP (zoneUnit n)) 1
  else (d.startSwitch n ref div .switchDone).set (F.ZN_CLK_CTL_GO (zoneUnit n)) 1

/-- A GO or RAMP command as written to ZN_CLK_CTL (R178): SRC and DIV are stored, the command is judged. -/
def Device.clkCommand (d : Device) (n : Nat) (go ramp ref : Bool) (div : Nat) : Device :=
  if d.refusalsFull (zoneDie n) then d
  else
    let d := d.setAll [(F.ZN_CLK_CTL_SRC (zoneUnit n), b2n ref), (F.ZN_CLK_CTL_DIV (zoneUnit n), div)]
    match d.clkRefusal n go ramp ref div with
    | some why => d.refuseAt (F.ZN_REFUSE_REASON (zoneUnit n)) why (F.ZN_CLK_CTL_GO (zoneUnit n))
    | none => d.clkStart n ramp ref div

/-- The event of a finished switch: RAMP_DONE for a ramp, else ZONE_CLK_SWITCH_DONE (R180, R183, R184). -/
def Device.switchDone (d : Device) (n : Nat) (ramp : Bool) : Device :=
  if ramp then (d.set (F.ZN_CLK_CTL_RAMP (zoneUnit n)) 0).raise Ev.RAMP_DONE (zoneUnit n) 0
  else (d.set (F.ZN_CLK_CTL_GO (zoneUnit n)) 0).raise Ev.ZONE_CLK_SWITCH_DONE (zoneUnit n) 0

/-! ## Loss of lock (R186 to R192) -/

/-- What a zone does when its policy acts, from the divider `div` it runs or would run on: `hold`, or fall
back to the reference, or ride. -/
def Device.actHold (d : Device) (n div : Nat) : Device :=
  (d.holdZone n .policy false div).set (F.ZN_CLK_STATUS_LOSS_SEEN (zoneUnit n)) 1

/-- Fall back onto the reference by a stop-switch-restart, keeping `div` for RETURN (Table 06.4, R190). A switch of a ramp
that it interrupts still ends as the ramp's (R183, R184; assumption log 125). -/
def Device.actFallback (d : Device) (n div : Nat) : Device :=
  let ending := if d.zcState n = Zc.SWITCHING then (d.zone n).clk.ending else .switchDone
  ((d.startSwitch n true 0 ending).modClk n (fun c => { c with backDiv := some div })).set
    (F.ZN_CLK_STATUS_LOSS_SEEN (zoneUnit n)) 1

/-- The policy in force: HOLD while the reference has failed (R187). -/
def Device.policyNow (d : Device) (n : Nat) : Nat :=
  if d.clk.osc ≠ Osc.STABLE then 1 else d.get (F.ZN_CLK_POLICY_POLICY (zoneUnit n))

/-- What a zone's policy does at a loss, from the divider `div` (R186): RIDE with the clock's state `ride` where it has one,
HOLD or FALLBACK. THEN and RETURN count as they stand now. -/
def Device.lossAct (d : Device) (n div : Nat) (ride : Option Nat) : Device :=
  let u := zoneUnit n
  let d := d.modClk n (fun c =>
    { c with thenBack := d.on (F.ZN_CLK_POLICY_THEN u), returns := d.on (F.ZN_CLK_POLICY_RETURN u) })
  if d.policyNow n = 0 then
    (match ride with
      | some st => d.setZcState n st
      | none => d).set (F.ZN_CLK_STATUS_LOSS_SEEN u) 1
  else if d.policyNow n = 1 then d.actHold n div
  else d.actFallback n div

/-- A zone's policy acts as its loop leaves LOCKED, for a zone that runs on the root or is switching or ramping towards it
(R186, R190). A loss in a ramp's own switch is one during a stop-switch-restart (assumption log 125). -/
def Device.zoneLoss (d : Device) (n : Nat) : Device :=
  let u := zoneUnit n
  let st := d.zcState n
  let now := d.get (F.ZN_CLK_STATUS_DIV_NOW u)
  if st = Zc.ROOT then d.lossAct n now (some Zc.RIDING)
  else if st = Zc.RAMPING then
    (d.setAll [(F.ZN_CLK_STATUS_RAMP_ABANDONED u, 1), (F.ZN_CLK_CTL_RAMP u, 0)]).lossAct n now (some Zc.RIDING)
  else if st = Zc.SWITCHING ∧ !(d.zone n).clk.toRef then d.lossAct n (d.zone n).clk.toDiv none
  else d

/-- What THEN does to a zone, from the divider `div` (R186, R187): FALLBACK while the reference is there and THEN says so,
else HOLD. -/
def Device.thenAct (d : Device) (n div : Nat) : Device :=
  if d.clk.osc = Osc.STABLE ∧ (d.zone n).clk.thenBack then d.actFallback n div else d.actHold n div

/-- THEN acts on a zone that rides, or that rode through the loss in a switch to the root: at RIDE_LIMIT, or at once when
the reference fails (Table 06.4, R187, R190). -/
def Device.rideEnds (d : Device) (n : Nat) : Device :=
  let c := (d.zone n).clk
  if d.zcState n = Zc.RIDING then d.thenAct n (d.get (F.ZN_CLK_STATUS_DIV_NOW (zoneUnit n)))
  else if d.zcState n = Zc.SWITCHING ∧ !c.toRef ∧ !d.loopLocked n then d.thenAct n c.toDiv
  else d

/-- A riding zone whose loop has relocked runs on, still aligned (Table 06.4). -/
def Device.rideRelock (d : Device) (n : Nat) : Device :=
  if d.zcState n = Zc.RIDING ∧ d.loopLocked n then d.setZcState n Zc.ROOT else d

/-- Restart a held or gated clock where it stopped: on the reference, or aligned on the root at the first
index at least 8 root cycles from now (Table 06.4, R433, R500, R652). A ramp that the hold interrupted goes on from the
divider it had reached, a switch is then done, and a GO or RAMP that waited starts (assumption logs 124, 137); `tell` as
ZONE_CLK_SWITCH_DONE announces the restart. -/
def Device.zoneResume (d : Device) (n : Nat) (ref : Bool) (div : Nat) (tell : Bool) : Device :=
  let c := (d.zone n).clk
  let ramp := d.on (F.ZN_CLK_CTL_RAMP (zoneUnit n))
  let d := d.modClk n (fun c => { c with wait := .none })
  let d := if ref then d.zoneOnRef n else d.zoneOnRoot n div (alignedFrom d.clk.epoch div (d.zoneMt n + 8))
  let d := if tell && c.wait != .switch then d.raise Ev.ZONE_CLK_SWITCH_DONE (zoneUnit n) 0 else d
  match c.wait with
  | .none => d
  | .ramp => if d.zcState n = Zc.ROOT then d.setZcState n Zc.RAMPING else d
  | .switch => d.switchDone n ramp
  | .command => d.startSwitch n c.toRef c.toDiv (if ramp then .rampDone else .switchDone)

/-- A zone is no longer held for what held it: it restarts, or goes on being held by the Lehr, by a thermal trip, until the
reference is back, until its loop relocks, or until the wake from a power state that gates it (Table 06.4, R432, R433, R484,
R651, R652). -/
def Device.unhold (d : Device) (n : Nat) (tell : Bool) : Device :=
  let c := (d.zone n).clk
  let hold (why : HoldCause) : Device := d.modClk n (fun c => { c with held := some why })
  if d.lehrHeld n then hold .lehr
  else if d.thermHold then hold .therm
  else if c.heldRef ∧ d.clk.osc ≠ Osc.STABLE then hold .reference
  else if !c.heldRef ∧ !d.loopLocked n then hold .policy
  else if d.pwGates n then (d.modClk n (fun c => { c with held := none })).setZcState n Zc.GATED
  else d.zoneResume n c.heldRef c.heldDiv tell

/-- A loop relocked, so a zone held by its policy restarts on the divider it stopped with, and a zone that
fell back with RETURN = 1 switches back (Table 06.4, R190). A zone that the Lehr has come to hold meanwhile, or that a
thermal trip holds, stays held for that (R432, R651). -/
def Device.policyRestart (d : Device) (n : Nat) : Device :=
  let c := (d.zone n).clk
  if !d.loopLocked n then d
  else if d.zcState n = Zc.HELD ∧ c.held = some .policy then d.unhold n true
  else if d.zcState n = Zc.REF ∧ c.returns then
    match c.backDiv with
    | some div => ((d.startSwitch n false div .switchDone).endSwitch n).switchDone n false
    | none => d
  else d

/-- The clock of a switching zone restarts (R180, R181, R183); on the reference only while that has edges (R155). -/
def Device.clkRestart (d : Device) (n : Nat) : Device :=
  if d.zcState n = Zc.SWITCHING && !((d.zone n).clk.toRef && d.clk.osc != Osc.STABLE) then
    (d.endSwitch n).switchDone n (decide ((d.zone n).clk.ending = .rampDone))
  else d

/-- A zone edge within a ramp: one cycle less to dwell (R182). -/
def Device.rampEdge (d : Device) (n : Nat) : Device :=
  if d.zcState n = Zc.RAMPING then d.modClk n (fun c => { c with rampLeft := c.rampLeft - 1 }) else d

/-- A ramp's dwell of DWELL zone cycles has ended (R182, R183): the divider moves by STEP, off the grid, and the next dwell
begins; or the final stop-switch-restart begins. -/
def Device.rampStep (d : Device) (n : Nat) : Device :=
  if d.zcState n = Zc.RAMPING ∧ (d.zone n).clk.rampLeft = 0 then
    let c := (d.zone n).clk
    let now := d.get (F.ZN_CLK_STATUS_DIV_NOW (zoneUnit n))
    let dist := if now ≤ c.rampTo then c.rampTo - now else now - c.rampTo
    if dist ≤ c.rampStep then d.startSwitch n false c.rampTo .rampDone
    else
      let e := d.nextEdge n
      (d.modClk n (fun c => { c with lastEdge := e, rampLeft := c.rampDwell })).setAll
        [(F.ZN_CLK_STATUS_DIV_NOW (zoneUnit n), if now ≤ c.rampTo then now + c.rampStep else now - c.rampStep),
         (F.ZN_CLK_STATUS_ALIGNED (zoneUnit n), 0)]
  else d

/-- Does a zone depend on the root: running on it, switching or ramping to it, or held waiting for it (R166)? -/
def Device.usesRoot (d : Device) (n : Nat) : Bool :=
  let st := d.zcState n
  let c := (d.zone n).clk
  st == Zc.ROOT || st == Zc.RAMPING || st == Zc.RIDING || (st == Zc.SWITCHING && !c.toRef)
    || ((st == Zc.HELD || st == Zc.GATED) && !c.heldRef)

/-! ## Machine time over one reference cycle (R160, R167, R168) -/

/-- What loop `k` (0 the root, else its die) makes of one reference cycle: its root cycles, and the remainder that it keeps,
in fiftieths of a cycle. MULT cycles; in holdover a free value within 2 % of them (R161 gives only the bound). -/
def Device.loopStep (d : Device) (k st : Nat) : Nat × Nat :=
  let left := Tab.get (fun _ => 0) d.clk.fracs k
  if st = Loop.HOLDOVER then
    let t := left + 49 * d.clk.mult + Config.freeNat (d.free + k) % (2 * d.clk.mult + 1)
    (t / 50, t % 50)
  else (d.clk.mult, left)

/-- Does machine time advance: it has started, and a root runs or the reference does (R167, R168)? -/
def Device.mtAdvances (d : Device) : Bool :=
  d.clk.mtStarted && (d.rootRuns || d.clk.osc == Osc.STABLE)

/-- Machine time after one reference cycle (R167, R168): the root's cycles; MULT where its output is gated; nothing where
the reference has failed as well. -/
def Device.mtNext (d : Device) : Nat :=
  if !d.mtAdvances then d.clk.mt
  else if d.clk.rootGated then d.clk.mt + d.clk.mult
  else d.clk.mt + (d.loopStep 0 d.clk.root).1

/-- A die's copy of machine time after one reference cycle (R160): the P-die's while its loop is LOCKED, never stepping
back; the cycles of its own holdover; else MULT per reference cycle. -/
def Device.copyNext (d : Device) (die : Nat) : Nat :=
  let old := Tab.get (fun _ => 0) d.clk.copies die
  if d.slave die = Loop.LOCKED then max old d.mtNext
  else if d.slave die = Loop.HOLDOVER then old + (d.loopStep die Loop.HOLDOVER).1
  else if d.clk.osc = Osc.STABLE then old + d.clk.mult
  else old

/-- One reference cycle, 25 ns, of machine time and of the dies' copies once they have started (R167); it counts while the
reference is STABLE. -/
def Device.refCycle (d : Device) : Device :=
  let d := { d with clk := { d.clk with refCycles := d.clk.refCycles + b2n (d.clk.osc == Osc.STABLE) } }
  if !d.clk.mtStarted then d
  else
    let copies := fabricDies.foldl (fun t k => Tab.set (fun _ => 0) t k (d.copyNext k)) d.clk.copies
    let fracs := fabricDies.foldl (fun t k => Tab.set (fun _ => 0) t k (d.loopStep k (d.slave k)).2)
      (Tab.set (fun _ => 0) d.clk.fracs 0 (d.loopStep 0 d.clk.root).2)
    { d with free := d.free + 5, clk := { d.clk with mt := d.mtNext, copies := copies, fracs := fracs } }

/-! ## Commands -/

/-- What a step does on an empty queue: one reference cycle passes (assumption log 1). -/
def idle (s : State) : Host.Outcome State Fault Refusal := .next (s.on Device.refCycle)

/-- ZN_CLK_GO (R178 to R180): a write of ZN_CLK_CTL with GO. -/
def execZnClkGo (z : ZoneId) (ref : Bool) (div : BitVec 13) (s : State) : Host.Outcome State Fault Refusal :=
  .next (s.on (fun d => d.clkCommand z.no true false ref div.toNat))

/-- ZN_CLK_RAMP (R178, R182, R184): a write of ZN_CLK_CTL with RAMP. -/
def execZnClkRamp (z : ZoneId) (ref : Bool) (div : BitVec 13) (s : State) :
    Host.Outcome State Fault Refusal :=
  .next (s.on (fun d => d.clkCommand z.no false true ref div.toNat))

/-- ZONE_CLK_RESTART (R180, R181, R183). -/
def execZoneClkRestart (z : ZoneId) (s : State) : Host.Outcome State Fault Refusal :=
  .next (s.on (fun d => d.clkRestart z.no))

/-- RAMP_DIVIDER_STEP (R182, R183). -/
def execRampDividerStep (z : ZoneId) (s : State) : Host.Outcome State Fault Refusal :=
  .next (s.on (fun d => d.rampStep z.no))

/-- RIDE_LIMIT_EXPIRE (R186): the limit counts from the loss of lock, so a zone still riding acts as THEN. -/
def execRideLimitExpire (z : ZoneId) (s : State) : Host.Outcome State Fault Refusal :=
  .next (s.on (fun d => d.rideEnds z.no))

/-- ZONE_POLICY_RESTART (R186, R402): a zone still swapping waits for its GRR. -/
def execZonePolicyRestart (z : ZoneId) (s : State) : Host.Outcome State Fault Refusal :=
  .next (s.on (fun d => d.policyRestart z.no))

/-- A RELOCK that is accepted (R166): service domains to the reference, the root gated and reacquiring at the
new MULT, CK_MT_PERIOD, MT_COARSE, every slave reacquiring, a new epoch due. -/
def Device.relock (d : Device) : Device :=
  let mult := d.get F.CK_ROOT_CFG_MULT
  let slaves := fabricDies.foldl (fun t k =>
    if Tab.get (fun _ => 0) t k = Loop.OFF then t else Tab.set (fun _ => 0) t k Loop.ACQUIRING) d.clk.slaves
  let clk := { d.clk with svcRef := 0xFFFFF, root := Loop.ACQUIRING, rootGated := true, slaves := slaves }
  let clk := { clk with slaveGated := fabricDies, mult := mult, epochDue := none, stepLoops := true }
  { d with clk := clk }.setAll [(F.CK_MT_PERIOD_PERIOD_FS, 25000000 / mult), (F.CK_STATUS_MT_COARSE, 1),
    (F.CK_CMD_RELOCK, 1)]

/-- CK_CMD.RELOCK, judged (R166). -/
def Device.relockCommand (d : Device) : Device :=
  if d.on F.CK_CMD_RELOCK || zoneNumbers.any (fun n => d.zoneActive n && d.usesRoot n) then
    d.refuseAt F.CK_REFUSE_REASON .busy F.CK_CMD_RELOCK
  else if d.clk.osc ≠ Osc.STABLE then d.refuseAt F.CK_REFUSE_REASON .noTimebase F.CK_CMD_RELOCK
  else d.relock

/-- CK_RELOCK (R166). -/
def execCkRelock (s : State) : Host.Outcome State Fault Refusal :=
  .next (s.on (fun d => d.onMck Device.relockCommand))

/-- CK_CMD.OSC_RESTART, judged (R156). -/
def Device.oscRestart (d : Device) : Device :=
  if d.clk.osc = Osc.FAILED then
    { d with clk := { d.clk with osc := Osc.STARTING } }.set F.CK_CMD_OSC_RESTART 1
  else d.refuseAt F.CK_REFUSE_REASON .busy F.CK_CMD_OSC_RESTART

/-- OSC_RESTART (R156): accepted only while the reference reads FAILED. -/
def execOscRestart (s : State) : Host.Outcome State Fault Refusal :=
  .next (s.on (fun d => d.onMck Device.oscRestart))

/-- A read of CK_MT_LO captures CK_MT_HI (R169). -/
def Device.mtLoRead (d : Device) : Device :=
  { d with clk := { d.clk with captMt := some (d.clk.mt / 2 ^ 32 % 2 ^ 32) } }

/-- CK_MT_LO_READ (R169). -/
def execCkMtLoRead (s : State) : Host.Outcome State Fault Refusal := .next (s.on Device.mtLoRead)

/-- The root cycles seen in 10 µs of reference time (R191): 400 × MULT when locked; within 2 % of it in
holdover (a free value: R161); 0 while the output is gated or the reference has failed. -/
def Device.rootMon (d : Device) : Nat :=
  if d.clk.rootGated || d.clk.osc != Osc.STABLE then 0
  else if d.clk.root = Loop.HOLDOVER then 392 * d.clk.mult + d.freeBelow (16 * d.clk.mult + 1)
  else 400 * d.clk.mult

/-- ROOT_MON_UPDATE (R191). -/
def execRootMonUpdate (s : State) : Host.Outcome State Fault Refusal :=
  .next (s.on (fun d => d.tick.set F.CK_ROOT_MON_COUNT d.rootMon))

end Sys2Proof.Machine
end

