-- ==== Sys2Proof/Machine/BlockMem.lean ====
section
/-! DEFINITION. Block memories and queue controllers (chapter 08), with the ECC test block of a zone
(chapter 11): rows, lanes and shapes, ECC reads and writes, the zone-logic ports and the queues. -/

namespace Sys2Proof

/-- A memory that the image does not use. -/
def MemCfg.unused : MemCfg :=
  { ecc := false, lent := false, shapeA := .s72, shapeB := .s72, modeA := .readFirst, modeB := .readFirst,
    outRegA := false, outRegB := false, queue := .none, fwft := false, cascade := 1, ae := 0, af := 0 }

/-- Lanes per word of a shape (Table 08.1). -/
def BmShape.lanes : BmShape → Nat
  | .s72 => 8 | .s36 => 4 | .s18 => 2 | .s9 => 1

/-- Words of a shape in one memory. -/
def BmShape.words (s : BmShape) : Nat := 512 * (8 / s.lanes)

/-- The shape of a memory's port; ECC mode uses 512 × 72 (R221). -/
def MemCfg.shape (c : MemCfg) (b : Bool) : BmShape := if c.ecc then .s72 else if b then c.shapeB else c.shapeA

/-- Port B belongs to zone logic: the memory is neither lent nor owned by a queue (R233, chapter 08). -/
def MemCfg.portBFree (c : MemCfg) : Bool := !c.lent && c.queue == .none

end Sys2Proof

namespace Sys2Proof.Machine

/-! ## Configuration -/

/-- The entry of a list of numbered things, or a default. -/
def lookupD {α : Type} (d : α) (k : Nat) : List (Nat × α) → α
  | [] => d
  | (a, v) :: r => if a = k then v else lookupD d k r

/-- How memory `m` of zone number `n` is configured by its active plane. -/
def Device.memCfg (d : Device) (n m : Nat) : MemCfg := lookupD .unused m (d.image n).mems

/-- The row of a word (R222). -/
def wordRow (s : BmShape) (w : Nat) : Nat := w / (8 / s.lanes) % 512
/-- The first lane of a word (R222). -/
def wordLane (s : BmShape) (w : Nat) : Nat := s.lanes * (w % (8 / s.lanes))

/-- A word of a row: `lanes` lanes from lane `l`. -/
def rowWord (row : Code72) (l lanes : Nat) : Nat := row.toNat / 2 ^ (9 * l) % 2 ^ (9 * lanes)

/-- A row with those lanes of a word stored whose enable bit is 1. -/
def rowStore (row : Code72) (l : Nat) : Nat → Nat → Nat → Code72
  | 0, _, _ => row
  | k + 1, data, en =>
    let row := if en % 2 = 1 then BitVec.ofNat 72 (putBits row.toNat (9 * l + 8) (9 * l) (data % 512)) else row
    rowStore row (l + 1) k (data / 512) (en / 2)

/-! ## The placement of a codeword in a row (R229) -/

/-- The data bytes of a row: lane j bits 7:0. -/
def rowData (row : Code72) : Nat :=
  (List.range 8).foldl (fun a j => a + row.toNat / 2 ^ (9 * j) % 256 * 2 ^ (8 * j)) 0

/-- The ninth bits of a row: lane j bit 8 is check bit c_j. -/
def rowCheck (row : Code72) : Nat :=
  (List.range 8).foldl (fun a j => a + row.toNat / 2 ^ (9 * j + 8) % 2 * 2 ^ j) 0

/-- The codeword in a row. -/
def rowToCw (row : Code72) : Code72 := cwOf (rowData row) (rowCheck row)

/-- The row that holds a codeword. -/
def cwToRow (w : Code72) : Code72 :=
  BitVec.ofNat 72 ((List.range 8).foldl
    (fun a j => a + (cwData w / 2 ^ (8 * j) % 256 + cwCheck w / 2 ^ j % 2 * 256) * 2 ^ (9 * j)) 0)

/-! ## The ECC test block (R334 to R339) -/

/-- The ECC test block of a zone or a pool group, by its unit: the key of ECC_SEL. -/
def eccBlock (u : Nat) : Nat := u * 4096 + (if u < 512 then 0x080 else 0x280)

/-- Is a store selected and its flip mask armed? -/
def Device.flipArmed (d : Device) (u sel : Nat) : Bool :=
  bits (d.rd (eccBlock u)) 5 0 == sel && bit (d.rd (eccBlock u + 0x1C)) 0

/-- Is a store selected and in raw mode? -/
def Device.rawMode (d : Device) (u sel : Nat) : Bool :=
  bits (d.rd (eccBlock u)) 5 0 == sel && bit (d.rd (eccBlock u + 4)) 0

/-- The flip mask: FLIP1:FLIP0 for the data, FLIP2.CHK for the check bits (R337). -/
def Device.flipMask (d : Device) (u : Nat) : Code72 :=
  cwOf (d.rd (eccBlock u + 0x10) + d.rd (eccBlock u + 0x14) * 2 ^ 32) (d.rd (eccBlock u + 0x18))

/-- The codeword that is stored, and the test block after it: an armed mask is applied once (R337). -/
def Device.flipApply (d : Device) (u sel : Nat) (w : Code72) : Device × Code72 :=
  if d.flipArmed u sel then (d.wr (eccBlock u + 0x1C) 2, w ^^^ d.flipMask u) else (d, w)

/-! ## Reads and writes of rows -/

/-- Which port reads (ZN_BM_ERR_LAST.PORT, Table 08.8). -/
abbrev portA : Nat := 0
abbrev portB : Nat := 1
abbrev portRing : Nat := 2
abbrev portQueue : Nat := 3

/-- The counts, events and records of an ECC-mode read (R232). -/
def Device.bmJudge (d : Device) (n m row port : Nat) : Judged → Device
  | .good => d
  | .corrected => (d.inc (F.ZN_BM_CORR_CNT_COUNT (zoneUnit n))).raise Ev.ECC_CORRECTED (zoneUnit n) 0
  | .uncorrectable =>
    let u := zoneUnit n
    let d := d.inc (F.ZN_BM_UNCORR_CNT_COUNT u)
    let d := d.setAll [(F.ZN_BM_ERR_LAST_VALID u, 1), (F.ZN_BM_ERR_LAST_MEM u, m),
      (F.ZN_BM_ERR_LAST_PORT u, port), (F.ZN_BM_ERR_LAST_ROW u, row)]
    let d := d.raise Ev.ECC_UNCORRECTABLE u 0
    d.record { d.mkRecord 0x09 u noPeer with addr := m * 512 + row }

/-- An ECC-mode read of a row: the data, its judgement, and what it counts. -/
def Device.bmEccRead (d : Device) (s : Stores) (n m row port : Nat) : Device × Nat × Judged :=
  let r := eccDecode (rowToCw (s.row (bmAddr n m row)))
  (d.bmJudge n m row port r.2, r.1, r.2)

/-- An ECC-mode write of a row, through the flip mask. -/
def Device.bmEccWrite (d : Device) (s : Stores) (n m row data : Nat) (poison : Bool) : Device × Stores :=
  let r := d.flipApply (zoneUnit n) m (eccStore data poison)
  (r.1, s.setRow (bmAddr n m row) (cwToRow r.2))

/-! ## Zone-logic ports (R223 to R231) -/

/-- The key of an output register: memory × 2 + port. -/
def portKey (m : Nat) (b : Bool) : Nat := m * 2 + b2n b

/-- A port's output register. -/
def Device.portOut (d : Device) (n m : Nat) (b : Bool) : PortOut :=
  Tab.get (fun _ => PortOut.zero) (d.zone n).ports (portKey m b)

/-- A new value for an output: at once, or through the output register (R223). -/
def PortOut.show (o : PortOut) (reg : Bool) (v : Nat × Bool × Bool) : PortOut :=
  if reg then
    match o.next with
    | some w => { val := w.1, corr := w.2.1, unc := w.2.2, next := some v, fresh := true }
    | none => { o with next := some v, fresh := true }
  else { val := v.1, corr := v.2.1, unc := v.2.2, next := none, fresh := false }

/-- The end of a zone edge: a value read at an earlier edge reaches the output register. -/
def PortOut.edge (o : PortOut) : PortOut :=
  if o.fresh then { o with fresh := false }
  else match o.next with
    | some w => { val := w.1, corr := w.2.1, unc := w.2.2, next := none, fresh := false }
    | none => o

/-- A new value for a port's output. -/
def Device.portShow (d : Device) (n m : Nat) (b reg : Bool) (v : Nat × Bool × Bool) : Device :=
  let o := (d.portOut n m b).show reg v
  d.modZone n (fun z => { z with ports := Tab.set (fun _ => PortOut.zero) z.ports (portKey m b) o })

/-- Memories and flip-flops may change from GWE (R146, R225). -/
def Device.writesOn (d : Device) (n : Nat) : Bool :=
  (d.zone n).stage == .gwe || (d.zone n).stage == .grr

/-- What a port's access shows on its output (R224, R230), read from the rows before the edge's writes. A write
that is ignored before GWE (R225) shows nothing new. -/
def Device.portAccessRead (d : Device) (old : Stores) (n m : Nat) (b : Bool) (a : BmAccess) : Device :=
  let c := d.memCfg n m
  let sh := c.shape b
  let row := wordRow sh a.addr.toNat
  let lane := wordLane sh a.addr.toNat
  let reg := c.ecc || (if b then c.outRegB else c.outRegA)
  let mode := if b then c.modeB else c.modeA
  let read (d : Device) : Device :=
    if c.ecc then
      let r := d.bmEccRead old n m row (if b then portB else portA)
      r.1.portShow n m b reg (r.2.1, decide (r.2.2 = .corrected), decide (r.2.2 = .uncorrectable))
    else d.portShow n m b reg (rowWord (old.row (bmAddr n m row)) lane sh.lanes, false, false)
  if !a.write then read d
  else if !d.writesOn n then d
  else match mode with
    | .readFirst => read d
    | .noChange => d
    | .writeFirst =>
      if c.ecc then d.portShow n m b reg (a.data.toNat % 2 ^ 64, false, a.poison)
      else
        let new := rowStore (old.row (bmAddr n m row)) lane sh.lanes a.data.toNat a.lanes.toNat
        d.portShow n m b reg (rowWord new lane sh.lanes, false, false)

/-- A port's write reaches the memory (R223, R225, R229, R231). -/
def Device.portAccessWrite (d : Device) (s : Stores) (n m : Nat) (b : Bool) (a : BmAccess) : Device × Stores :=
  if a.write && d.writesOn n then
    let c := d.memCfg n m
    let sh := c.shape b
    let row := wordRow sh a.addr.toNat
    if c.ecc then d.bmEccWrite s n m row (a.data.toNat % 2 ^ 64) a.poison
    else
      let new := rowStore (s.row (bmAddr n m row)) (wordLane sh a.addr.toNat) sh.lanes a.data.toNat a.lanes.toNat
      (d, s.setRow (bmAddr n m row) new)
  else (d, s)

/-- The bits of a row that an access would store, as a mask of lanes; all 8 in ECC mode. -/
def accessLanes (c : MemCfg) (b : Bool) (a : BmAccess) : Nat :=
  if c.ecc then 255
  else a.lanes.toNat % 2 ^ (c.shape b).lanes * 2 ^ wordLane (c.shape b) a.addr.toNat

/-- Two writes of one edge overlap (R227). -/
def Device.writesOverlap (d : Device) (n m : Nat) (a b : BmAccess) : Bool :=
  let c := d.memCfg n m
  a.write && b.write && d.writesOn n
    && wordRow (c.shape false) a.addr.toNat == wordRow (c.shape true) b.addr.toNat
    && decide (Nat.land (accessLanes c false a) (accessLanes c true b) ≠ 0)

/-- A write of a lent memory reaches its arbiter, from the ring or from port A (R228). It collides with the other's last
write where both reached the arbiter within one service-clock cycle; machine time tells that to a reference cycle and a
service-clock cycle, within which it is a free value. -/
def Device.arbiterWrite (d : Device) (n m : Nat) (ring : Bool) : Device :=
  let near := (d.zone n).arb.any (fun a => a.1 == m && a.2.1 != ring && decide (d.clk.mt < a.2.2 + d.clk.mult + 16))
  let hit := near && d.freeBool
  let keep := (d.zone n).arb.filter (fun a => !(a.1 == m && (a.2.1 == ring || hit)))
  let d := d.tick.modZone n (fun z => { z with arb := if hit then keep else keep ++ [(m, ring, d.clk.mt)] })
  if hit then d.inc (F.ZN_BM_COLL_CNT_COUNT (zoneUnit n)) else d

/-- The accesses of both zone-logic ports of a memory at one edge (R223 to R232, Table 08.2): both see the
rows before the edge. -/
def Device.bmEdge (d : Device) (s : Stores) (n m : Nat) (a b : Option BmAccess) : Device × Stores :=
  let c := d.memCfg n m
  let a := if c.queue = .none then a else none
  let b := if c.portBFree then b else none
  let d := match a, b with
    | some a, some b => if d.writesOverlap n m a b then d.inc (F.ZN_BM_COLL_CNT_COUNT (zoneUnit n)) else d
    | _, _ => d
  let d := match a with | some a => d.portAccessRead s n m false a | none => d
  let d := match b with | some b => d.portAccessRead s n m true b | none => d
  -- in ECC mode port A's write is first, so that an armed flip mask applies to it (R338), and a colliding write of port B
  -- is not stored; elsewhere port A's value stands where the two overlap
  let writeA (r : Device × Stores) := match a with | some a => r.1.portAccessWrite r.2 n m false a | none => r
  let writeB (r : Device × Stores) := match b with | some b => r.1.portAccessWrite r.2 n m true b | none => r
  let r := if c.ecc then
      match a, b with
      | some x, some y => if d.writesOverlap n m x y then writeA (d, s) else writeB (writeA (d, s))
      | _, _ => writeB (writeA (d, s))
    else writeA (writeB (d, s))
  if c.lent && (a.map (·.write)).getD false && d.writesOn n then (r.1.arbiterWrite n m false, r.2) else r

/-- Has a ramping zone run DWELL cycles on its divider, so that RAMP_DIVIDER_STEP comes before its next edge (R182)? -/
def Device.dwellOver (d : Device) (n : Nat) : Bool :=
  d.get (F.ZN_CLK_STATUS_STATE (zoneUnit n)) == 4 && (d.zone n).clk.rampLeft == 0 && (d.zone n).clk.rampDwell != 0

/-- Does a zone's clock run, so that it has edges? -/
def Device.zoneEdges (d : Device) (n : Nat) : Bool :=
  let st := d.get (F.ZN_CLK_STATUS_STATE (zoneUnit n))
  (st == 1 || st == 2 || st == 4 || st == 5) && d.zoneActive n && !d.dwellOver n

/-- BM_PORT_ACCESS (R223 to R232): the accesses of a memory's zone-logic ports at one zone edge. -/
def execBmPortAccess (z : ZoneId) (mem : Fin 48) (a b : Option BmAccess) (s : State) :
    Host.Outcome State Fault Refusal :=
  .next (s.onBoth (fun d m => if d.zoneEdges z.no then d.bmEdge m z.no mem.val a b else (d, m)))

end Sys2Proof.Machine
end

