-- ==== Sys2Proof/Machine/Crossbar.lean ====
section
/-! DEFINITION. Machine I/O pins and the crossbar (chapter 21): signals, claims and maps, conflicts, what each pin
drives, safe states, event inputs. Signal paths are unclocked, so levels are computed from the state. -/

namespace Sys2Proof.Machine

/-! ## Positions and cam outputs (R555, R572, R575) -/

/-- An encoder channel's own state. -/
def Device.encoder (d : Device) (k : Nat) : Encoder := Tab.get (fun _ => Encoder.idle) d.enc k
/-- The device with an encoder replaced. -/
def Device.setEncoder (d : Device) (k : Nat) (e : Encoder) : Device :=
  { d with enc := Tab.set (fun _ => Encoder.idle) d.enc k e }
/-- A cam engine's own state. -/
def Device.cam (d : Device) (e : Nat) : CamEngine := Tab.get (fun _ => CamEngine.idle) d.cams e
/-- The device with a cam engine's own state replaced. -/
def Device.setCam (d : Device) (e : Nat) (c : CamEngine) : Device :=
  { d with cams := Tab.set (fun _ => CamEngine.idle) d.cams e c }

/-- The signed difference a − b of two 48-bit positions, which wrap (R555). -/
def posDiff (a b : Nat) : Int := signed 48 (a % 2 ^ 48 + (2 ^ 48 - b % 2 ^ 48))
/-- A position moved by a signed number of counts. -/
def posAdd (a : Nat) (i : Int) : Nat := unsigned 48 (Int.ofNat a + i)

/-- The fields of a segment of 8 words (Table 22.3). -/
def segSpan (w : List Nat) : Nat := bits (w.getD 0 0) 63 40
@[inherit_doc segSpan] def segCommit (w : List Nat) : Nat := bits (w.getD 0 0) 39 16
@[inherit_doc segSpan] def segNext (w : List Nat) : Nat := bits (w.getD 0 0) 15 0
@[inherit_doc segSpan] def segRetract (w : List Nat) : Nat := bits (w.getD 1 0) 63 48
@[inherit_doc segSpan] def segOffset (w : List Nat) : Int := signed 48 (bits (w.getD 1 0) 47 0)
@[inherit_doc segSpan] def segTrig (w : List Nat) : Nat := bits (w.getD 2 0) 15 12
@[inherit_doc segSpan] def segMch (w : List Nat) : Nat := bits (w.getD 2 0) 10 8
/-- OUTn_ON. -/
def segOn (w : List Nat) (n : Nat) : Nat := bits (w.getD (2 + n) 0) 63 40
/-- OUTn_OFF. -/
def segOff (w : List Nat) (n : Nat) : Nat := bits (w.getD (2 + n) 0) 39 16

/-- The master position of engine `e` (R572). -/
def Device.camMaster (d : Device) (e : Nat) : Nat := (d.encoder (d.get (F.CAM_ENG_CTL_MASTER e))).pos
/-- The master's distance from the base of the running segment; the offset o is 0 while it is negative (R572). -/
def Device.camOffset (d : Device) (e : Nat) : Int := posDiff (d.camMaster e) (d.cam e).base
/-- STATE of an engine: 0 IDLE, 1 WAIT, 2 RUN, 3 RETRACT, 4 FAULT. -/
def Device.camState (d : Device) (e : Nat) : Nat := d.get (F.CAM_ENG_STATUS_STATE e)

/-- The OE of output `n` of engine `e` (R575, R580). -/
def Device.camOe (d : Device) (e n : Nat) : Bool :=
  d.camState e == 4 || (d.on (F.CAM_ENG_CTL_EN e) && bit (d.get F.CAM_OUT_EN_OUT) (2 * e + n))
/-- The value of output `n` of engine `e` (R573, R575, R580). -/
def Device.camData (d : Device) (e n : Nat) : Bool :=
  if d.camState e = 4 then bit (d.get (F.CAM_ENG_CTL_HOLD_OUT e)) n
  else if d.camState e = 2 ∨ d.camState e = 3 then
    let o := d.camOffset e
    let w := (d.cam e).seg
    decide (0 ≤ o) && decide (Int.ofNat (segOn w n) ≤ o) && decide (o < Int.ofNat (segOff w n))
  else false

/-! ## Signals (Table 21.1) -/

/-- The direction of a signal code: 0 reserved or NONE, 1 input, 2 output, 3 bidirectional. -/
def Device.sigDir (d : Device) (c : Nat) : Nat :=
  if c = 0 then 0
  else if c ≤ 0x18 then (if c % 3 = 1 then 3 else 1)
  else if c < 0x20 then 0
  else if c < 0x28 then 1
  else if c < 0x30 then 0
  else if c < 0x40 then 3
  else if c < 0x50 then 1
  else if c < 0x60 then 0
  else if c < 0x80 then 2
  else if c < 0xC0 then (if d.on (F.IOX_GEN_CFG_DIR (c - 0x80)) then 2 else 1)
  else 0

/-- The default value of an input signal. -/
def Device.sigDefault (d : Device) (c : Nat) : Bool :=
  if 0x30 ≤ c ∧ c < 0x40 then true
  else if 0x80 ≤ c ∧ c < 0xC0 then d.on (F.IOX_GEN_CFG_DEF_VAL (c - 0x80))
  else false

/-- The zone number that GENk joins (R537). -/
def Device.genZone (d : Device) (k : Nat) : Nat := k / 16 * 64 + d.get (F.IOX_GEN_CFG_ZONE k)

/-- Does an output GEN take its defaults (R538)? -/
def Device.genDefault (d : Device) (k : Nat) : Bool :=
  let n := d.genZone k
  d.fenced (k / 16 + 1) || d.dormant || d.rst.brownActive || d.rst.brownPending || !d.zoneActive n
    || decide ((d.zone n).stage = .none) || decide (d.get (F.ZN_RESET_STATUS_STEP (zoneUnit n)) ≠ 0)
    || d.lehrHeld n

/-! ## Groups, claims and routing (R535, R540 to R542) -/

/-- Is the group of a pin enabled? -/
def Device.groupOn (d : Device) (p : Nat) : Bool := d.on (F.IOX_GRP_CTL_EN (p / 8))
/-- Is the group of a pin in crossbar mode? -/
def Device.groupXbar (d : Device) (p : Nat) : Bool := d.on (F.IOX_GRP_CTL_MODE (p / 8))

/-- The claim of priority 1 to 4 on a pin (Table 21.2), 0 for none. -/
def Device.unitClaim (d : Device) (p : Nat) : Nat :=
  if p < 16 ∧ d.on (F.IDR_PORT_CFG_EN (p / 2)) then 0x30 + p
  else if 16 ≤ p ∧ p < 24 ∧ d.on (F.IDR_PORT_CFG_EN (p - 16)) then 0x30 + p
  else if 24 ≤ p ∧ p < 48 ∧ d.on (F.MFE_ENC_CFG_EN ((p - 24) / 3))
      ∧ (p % 3 ≠ 2 ∨ !d.on (F.MFE_ENC_CFG_MODE ((p - 24) / 3))) then p - 23
  else if 48 ≤ p ∧ p < 56 ∧ d.on (F.MFE_MK_CFG_EN (p - 48)) then p - 16
  else if 32 ≤ p ∧ bit (d.get F.CAM_OUT_EN_OUT) (p - 32) then 0x40 + p
  else 0

/-- The signal that a pin carries in claim mode, 0 for none (R540). -/
def Device.claimOf (d : Device) (p : Nat) : Nat :=
  let c := d.unitClaim p
  if c ≠ 0 then c else if d.on (F.IOX_GEN_CFG_EN p) then 0x80 + p else 0

/-- The claimed signal of a pin whose group is enabled and in claim mode. -/
def Device.pinClaim (d : Device) (p : Nat) : Nat := if d.groupOn p && !d.groupXbar p then d.claimOf p else 0

/-- The signal that a pin drives as an input, 0 for none. -/
def Device.pinInput (d : Device) (p : Nat) : Nat :=
  let c := if !d.groupOn p then 0 else if d.groupXbar p then d.get (F.IOX_PIN_MAP_IN p) else d.claimOf p
  if d.sigDir c % 2 = 1 then c else 0

/-- The signals that are a pin's sources, so far as they have an output side (R542, R548). -/
def Device.pinSources (d : Device) (p : Nat) : List Nat :=
  if !d.groupOn p then []
  else if d.groupXbar p then
    (([F.IOX_PIN_MAP_OUT_A p, F.IOX_PIN_MAP_OUT_B p].map d.get).filter (fun c => 2 ≤ d.sigDir c))
      ++ (if d.sigDir (d.get (F.IOX_PIN_MAP_IN p)) = 3 then [d.get (F.IOX_PIN_MAP_IN p)] else [])
  else if 2 ≤ d.sigDir (d.claimOf p) then [d.claimOf p] else []

/-- The data and OE of a source now (R536, R575, R557). The level of an SSI clock between and within frames is
its own (a free value). Identity ports release their lines between transactions. -/
def Device.sigOut (d : Device) (c : Nat) : Bool × Bool :=
  if c ≤ 0x18 then
    let k := (c - 1) / 3
    let oe := d.on (F.MFE_ENC_CFG_EN k) && d.on (F.MFE_ENC_CFG_MODE k)
    (oe && d.freeBool, oe)
  else if 0x60 ≤ c ∧ c < 0x80 then
    let oe := d.camOe ((c - 0x60) / 2) (c % 2)
    (oe && d.camData ((c - 0x60) / 2) (c % 2), oe)
  else if 0x80 ≤ c ∧ c < 0xC0 then
    let k := c - 0x80
    if !d.on (F.IOX_GEN_CFG_EN k) then (false, false)
    else if d.genDefault k then
      (d.on (F.IOX_GEN_CFG_DEF_OE k) && d.on (F.IOX_GEN_CFG_DEF_VAL k), d.on (F.IOX_GEN_CFG_DEF_OE k))
    else
      let z := d.zone (d.genZone k)
      (bit z.xbOe (k % 16) && bit z.xbOut (k % 16), bit z.xbOe (k % 16))
  else (false, false)

/-- PRED of a source (R549). -/
def Device.sigPred (d : Device) (c : Nat) : Bool :=
  decide (0x60 ≤ c) && decide (c < 0x80) && d.on (F.CAM_ENG_STATUS_PRED ((c - 0x60) / 2))

/-- Is a source of a pin held under R550? -/
def Device.gates (d : Device) (p c : Nat) : Bool := d.sigPred c && !d.on (F.IOX_PIN_CFG_ALLOW_PREDICT p)

/-- What a source contributes to a pin, after the prediction gate (R548, R550). -/
def Device.gatedOut (d : Device) (p c : Nat) : Bool × Bool :=
  if d.gates p c then
    let x := d.cam ((c - 0x60) / 2)
    let g := if c % 2 = 0 then x.gate0 else x.gate1
    (bit g 0, bit g 1)
  else d.sigOut c

/-! ## Pads (R44, R533, R548, R552) -/

/-- Is every machine I/O pin in its safe state for a reason of its own: MCK loss, FORCE_SAFE, a thermal trip? -/
def Device.allSafe (d : Device) : Bool :=
  d.on F.MG_MCK_STATUS_SAFE_ACTIVE || d.on F.IOX_CTL_FORCE_SAFE
    || (d.on F.MG_THERM_STATUS_TRIP && d.get F.MG_THERM_CFG_ACTION != 0)

/-- Does a pin take its safe state (R552)? -/
def Device.pinSafe (d : Device) (p : Nat) : Bool := decide (d.rst.phase = 1) || !d.groupOn p || d.allSafe

/-- Are a machine I/O pin's outputs disabled: phase A, or VMIO not good (R44, R128)? -/
def Device.mioOff (d : Device) : Bool := decide (d.rst.phase = 0) || d.board.rstLow || !d.board.vmio || !d.board.vccp

/-- What a pin drives: the level and whether it drives (R548, R552). -/
def Device.pinDrive (d : Device) (p : Nat) : Bool × Bool :=
  if d.mioOff then (false, false)
  else if d.pinSafe p then (bit d.orm.opt.mioVal p, bit d.orm.opt.mioOe p)
  else
    let src := (d.pinSources p).map (d.gatedOut p)
    let data := src.any (·.1)
    let oe := src.any (·.2)
    let c := d.pinClaim p
    if d.on (F.IOX_PIN_CFG_DRIVE p) || (decide (0x30 ≤ c) && decide (c < 0x40)) then (false, oe && !data)
    else (data, oe)

/-- The level of a pad: what the pin drives, else what the board puts there. Without a good VMIO the input path
is not active (R533), so the level is a free value. -/
def Device.padLevel (d : Device) (p : Nat) : Bool :=
  if !d.board.vmio then d.freeBool
  else if (d.pinDrive p).2 then (d.pinDrive p).1
  else bit d.board.mioPins p

/-- The pins that an input signal is routed from. -/
def Device.sigPins (d : Device) (c : Nat) : List Nat := (List.range 64).filter (fun p => d.pinInput p == c)

/-- The value of an input signal at its unit (R535, R547). -/
def Device.sigLevel (d : Device) (c : Nat) : Bool :=
  match d.sigPins c with
  | [p] => d.padLevel p
  | _ => d.sigDefault c

/-- The board drives the pad from which a signal is routed. -/
def Device.drivePad (d : Device) (c : Nat) (level : Bool) : Device :=
  match d.sigPins c with
  | [p] => { d with board := { d.board with mioPins := putBit d.board.mioPins p level } }
  | _ => d

/-! ## Conflicts (R547) -/

/-- A sorted list of numbers without repeats, with one more. -/
def insertNew (n : Nat) : List Nat → List Nat
  | [] => [n]
  | a :: r => if n < a then n :: a :: r else if n = a then a :: r else a :: insertNew n r

/-- The codes that occur more than once in a list, ascending. -/
def repeated : List Nat → List Nat
  | [] => []
  | c :: r => if c ≠ 0 ∧ r.contains c then insertNew c (repeated r) else repeated r

/-- The input signals that are routed from two or more pins. -/
def Device.conflicts (d : Device) : List Nat := repeated ((List.range 64).map d.pinInput)

/-- IOX_CONFLICT is raised for each conflict that begins. -/
def Device.ioxSettle (d : Device) : Device :=
  let now := d.conflicts
  let fresh := now.filter (fun c => !d.xbConf.contains c)
  ({ d with xbConf := now }).each fresh (fun d c => d.raise Ev.IOX_CONFLICT U.IOX c)

/-! ## Event inputs (R551) -/

/-- EVIk is sampled: a level that differs from the last sampled one is an edge. -/
def Device.eviSample (d : Device) (k : Nat) : Device :=
  let v := d.sigLevel (0x40 + k)
  if v = bit d.eviSeen k then d
  else
    let sel := bits (d.get F.IOX_EVI_CFG_EDGE) (2 * k + 1) (2 * k)
    let d := { d with eviSeen := putBit d.eviSeen k v }
    if bit sel (if v then 0 else 1) then d.raise Ev.MIO_EDGE U.IOX (k + 16 * b2n v) else d

/-! ## What the registers show (Table 21.5) -/

/-- IOX_PINn_STATE. -/
def Device.pinState (d : Device) (p : Nat) : Nat :=
  b2n (d.pinSafe p) * 2 ^ 31 + b2n (!d.pinSafe p && (d.pinSources p).any (d.gates p)) * 2 ^ 30
    + d.pinClaim p * 2 ^ 16 + b2n (d.pinDrive p).2 * 2 + b2n (d.padLevel p)

/-- A number with bit i of each of 32 pins from `lo`. -/
def pinBits (lo : Nat) (f : Nat → Bool) : Nat :=
  (List.range 32).foldl (fun a i => a + b2n (f (lo + i)) * 2 ^ i) 0

/-- XB_IN as the pins present it to a zone's port now (R537). -/
def Device.xbLevels (d : Device) (n : Nat) : Nat :=
  (List.range 16).foldl (fun a j =>
    let k := n / 64 * 16 + j
    if d.on (F.IOX_GEN_CFG_EN k) && !d.on (F.IOX_GEN_CFG_DIR k) && d.genZone k == n
      then a + b2n (d.sigLevel (0x80 + k)) * 2 ^ j else a) 0

end Sys2Proof.Machine
end

