-- ==== Sys2Proof/Machine/RingNet.lean ====
section
/-! DEFINITION. The ring network (chapter 09): packets and their headers, positions and routes, injection, hops,
bridge crossings, ejection, responses, and the isolation wrapper (chapter 10). -/

namespace Sys2Proof.Machine

/-! ## Headers (Table 09.4) -/

/-- The bits `hi:lo` of a packet's header. -/
def Packet.fld (p : Packet) (hi lo : Nat) : Nat := bits p.hdr.toNat hi lo
/-- Destination die. -/
def Packet.ddie (p : Packet) : Nat := p.fld 2 0
/-- Destination stop. -/
def Packet.dstop (p : Packet) : Nat := p.fld 9 3
/-- Source die. -/
def Packet.sdie (p : Packet) : Nat := p.fld 12 10
/-- Source stop. -/
def Packet.sstop (p : Packet) : Nat := p.fld 19 13
/-- CMD. -/
def Packet.cmd (p : Packet) : Nat := p.fld 25 21
/-- TAG. -/
def Packet.tag (p : Packet) : Nat := p.fld 35 26
/-- CLASS. -/
def Packet.cls (p : Packet) : Nat := p.fld 37 36
/-- LEN. -/
def Packet.len (p : Packet) : Nat := p.fld 42 38
/-- STATUS. -/
def Packet.status (p : Packet) : Nat := p.fld 46 44
/-- Byte enables. -/
def Packet.be (p : Packet) : Nat := p.fld 63 48
/-- The 48-bit ring address. -/
def Packet.addr (p : Packet) : Nat := p.fld 111 64
/-- The offset at the destination stop: ADDR[37:0]. -/
def Packet.off (p : Packet) : Nat := p.addr % 2 ^ 38
/-- HOPS. -/
def Packet.hops (p : Packet) : Nat := p.fld 119 112
/-- The key of the destination stop. -/
def Packet.dst (p : Packet) : Nat := stopKey p.ddie p.dstop
/-- The key of the source stop. -/
def Packet.src (p : Packet) : Nat := stopKey p.sdie p.sstop
/-- Is it a response (R267)? -/
def Packet.isResp (p : Packet) : Bool := decide (16 ≤ p.cmd)
/-- The packet's units: its header and data units (R259). -/
def Packet.units (p : Packet) : Nat := 1 + p.data.length

/-- CHECK over bits [111:0] of a header (R261). -/
def headerCheck (h : Nat) : Nat := crc8 (beBytes 14 (h % 2 ^ 112))

/-- A header from the bits below HOPS: HOPS 128 and CHECK (R260, R261). -/
def sealHeader (low : Nat) : Unit128 :=
  BitVec.ofNat 128 (low % 2 ^ 112 + 128 * 2 ^ 112 + headerCheck low * 2 ^ 120)

/-- A packet from its fields (R260 to R262). -/
def mkPacket (src dst : Nat) (ccw : Bool) (cmd tag cls len status be addr : Nat) (data : List DataUnit) :
    Packet :=
  { hdr := sealHeader (dst / 128 % 8 + dst % 128 * 2 ^ 3 + src / 128 % 8 * 2 ^ 10 + src % 128 * 2 ^ 13
      + b2n ccw * 2 ^ 20 + cmd % 32 * 2 ^ 21 + tag % 1024 * 2 ^ 26 + cls % 4 * 2 ^ 36 + len % 32 * 2 ^ 38
      + status % 8 * 2 ^ 44 + be % 65536 * 2 ^ 48 + addr % 2 ^ 48 * 2 ^ 64),
    data := data }

/-- Does a header pass: CHECK holds and HPOISON is 0 (R276)? -/
def Packet.sound (p : Packet) : Bool :=
  p.fld 127 120 == headerCheck p.hdr.toNat && p.fld 43 43 == 0

/-- The packet with a new HOPS, which CHECK does not cover. -/
def Packet.withHops (p : Packet) (h : Nat) : Packet :=
  { p with hdr := BitVec.ofNat 128 (putBits p.hdr.toNat 119 112 h) }

/-! ## Command and class codes (Tables 09.6, 09.8) -/

namespace Cmd
abbrev RD : Nat := 0x01
abbrev WR : Nat := 0x02
abbrev WRN : Nat := 0x03
abbrev AADD : Nat := 0x04
abbrev ASWP : Nat := 0x05
abbrev FENCE : Nat := 0x06
abbrev EVT : Nat := 0x08
abbrev CFG : Nat := 0x09
abbrev MSG : Nat := 0x0A
abbrev RDR : Nat := 0x10
abbrev WRR : Nat := 0x11
abbrev ATR : Nat := 0x12
abbrev FNR : Nat := 0x13
end Cmd

/-- A posted request: WR, MSG or EVT. -/
def cmdPosted (c : Nat) : Bool := c == Cmd.WR || c == Cmd.MSG || c == Cmd.EVT
/-- A request that Table 09.6 lists. -/
def cmdKnown (c : Nat) : Bool := [1, 2, 3, 4, 5, 6, 8, 9, 10].contains c
/-- The response that Table 09.6 gives for a request; a WRR for a reserved one (R267). -/
def respCmd (c : Nat) : Nat :=
  if c = Cmd.RD then Cmd.RDR else if c = Cmd.AADD ∨ c = Cmd.ASWP then Cmd.ATR else Cmd.WRR
/-- The commands that a class permits (Table 09.8). -/
def classPermits (cls c : Nat) : Bool :=
  if cls = 0 then [1, 2, 3, 4, 5].contains c
  else if cls = 1 then [1, 2, 3, 4, 5, 9].contains c
  else if cls = 2 then [1, 2, 10].contains c
  else [1, 2, 3, 8].contains c

/-- Does a request break a rule of R267? -/
def Packet.malformed (p : Packet) : Bool :=
  let c := p.cmd
  let carries := c == Cmd.WR || c == Cmd.WRN || c == Cmd.MSG || c == Cmd.CFG
  let atomic := c == Cmd.AADD || c == Cmd.ASWP
  !cmdKnown c || c == Cmd.FENCE
    || decide (p.len = 0) || decide (16 < p.len)
    || (c == Cmd.RD && decide (p.data.length ≠ 0))
    || (carries && decide (p.data.length ≠ p.len))
    || ((atomic || c == Cmd.EVT) && (decide (p.len ≠ 1) || decide (p.data.length ≠ 1)))
    || (c == Cmd.CFG && decide (p.len ≠ 10))
    || (decide (p.len ≠ 1) && decide (p.be ≠ 0xFFFF))
    || (atomic && decide (p.be ≠ 0x00FF) && decide (p.be ≠ 0xFF00))
    || decide (p.addr % 16 ≠ 0) || decide (256 < p.addr % 256 + 16 * p.len)
    || decide (p.addr / 2 ^ 45 ≠ p.ddie) || decide (p.addr / 2 ^ 38 % 128 ≠ p.dstop)
    || !classPermits p.cls c

/-- Does a response break a LEN, BE or ADDR rule (R267)? -/
def Packet.respMalformed (p : Packet) : Bool :=
  let c := p.cmd
  let want := if c = Cmd.WRR then 0 else if p.status ≠ 0 then 0 else if c = Cmd.ATR then 1 else p.len
  decide (p.len ≠ want) || decide (p.data.length ≠ p.len) || (c == Cmd.RDR && p.status == 0 && p.len == 0)
    || decide (16 < p.len) || (decide (p.len ≠ 1) && decide (p.be ≠ 0xFFFF)) || decide (p.addr % 16 ≠ 0)
    || (decide (1 < p.len) && decide (256 < p.addr % 256 + 16 * p.len))

/-! ## Positions and routes (R255, R272, R273) -/

/-- The number of positions of a ring: 0 the P-die ring, 1 to 4 the die rings, 5 the spine. -/
def ringSize (r : Nat) : Nat := if r = 0 then 20 else if r = 5 then 5 else 72

/-- The zone at a position of a die ring, which is its own inverse (R255). -/
def serpentine (z : Nat) : Nat := if z / 8 % 2 = 0 then z else 8 * (z / 8) + 7 - z % 8

/-- The stops of the P-die ring by position (Table 09.1). -/
def pRingStops : List Nat := [48, 0, 1, 6, 7, 16, 17, 18, 19, 20, 21, 22, 23, 24, 32, 33, 34, 35, 36, 37]

/-- The stop at a ring position, as a key (Table 09.1). -/
def stopAt (r pos : Nat) : Nat :=
  if r = 0 then (pRingStops[pos]?).getD 48
  else if r = 5 then 48 + pos
  else stopKey r (if pos < 64 then serpentine pos else if pos = 64 then 98 else if pos = 65 then 96 else pos - 2)

/-- The position of a stop of the P-die on its ring. -/
def pRingPos (stop : Nat) : List Nat → Nat → Nat
  | [], _ => 0
  | s :: r, i => if s = stop then i else pRingPos stop r (i + 1)

/-- The position of a stop on the die ring of a fabric die. -/
def dieRingPos (stop : Nat) : Nat :=
  if stop < 64 then serpentine stop else if stop = 98 then 64 else if stop = 96 then 65 else stop + 2

/-- Is the destination at this ring position? -/
def Packet.arrived (p : Packet) (r pos : Nat) : Bool := decide (p.dst = stopAt r pos)

/-- The position where a packet leaves ring `r`: its destination's, the bridge's, the bridge end's or the
hub's (R272). -/
def Packet.exitPos (p : Packet) (r : Nat) : Nat :=
  if r = 0 then (if p.ddie = 0 ∧ !(49 ≤ p.dstop ∧ p.dstop ≤ 52) then pRingPos p.dstop pRingStops 0 else 0)
  else if r = 5 then (if p.ddie = 0 then (if 49 ≤ p.dstop ∧ p.dstop ≤ 52 then p.dstop - 48 else 0) else p.ddie)
  else if p.ddie = r then dieRingPos p.dstop else 64

/-- Counter-clockwise where that takes fewer hops; a tie is clockwise (R272). -/
def goCcw (r src dst : Nat) : Bool :=
  decide ((src + ringSize r - dst) % ringSize r < (dst + ringSize r - src) % ringSize r)

/-- The ring and position where a stop injects a packet to die `ddie`: the hub and the bridge ends use the
spine for another die. -/
def sourceNode (key ddie : Nat) : Nat × Nat :=
  let die := key / 128
  let stop := key % 128
  if die ≠ 0 then (die, dieRingPos stop)
  else if 49 ≤ stop ∧ stop ≤ 52 then (5, stop - 48)
  else if stop = 48 ∧ ddie ≠ 0 then (5, 0)
  else (0, pRingPos stop pRingStops 0)

/-- The key of a node: ring, position, direction and lane. -/
def nodeKey (r pos : Nat) (ccw resp : Bool) : Nat := ((r * 128 + pos) * 2 + b2n ccw) * 2 + b2n resp

/-- The packets that wait at a node, oldest first. -/
def Device.node (d : Device) (k : Nat) : List Packet := Tab.get (fun _ => []) d.ring.nodes k
/-- The device with a node's packets replaced. -/
def Device.setNode (d : Device) (k : Nat) (l : List Packet) : Device :=
  { d with ring := { d.ring with nodes := Tab.set (fun _ => []) d.ring.nodes k l } }
/-- What a bridge end (`k` = d) or bridge stop (8 + d) has forwarded (R313). -/
def Device.fwd (d : Device) (k : Nat) : List Packet := Tab.get (fun _ => []) d.ring.fwd k
/-- Replace what has been forwarded. -/
def Device.setFwd (d : Device) (k : Nat) (l : List Packet) : Device :=
  { d with ring := { d.ring with fwd := Tab.set (fun _ => []) d.ring.fwd k l } }

/-- The unit whose counters a ring's stops use: DR of the die, or SPN. -/
def ringUnit (r : Nat) : Nat := if r = 0 ∨ r = 5 then U.SPN else U.DR r

/-- Is there an initiator port at a stop (chapter 09)? -/
def hasPort (key : Nat) : Bool :=
  isZoneKey key || [1, 6, 24, 35, 36].contains key || (decide (128 ≤ key) && key % 128 == 96)

/-! ## Discards and records (R267, R274, R276, R314) -/

/-- DR_ERR_LAST or SPN_ERR_LAST (Table 09.11). -/
def Device.errLast (d : Device) (r pos kind : Nat) (ccw : Bool) (p : Packet) : Device :=
  let u := ringUnit r
  d.setAll [(F.DR_ERR_LAST_VALID u, 1), (F.DR_ERR_LAST_KIND u, kind), (F.DR_ERR_LAST_RING u, b2n (r == 0)),
    (F.DR_ERR_LAST_DIR u, b2n ccw), (F.DR_ERR_LAST_POS u, pos), (F.DR_ERR_LAST_TAG u, p.tag)]

/-- A record that is filled from a header as received (R314). -/
def Device.headerRecord (d : Device) (kind unit : Nat) (p : Packet) : Device :=
  d.record { d.mkRecord kind unit (stopUnit p.src) with tag := p.tag, cls := p.cls, addr := p.addr, addrValid := true }

/-- A header that fails CHECK or carries HPOISON: the packet is discarded whole (R276). -/
def Device.headerDiscard (d : Device) (r pos : Nat) (ccw : Bool) (p : Packet) : Device :=
  let u := stopUnit (stopAt r pos)
  let d := (d.inc (F.DR_HDR_ERR_CNT_COUNT (ringUnit r))).errLast r pos (p.fld 43 43) ccw p
  (d.raise Ev.HEADER_CHECK_FAIL u 0).headerRecord 0x06 u p

/-- A packet whose HOPS ran out: removed without a response (R274). -/
def Device.hopExpired (d : Device) (r pos : Nat) (ccw : Bool) (p : Packet) : Device :=
  let u := stopUnit (stopAt r pos)
  let d := (d.inc (F.DR_HOP_EXP_CNT_COUNT (ringUnit r))).errLast r pos 2 ccw p
  (d.raise Ev.HEADER_CHECK_FAIL u 0).headerRecord 0x07 u p

/-- The ring and position of a stop, for its records. -/
def stopNode (key : Nat) : Nat × Nat := sourceNode key 0

/-- A malformed packet is counted and recorded (R267). -/
def Device.malformedCount (d : Device) (key : Nat) (p : Packet) : Device :=
  let n := stopNode key
  let d := (d.inc (F.DR_MALFORMED_CNT_COUNT (ringUnit n.1))).errLast n.1 n.2 3 (p.fld 20 20 == 1) p
  d.headerRecord 0x08 (stopUnit key) p

/-! ## Ejection and injection (R262, R277, R302, R303) -/

/-- A response arrives at its stop: taken in, or discarded where no port is or the CMD is no response (R267). -/
def Device.ejectResp (d : Device) (p : Packet) : Device :=
  if !hasPort p.dst || !(p.cmd == Cmd.RDR || p.cmd == Cmd.WRR || p.cmd == Cmd.ATR) then
    d.malformedCount p.dst p
  else d.setInit p.dst { d.init p.dst with rx := (d.init p.dst).rx ++ [p] }

/-- The response packet to a request that stop `key` gives from its place on ring `r` (R260, R262): DIR of the segment it
is injected on, the request's TAG, ADDR and CLASS, the data units if STATUS is 0. -/
def Packet.respondFrom (p : Packet) (key r pos status : Nat) (data : List DataUnit) : Packet :=
  let data := if status = 0 then data else []
  let ccw := goCcw r pos ((mkPacket key p.src false 0 0 0 0 0 0 0 []).exitPos r)
  mkPacket key p.src ccw (respCmd p.cmd) p.tag p.cls data.length status
    (if data.length = 1 then p.be else 0xFFFF) p.addr data

/-- The response packet to a request by its destination. -/
def Packet.respond (p : Packet) (status : Nat) (data : List DataUnit) : Packet :=
  p.respondFrom p.dst (sourceNode p.dst p.sdie).1 (sourceNode p.dst p.sdie).2 status data

/-- Put a packet on the ring at its source stop; one to its own stop arrives at once. -/
def Device.inject (d : Device) (p : Packet) : Device :=
  let node := sourceNode p.src p.ddie
  if p.isResp && decide (p.src = p.dst) then d.ejectResp p
  else
    let k := nodeKey node.1 node.2 (p.fld 20 20 == 1) p.isResp
    d.setNode k (d.node k ++ [p])

/-- A target stop answers a request (R266, R281). An EVT has no response. -/
def Device.respond (d : Device) (p : Packet) (status : Nat) (data : List DataUnit) : Device :=
  if p.cmd = Cmd.EVT then d else d.inject (p.respond status data)

/-- Does the isolation wrapper cover this request: every offset but the register window, unless the die is
fenced (R299)? An EVT at an isolated stop is dropped (R303, R513). -/
def covered (cause : Nat) (p : Packet) : Bool :=
  decide (cause = 3) || decide (0x1000 ≤ p.off) || p.cmd == Cmd.EVT

/-- The wrapper answers a request: posted ones are dropped and counted (R302, R303). -/
def Device.isoAnswer (d : Device) (key : Nat) (p : Packet) : Device :=
  let t := d.target key
  let d := if cmdPosted p.cmd then d.setTarget key { t with drops := t.drops + 1 } else d
  d.respond p 3 []

/-- A request arrives at its stop: answered by the wrapper where isolated; else taken into the input buffer
if it has room (R277). `false` where it must wait, stalling its lane. -/
def Device.ejectReq (d : Device) (ccw : Bool) (p : Packet) : Device × Bool :=
  let t := d.target p.dst
  if t.iso ≠ 0 ∧ covered t.iso p then (d.isoAnswer p.dst p, true)
  else if t.inq.length < 4 then (d.setTarget p.dst { t with inq := t.inq ++ [(ccw, p)], fillCcw := ccw }, true)
  else (d, false)

/-- A packet that has reached its destination leaves the ring; `false` where it must wait. -/
def Device.eject (d : Device) (ccw : Bool) (p : Packet) : Device × Bool :=
  if p.isResp then (d.ejectResp p, true) else d.ejectReq ccw p

/-- The packet at the head of a node leaves it, if it has arrived and the target has room (R277). -/
def Device.drainOne (d : Device) (r pos : Nat) (ccw resp : Bool) : Option Device :=
  match d.node (nodeKey r pos ccw resp) with
  | [] => none
  | p :: rest =>
    if p.arrived r pos then
      let e := d.eject ccw p
      if e.2 then some (e.1.setNode (nodeKey r pos ccw resp) rest) else none
    else none

/-- The packets at the head of a node that have arrived leave it, while the target has room (R277). -/
def Device.drainNode : Nat → Device → Nat → Nat → Bool → Bool → Device
  | 0, d, _, _, _, _ => d
  | f + 1, d, r, pos, ccw, resp =>
    match d.drainOne r pos ccw resp with
    | some e => Device.drainNode f e r pos ccw resp
    | none => d

/-- The request lanes that a target stalls at a ring position give it their requests, the two directions in turn where
both present one (R277, R279). -/
def Device.fill : Nat → Device → Nat → Nat → Nat → Device
  | 0, d, _, _, _ => d
  | f + 1, d, key, r, pos =>
    let c := !(d.target key).fillCcw
    match d.drainOne r pos c false with
    | some e => Device.fill f e key r pos
    | none =>
      match d.drainOne r pos (!c) false with
      | some e => Device.fill f e key r pos
      | none => d

/-- After a target took a request, the lanes that it stalled move on (R277). The hub is on two rings. -/
def Device.unstall (d : Device) (key : Nat) : Device :=
  let n := stopNode key
  let d := d.fill 8 key n.1 n.2
  if key = 48 then d.fill 8 key 5 0 else d

/-! ## The order of a target (R281, R282, R267) -/

/-- Do the bytes of two transfers overlap? -/
def Packet.overlaps (p q : Packet) : Bool :=
  decide (p.addr < q.addr + 16 * q.len) && decide (q.addr < p.addr + 16 * p.len)
    && (if p.len = 1 ∧ q.len = 1 then decide (Nat.land p.be q.be ≠ 0)
        else (p.len != 1 || p.be != 0) && (q.len != 1 || q.be != 0))

/-- Is it an atomic? -/
def Packet.atomic (p : Packet) : Bool := p.cmd == Cmd.AADD || p.cmd == Cmd.ASWP

/-- Must `p` wait for `e`, which the stop took before it: an earlier request of its class in classes 0 and 3 (R281), or an
earlier write of the same initiator and class to bytes that it reads or writes (R282)? -/
def Packet.after (p e : Packet) : Bool :=
  (e.cls == p.cls && (p.cls == 0 || p.cls == 3))
    || (e.cmd != Cmd.RD && e.cls == p.cls && e.src == p.src && p.overlaps e)

/-- Is a request one that no block performs: a reserved CMD or a FENCE (R267)? -/
def Packet.odd (p : Packet) : Bool := !cmdKnown p.cmd || p.cmd == Cmd.FENCE

/-- Does a request wait for its answer's turn alone: no block performs it, or its bank has performed it? -/
def TargetState.finished (t : TargetState) (p : Packet) : Bool := p.odd || t.performed.any (fun x => x.req == p)

/-- The first of a stop's taken requests that only waited for its turn, and that nothing before it holds back now. -/
def TargetState.dueAt (t : TargetState) : List Packet → List Packet → Nat → Option Nat
  | _, [], _ => none
  | before, p :: r, k =>
    if t.finished p && !before.any p.after then some k else t.dueAt (before ++ [p]) r (k + 1)

/-- A stop answers what only waits for its turn: what no block performs with status 6 (R267), what its bank has performed
with what that gave (R281). -/
def Device.answerDue : Nat → Device → Nat → Device
  | 0, d, _ => d
  | f + 1, d, key =>
    let t := d.target key
    match t.dueAt [] t.taken 0 with
    | none => d
    | some k =>
      match t.taken[k]? with
      | none => d
      | some p =>
        let e := d.setTarget key
          { t with taken := t.taken.eraseIdx k, performed := t.performed.filter (fun x => x.req != p) }
        Device.answerDue f
          (match t.performed.find? (fun x => x.req == p) with
          | some x => e.respond p x.status x.data
          | none => (e.malformedCount key p).respond p 6 []) key

/-- Answer all that only waits for its turn. -/
def Device.settleTurn (d : Device) (key : Nat) : Device := d.answerDue (d.target key).taken.length key

/-! ## Isolation (R299 to R305, R659) -/

/-- Does a taken request stay with its block when the stop is isolated: one that the wrapper does not cover, and a posted
one that the block has taken, unless the block is lost with it (a reset or swapped zone, a fenced die)? -/
def staysTaken (cause : Nat) (p : Packet) : Bool := !covered cause p || (decide (cause = 4) && cmdPosted p.cmd)

/-- What the wrapper does with a request that the block has taken and loses: a non-posted one has status 3; a posted one
was accepted, which is what its WRR says (R266, R302). -/
def Device.isoForwarded (d : Device) (p : Packet) : Device := d.respond p (if cmdPosted p.cmd then 0 else 3) []

/-- Isolate a stop for a cause: what the block has taken and not answered, then what waits in the stop's buffer, is
answered with status 3 in arrival order (R302 to R304). -/
def Device.isolate (d : Device) (key cause : Nat) : Device :=
  let t := d.target key
  let stays := fun p => !(covered cause p)
  let d := d.setTarget key
    { t with
      iso := cause, taken := t.taken.filter (staysTaken cause), inq := t.inq.filter (fun e => stays e.2),
      parts := t.parts.filter (fun x => staysTaken cause x.req),
      performed := t.performed.filter (fun x => staysTaken cause x.req) }
  let d := (t.taken.filter (fun p => !staysTaken cause p)).foldl Device.isoForwarded d
  let d := ((t.inq.map (·.2)).filter (covered cause)).foldl (fun d p => d.isoAnswer key p) d
  let u := stopUnit key
  let d := d.raise Ev.TARGET_ISOLATED u 0
  ((d.record { d.mkRecord 0x04 u noPeer with status := cause }).settleTurn key).unstall key

/-- Release a stop: RELEASED with the episode's drops, which return to 0 (R304). -/
def Device.isoRelease (d : Device) (key : Nat) : Device :=
  let t := d.target key
  let d := d.record { d.mkRecord 0x05 (stopUnit key) noPeer with addr := t.drops }
  d.setTarget key { t with iso := 0, drops := 0, drain := false }

/-- The stops of a die by number (Table 09.1). -/
def dieStops (die : Nat) : List Nat := (List.range 70 ++ [96, 98]).map (stopKey die)

/-! ## Hops and bridges (R273 to R276, R313, R657) -/

/-- Is the bridge to die `d` open: UP or DEGRADED, the die not fenced, not held by a fabric reset? -/
def Device.bridgeOpen (d : Device) (die : Nat) : Bool :=
  (d.get (F.BR_STATUS_STATE (U.BR die)) == Br.UP || d.get (F.BR_STATUS_STATE (U.BR die)) == Br.DEGRADED)
    && !d.fenced die && !d.rst.brdFence.contains die

/-- Count units that pass position 64 of a die ring, or the hub (Table 09.10). -/
def Device.countPass (d : Device) (r pos units : Nat) (ccw : Bool) : Device :=
  let add (d : Device) (f : Field) : Device := d.set f (d.get f + units)
  if r = 0 then
    if pos = 0 then add d (if ccw then F.SPN_UNITS_PCCW_COUNT else F.SPN_UNITS_PCW_COUNT) else d
  else if (r = 5 ∧ pos = 0) ∨ (r ≠ 5 ∧ pos = 64) then
    add d (if ccw then F.DR_UNITS_CCW_COUNT (ringUnit r) else F.DR_UNITS_CW_COUNT (ringUnit r))
  else d

/-- Where a packet at (ring, position, direction) goes next: along the ring, over a bridge, or between the
spine and the P-die ring (R273). -/
def Packet.next (p : Packet) (r pos : Nat) (ccw : Bool) : Nat × Nat × Bool :=
  if pos ≠ p.exitPos r then
    (r, (if ccw then pos + ringSize r - 1 else pos + 1) % ringSize r, ccw)
  else
    let r' := if r = 0 then 5 else if r = 5 then (if pos = 0 then 0 else pos) else 5
    let pos' := if r = 0 then 0 else if r = 5 then (if pos = 0 then 0 else 64) else r
    (r', pos', goCcw r' pos' (p.exitPos r'))

/-- The die whose bridge this hop crosses, and whether towards the die; none for another hop, and for a packet that has
reached its destination. -/
def Packet.crossing (p : Packet) (r pos : Nat) : Option (Nat × Bool) :=
  if pos ≠ p.exitPos r ∨ p.arrived r pos then none
  else if r = 0 then none
  else if r = 5 then (if pos = 0 then none else some (pos, true))
  else some (r, false)

/-- The path that a packet takes across a bridge (R657). -/
def Packet.path (p : Packet) (r pos : Nat) (ccw : Bool) : Nat :=
  let n := p.next r pos ccw
  (if r = 5 then 0 else 1) + 2 * b2n n.2.2

/-- Keep the list of forwarded requests as a packet crosses the bridge of `die` (R313). -/
def Device.noteCross (d : Device) (die : Nat) (toDie : Bool) (p : Packet) : Device :=
  let mine := if toDie then die else 8 + die
  let other := if toDie then 8 + die else die
  if p.isResp then
    d.setFwd other ((d.fwd other).filter (fun q => !(decide (q.src = p.dst) && decide (q.tag = p.tag))))
  else if cmdPosted p.cmd then d else d.setFwd mine (d.fwd mine ++ [p])

/-- A packet is taken in at its next stop (R274, R276): discarded, ejected, removed, or placed at the node. -/
def Device.takeIn (d : Device) (r pos : Nat) (ccw : Bool) (p : Packet) : Device :=
  if !p.sound then d.headerDiscard r pos ccw p
  else
    let k := nodeKey r pos ccw p.isResp
    if p.arrived r pos then
      if (d.node k).isEmpty then
        let e := d.eject ccw p
        if e.2 then e.1 else d.setNode k [p]
      else d.setNode k (d.node k ++ [p])
    else if p.hops = 0 then d.hopExpired r pos ccw p
    else d.setNode k (d.node k ++ [p])

/-- Does a bridge end answer in place of its die: the die is fenced, or held by a brown-out or by DORMANT until it is
released again (R118, R143, R486)? -/
def Device.cutOff (d : Device) (die : Nat) : Bool := d.fenced die || d.rst.brdFence.contains die

/-- A bridge end or bridge stop answers a request itself with status 3, from its place on its ring (R143, R262, R313). -/
def Device.answerHere (d : Device) (r pos : Nat) (p : Packet) : Device :=
  if p.cmd = Cmd.EVT then d
  else
    let q := p.respondFrom (stopAt r pos) r pos 3 []
    let k := nodeKey r pos (goCcw r pos (q.exitPos r)) true
    d.setNode k (d.node k ++ [q])

/-- A packet meets the bridge of a die that is cut off: to the die, the bridge end answers with status 3; from it, it
is discarded (R143, R313). -/
def Device.fencedCross (d : Device) (die : Nat) (toDie : Bool) (p : Packet) : Device :=
  if toDie && !p.isResp then d.answerHere 5 die p else d

/-- A die is cut off: the bridge end and the bridge stop answer what they have forwarded and not seen answered, in the
order forwarded (R313). -/
def Device.answerForwarded (d : Device) (die : Nat) : Device :=
  let d := (d.fwd die).foldl (fun d p => d.answerHere 5 die p) d
  let d := (d.fwd (8 + die)).foldl (fun d p => d.answerHere die 64 p) d
  (d.setFwd die []).setFwd (8 + die) []

/-- One hop of the packet at the head of a node; `flip` is what an upset changes in its header on the way. A
packet that has arrived tries its target again; one before a bridge that is not open waits. -/
def Device.hop (d : Device) (r pos : Nat) (ccw resp : Bool) (flip : Unit128) (hurt : Packet → Packet) : Device :=
  let k := nodeKey r pos ccw resp
  match d.node k with
  | [] => d
  | p :: rest =>
    if p.arrived r pos then d.drainNode 1 r pos ccw resp
    else
      let n := p.next r pos ccw
      let go (d : Device) : Device :=
        d.takeIn n.1 n.2.1 n.2.2 (hurt { p.withHops (p.hops - 1) with hdr := (p.withHops (p.hops - 1)).hdr ^^^ flip })
      match p.crossing r pos with
      | none =>
        let d := d.setNode k rest
        go (if n.1 = r then d.countPass r pos p.units ccw else d)
      | some (die, toDie) =>
        if d.cutOff die then (d.setNode k rest).fencedCross die toDie p
        else if d.bridgeOpen die then go ((d.setNode k rest).noteCross die toDie p)
        else d

/-- RING_HOP (R273 to R277). -/
def execRingHop (node : RingNode) (flip : Unit128) (s : State) : Host.Outcome State Fault Refusal :=
  .next (s.on (fun d => d.hop node.ring.val node.pos.val node.ccw node.resp flip id))

/-! ## The target side (R277, R279, R301, R305) -/

/-- The request that a stop takes next: the sides alternate when both present one (R279). -/
def TargetState.nextReq (t : TargetState) : Option (Bool × Packet) :=
  match t.inq.find? (fun e => e.1 != t.lastCcw) with
  | some e => some e
  | none => t.inq.head?

/-- Remove the first entry that equals `x`. -/
def dropFirst (x : Bool × Packet) : List (Bool × Packet) → List (Bool × Packet)
  | [] => []
  | e :: r => if e = x then r else e :: dropFirst x r

/-- Does a stop's block take a request now: a zone's user target port needs a running clock, a released zone
and no drain (R307, R400); a register write waits while the die's refusal queue is full (R632)? -/
def Device.takes (d : Device) (key : Nat) (p : Packet) : Bool :=
  if isZoneKey key && decide (2 ^ 32 ≤ p.off) && p.cmd != Cmd.EVT then
    let st := d.get (F.ZN_CLK_STATUS_STATE (zoneUnit (keyZone key)))
    !(d.target key).drain && decide ((d.zone (keyZone key)).stage = .grr)
      && (st == 1 || st == 2 || st == 4 || st == 5)
  else if decide (128 ≤ key) && (p.cmd == Cmd.WR || p.cmd == Cmd.WRN) && decide (p.off < 0x1000000) then
    !d.refusalsFull (key / 128)
  else true

/-- The first request of a stop's buffer that its block takes now, past ones that it does not: an EVT, which has no
answer, or one that need not wait for an earlier one (R281, R282, R307, R513). -/
def Device.passer (d : Device) (key : Nat) : List Packet → List (Bool × Packet) → Option (Bool × Packet)
  | _, [] => none
  | before, e :: r =>
    if d.takes key e.2 && (e.2.cmd == Cmd.EVT || !before.any e.2.after) then some e
    else d.passer key (before ++ [e.2]) r

/-- The request that the block of a stop takes next. -/
def Device.nextTaken (d : Device) (key : Nat) : Option (Bool × Packet) :=
  let t := d.target key
  match t.nextReq with
  | none => none
  | some e => if d.takes key e.2 then some e else d.passer key [] t.inq

/-- TARGET_TAKE: the stop takes its next request; what no block performs is answered in its turn (R267). -/
def Device.targetTake (d : Device) (key : Nat) : Device :=
  let t := d.target key
  match d.nextTaken key with
  | none => d
  | some e =>
    ((d.setTarget key { t with inq := dropFirst e t.inq, lastCcw := e.1, taken := t.taken ++ [e.2] }).settleTurn key).unstall
      key

/-- TARGET_TAKE (R277, R279). -/
def execTargetTake (t : StopId) (s : State) : Host.Outcome State Fault Refusal :=
  .next (s.on (fun d => if stopExists t.die.val t.stop.val then d.targetTake t.key else d))

/-- A target is dead: a request has been offered and not taken, or a non-posted one taken and not answered,
for DR_ISO_TIME (R301). -/
def Device.targetDead (d : Device) (key : Nat) : Device :=
  let t := d.target key
  if t.iso = 0 ∧ (t.inq.any (fun e => covered 4 e.2) ∨ t.taken.any (fun p => !cmdPosted p.cmd && covered 4 p)) then
    d.isolate key 4
  else d

/-- TARGET_DEAD (R301, R302). -/
def execTargetDead (t : StopId) (s : State) : Host.Outcome State Fault Refusal :=
  .next (s.on (fun d => if stopExists t.die.val t.stop.val then d.targetDead t.key else d))

/-- Is the block of a stop enabled, so that a DEAD isolation may be released (R305)? For a zone: its clock
state is ROOT, REF or RIDING and it holds an active plane. The blocks that an EN bit disables are the stream mover's
channels, the identity ports, the encoders, the cam engines, the Gaffer and the lanes of a quad: any one enabled enables
the block. -/
def Device.blockEnabled (d : Device) (key : Nat) : Bool :=
  if isZoneKey key then
    let n := keyZone key
    let st := d.get (F.ZN_CLK_STATUS_STATE (zoneUnit n))
    (st == 1 || st == 2 || st == 5) && d.zoneActive n
  else if key = 24 then (List.range 16).any (fun c => d.on (F.SMV_CH_CTL_EN c))
  else if key = 33 then (List.range 8).any (fun i => d.on (F.IDR_PORT_CFG_EN i))
  else if key = 34 then (List.range 8).any (fun e => d.on (F.MFE_ENC_CFG_EN e))
  else if key = 36 then d.on F.GAF_CTL_EN
  else if key = 35 then (List.range 16).any (fun e => d.on (F.CAM_ENG_CTL_EN e))
  else if decide (128 ≤ key) && decide (64 ≤ key % 128) && decide (key % 128 ≤ 69) then
    (List.range 4).any (fun l => d.on (F.LQ_LANE_CTL_EN (stopUnit key) l))
  else true

/-- DR_ISO_CTL.RELEASE for the stop that DR_ISO_SEL selects (R305). -/
def Device.isoReleaseCommand (d : Device) (die : Nat) : Device :=
  let u := ringUnit die
  let key := stopKey die (d.get (F.DR_ISO_SEL_STOP u))
  let t := d.target key
  if t.iso = 0 then d
  else if d.fenced die then d.refuseAt ⟨u * 4096 + 0x124, 15, 8⟩ .dieFenced (F.DR_ISO_CTL_RELEASE u)
  else if t.iso ≠ 4 ∨ !d.blockEnabled key then
    d.refuseAt ⟨u * 4096 + 0x124, 15, 8⟩ .busy (F.DR_ISO_CTL_RELEASE u)
  else d.isoRelease key

/-- DR_ISO_RELEASE (R304, R305). -/
def execDrIsoRelease (die : Fin 5) (s : State) : Host.Outcome State Fault Refusal :=
  .next (s.on (fun d => if d.refusalsFull die.val then d else d.isoReleaseCommand die.val))

end Sys2Proof.Machine
end

