-- ==== Sys2Proof/Machine/Requests.lean ====
section
/-! DEFINITION. Initiator stops (chapters 09, 10): issue, launch, responses in order, timeouts, FENCE. -/

namespace Sys2Proof.Machine

/-! ## Small readings of an initiator -/

/-- The target of an address: die and stop (R262). -/
def addrTarget (a : Nat) : Nat := a / 2 ^ 38
/-- The key of the stop that an address names. -/
def addrKey (a : Nat) : Nat := stopKey (a / 2 ^ 45) (a / 2 ^ 38 % 128)

/-- A request that the stop still owes an answer: launched and not answered. -/
def Outst.waits (o : Outst) : Bool := o.resp.isNone

/-- The outstanding tags (Table 10.6): expired ones are quarantined instead. -/
def InitState.tags (x : InitState) : Nat := (x.out.filter (fun o => o.tag.isSome && !o.expired)).length
/-- The reorder entries in use (R293). -/
def InitState.rob (x : InitState) : Nat := (x.out.filter (fun o => o.tag.isSome && !cmdPosted o.cmd)).length

/-- Is a tag free: neither outstanding nor quarantined (R292)? -/
def InitState.tagFree (x : InitState) (t : Nat) : Bool :=
  !x.quar.contains t && x.out.all (fun o => o.tag != some t)

/-- The next free tag from `t`, ascending modulo 1,024, looking at most `fuel` ahead (R292). -/
def InitState.pickTag (x : InitState) : Nat → Nat → Option Nat
  | 0, _ => none
  | f + 1, t => if x.tagFree t then some t else x.pickTag f ((t + 1) % 1024)

/-- Change an initiator. -/
def Device.modInit (d : Device) (k : Nat) (f : InitState → InitState) : Device := d.setInit k (f (d.init k))

/-! ## Answers (R266, R271, R294, R295, R330, R658) -/

/-- The worse of a FENCE's status and an answer's: the lowest non-zero one (R271). -/
def worse (a b : Nat) : Nat := if a = 0 then b else if b = 0 then a else min a b

/-- A pending FENCE sees the answer to an earlier request (R271). -/
def InitState.fenceSees (x : InitState) (seq status : Nat) : InitState :=
  match x.fence with
  | some f => if seq < f.seq then { x with fence := some { f with status := worse f.status status } } else x
  | none => x

/-- A posted write has its accepting WRR, genuine, synthesised or given at once: a failed write is kept until
the port is told (R295). -/
def InitState.writeDone (x : InitState) (seq addr cls status : Nat) : InitState :=
  let x := x.fenceSees seq status
  if status = 0 then x
  else
    let w := match x.fence with | some f => decide (seq < f.seq) | none => false
    { x with fails := x.fails ++ [{ seq := seq, target := addrTarget addr, cls := cls, status := status,
                                    waited := w, told := none }] }

/-- A posted write has failed: it is counted, for the stream mover also in SMV_WRR_ERR_CNT (R266, R362), for
a cam engine whose token was discarded in its SP_DROP (R579). -/
def Device.wrrError (d : Device) (k who status : Nat) : Device :=
  let d := d.inc (initField k F.INIT_WRR_ERR_CNT_COUNT)
  if k = 24 then d.inc F.SMV_WRR_ERR_CNT_COUNT
  else if k = 35 ∧ (status = 1 ∨ status = 5) then d.inc (F.CAM_ENG_SP_DROP_COUNT who)
  else d

/-- A stop answers a request at once, launching nothing (R658). -/
def Device.answerAtOnce (d : Device) (k : Nat) (r : PortReq) (status : Nat) : Device :=
  let x := d.init k
  if r.cmd = Cmd.WR ∨ r.cmd = Cmd.MSG then
    (d.setInit k (x.writeDone r.seq r.addr r.cls status)).wrrError k r.who status
  else if r.cmd = Cmd.EVT then d
  else
    let o : Outst := { seq := r.seq, tag := none, cmd := r.cmd, cls := r.cls, addr := r.addr,
                       resp := some (x.arrived, status, []), expired := false, abandoned := false, held := false,
                       who := r.who }
    d.setInit k ({ x with out := x.out ++ [o], arrived := x.arrived + 1 }.fenceSees r.seq status)

/-- May this initiator use class 3 (R269)? -/
def mayClass3 (k : Nat) : Bool := k = 1 || k = 6 || k = 24 || k = 36 || (decide (k < 640) && k % 128 == 96)

/-- The pool bank (0 to 31) that a ring address lies in (R342). -/
def poolBank (a : Nat) : Option Nat :=
  let stop := a / 2 ^ 38
  let off := a % 2 ^ 38
  if 16 ≤ stop ∧ stop < 24 ∧ 2 ^ 32 ≤ off ∧ off < 2 ^ 32 + 0x800000 then
    some (4 * (stop - 16) + (off - 2 ^ 32) / 2 ^ 21)
  else none

/-- The owner in force of a bank (Table 12.2). -/
def Device.bankOwner (d : Device) (n : Nat) : Nat := Tab.get (fun _ => 0) d.pool.eff n

/-- Does the compute link of a die own the bank that an address lies in? -/
def Device.linkOwns (d : Device) (die a : Nat) : Bool :=
  match poolBank a with
  | some n => d.bankOwner n == 17 + die
  | none => false

/-- The status of an answer at once, if the stop's checks give one (R270, R275), or the compute link's (R355). -/
def Device.issueCheck (d : Device) (k : Nat) (r : PortReq) : Option Nat :=
  let die := r.addr / 2 ^ 45
  if (r.cls = 3 ∧ !mayClass3 k) ∨ !classPermits r.cls r.cmd then some 5
  else if 640 < k then if d.linkOwns (k - 640) r.addr then none else some 5
  else if !stopExists die (r.addr / 2 ^ 38 % 128) then some 1
  else if d.fenced die then some 3
  else none

/-- A request enters the port, or is answered at once. -/
def Device.admitOne (d : Device) (k : Nat) (r : PortReq) : Device :=
  match d.issueCheck k r with
  | some st => d.answerAtOnce k r st
  | none => d.modInit k (fun x => { x with port := x.port ++ [r] })

/-- An initiator port issues a request; behind a pending FENCE it waits (R271). -/
def Device.issue (d : Device) (k cmd cls addr len be : Nat) (data : List DataUnit) (who : Nat) : Device :=
  let x := d.init k
  let r : PortReq := { seq := x.nextSeq, cmd := cmd, cls := cls, addr := addr, len := len, be := be,
                       data := data, who := who }
  let x := { x with nextSeq := x.nextSeq + 1 }
  if x.fence.isSome then d.setInit k { x with held := x.held ++ [r] }
  else if cmd = Cmd.FENCE then d.setInit k { x with fence := some { seq := r.seq, status := 0 } }
  else (d.setInit k x).admitOne k r

/-- Does a zone's logic issue: at its edges, once released? -/
def Device.logicRuns (d : Device) (n : Nat) : Bool :=
  let st := d.get (F.ZN_CLK_STATUS_STATE (zoneUnit n))
  decide ((d.zone n).stage = .grr) && (st == 1 || st == 2 || st == 4 || st == 5)

/-- The anchor zone of a die's compute link (R353). -/
def Device.linkAnchor (d : Device) (die : Nat) : Nat :=
  (die - 1) * 64 + d.get (F.PL_LINK_CTL_ANCHOR (U.PL (die - 1)))

/-- Do the initiators behind a key work: a zone's logic, the compute link of a die while it is ON with its
anchor zone's logic, or a block? -/
def Device.portRuns (d : Device) (k : Nat) : Bool :=
  if isZoneKey k then d.logicRuns (keyZone k)
  else if 640 < k then
    d.get (F.PL_LINK_STATUS_STATE (U.PL (k - 641))) == 1 && d.logicRuns (d.linkAnchor (k - 640))
  else true

/-- REQUEST_ISSUE (R269, R270, R275, R658). -/
def execRequestIssue (i : Initiator) (req : Request) (s : State) : Host.Outcome State Fault Refusal :=
  .next (s.on (fun d => if d.portRuns i.key then
    d.issue i.key req.cmd.toNat req.cls.val req.addr.toNat req.len.toNat req.be.toNat req.data 0 else d))

/-- RING_FENCE (R271): the port issues a FENCE. -/
def execRingFence (i : Initiator) (cls : Fin 4) (s : State) : Host.Outcome State Fault Refusal :=
  .next (s.on (fun d => if d.portRuns i.key then d.issue i.key Cmd.FENCE cls.val 0 0 0 [] 0 else d))

/-! ## Launch (R264, R278, R292, R293) -/

/-- Are a tag and, for a non-posted request, a reorder entry free (R264, R293)? An EVT needs neither. -/
def InitState.roomFor (x : InitState) (r : PortReq) : Bool :=
  r.cmd == Cmd.EVT ||
    (decide (x.tags < 64) && (x.pickTag 1024 x.nextTag).isSome && (cmdPosted r.cmd || decide (x.rob < 32)))

/-- May `r` launch past an earlier waiting request `e` (R278, R280, R293)? -/
def InitState.passes (x : InitState) (r e : PortReq) : Bool :=
  decide (e.cls ≠ r.cls) ||
    (cmdPosted r.cmd && !x.roomFor e && decide (addrTarget e.addr ≠ addrTarget r.addr))

/-- The requests of a port that may launch, in issue order, with those before each. -/
def InitState.ready (x : InitState) : List PortReq → List PortReq → List PortReq
  | _, [] => []
  | before, r :: rest =>
    if x.roomFor r && before.all (x.passes r) then r :: x.ready (before ++ [r]) rest
    else x.ready (before ++ [r]) rest

/-- The request that launches next: classes in the order 3, 0, then 1 and 2 alternately (R278). -/
def InitState.pick (x : InitState) : Option PortReq :=
  let l := x.ready [] x.port
  let first (c : Nat) := l.find? (fun r => r.cls == c)
  let a := if x.alt then 2 else 1
  match first 3, first 0, first a, first (3 - a) with
  | some r, _, _, _ => some r
  | none, some r, _, _ => some r
  | none, none, some r, _ => some r
  | none, none, none, y => y

/-- Launch a request: its tag, its reorder entry, the packet on the ring (R260 to R264, R272, R287). One of MLINK
whose mark is 1 was abandoned while it waited (R75, R298). -/
def Device.launch (d : Device) (k : Nat) (r : PortReq) : Device :=
  let x := d.init k
  let x := { x with port := x.port.filter (fun q => q.seq != r.seq),
                    alt := if r.cls = 1 then true else if r.cls = 2 then false else x.alt }
  let dst := addrKey r.addr
  let node := sourceNode k (dst / 128)
  let send (d : Device) (tag : Nat) : Device :=
    let p := mkPacket k dst false r.cmd tag r.cls r.len 0 r.be r.addr r.data
    let ccw := goCcw node.1 node.2 (p.exitPos node.1)
    let p := mkPacket k dst ccw r.cmd tag r.cls r.len 0 r.be r.addr r.data
    let d := d.inject p
    if p.arrived node.1 node.2 then d.drainNode 1 node.1 node.2 ccw false else d
  if r.cmd = Cmd.EVT then send (d.setInit k x) 0
  else match x.pickTag 1024 x.nextTag with
    | none => d
    | some t =>
      let o : Outst := { seq := r.seq, tag := some t, cmd := r.cmd, cls := r.cls, addr := r.addr, resp := none,
                         expired := false, abandoned := k == 1 && r.who == 1, held := false, who := r.who }
      send (d.setInit k { x with out := x.out ++ [o], nextTag := (t + 1) % 1024 }) t

/-- May a port launch: not while its zone drains, is being reset or swaps, or its die is fenced? -/
def Device.mayLaunch (d : Device) (k : Nat) : Bool :=
  !(isZoneKey k && (d.target k).drain) && !(decide (640 < k) && (d.target (zoneStop (d.linkAnchor (k - 640)))).drain) && !(decide (128 ≤ k) && decide (k < 640) && d.fenced (k / 128))

/-- The next launch of a port. -/
def Device.launchNext (d : Device) (k : Nat) : Device :=
  if d.mayLaunch k then
    match (d.init k).pick with
    | some r => d.launch k r
    | none => d
  else d

/-! ## Responses arrive (R290, R291, R294, R330) -/

/-- The outstanding request that a response matches: same tag, not expired, not answered. -/
def InitState.matching (x : InitState) (tag : Nat) : Option Outst :=
  x.out.find? (fun o => o.tag == some tag && !o.expired && o.waits)

/-- Replace an outstanding request. -/
def InitState.setOut (x : InitState) (o : Outst) : InitState :=
  { x with out := x.out.map (fun q => if q.seq = o.seq then o else q) }
/-- Remove an outstanding request. -/
def InitState.dropOut (x : InitState) (seq : Nat) : InitState :=
  { x with out := x.out.filter (fun q => q.seq != seq) }

/-- A late or unknown response: discarded, counted and recorded; a quarantined tag is freed (R291, R292). -/
def Device.lateResponse (d : Device) (k : Nat) (p : Packet) : Device :=
  let d := d.modInit k (fun x => { x with quar := x.quar.filter (· != p.tag) })
  let d := d.inc (initField k F.INIT_LATE_CNT_COUNT)
  d.record { d.mkRecord 0x02 (initUnit k) (stopUnit p.src) with
    tag := p.tag, cls := p.cls, status := p.status, addr := p.addr, addrValid := true }

/-- Is UNC_MODE of a class ERROR (R330, R331, R354, R358)? Bit 3 of zones and links, and MLINK, are fixed. -/
def Device.uncError (d : Device) (k cls : Nat) : Bool :=
  if k = 1 then true
  else if k = 24 then cls == 3
  else if cls = 3 ∧ (isZoneKey k ∨ 640 < k) then true
  else bit (d.get (initField k F.INIT_UNC_MODE_CLASS)) cls

/-- An answer is taken in for an outstanding request: a posted write is consumed, another waits for its turn,
its poison replaced under UNC_MODE (R266, R295, R330). -/
def Device.answer (d : Device) (k : Nat) (o : Outst) (status : Nat) (data : List DataUnit) : Device :=
  if cmdPosted o.cmd then
    let d := if status ≠ 0 then d.wrrError k o.who status else d
    d.modInit k (fun x => (x.dropOut o.seq).writeDone o.seq o.addr o.cls status)
  else
    let bad := data.any (·.poison) && d.uncError k o.cls
    let d := if bad then d.inc (initField k F.INIT_UNC_CNT_COUNT) else d
    let st := if bad then 4 else status
    let dt := if bad then [] else data
    d.modInit k (fun x => ({ x.setOut { o with resp := some (x.arrived, st, dt) } with
      arrived := x.arrived + 1 }).fenceSees o.seq st)

/-- The response at the head of a stop's intake, if it is of kind `cmd`, is handled. -/
def Device.takeResponse (d : Device) (k cmd : Nat) : Device :=
  let x := d.init k
  match x.rx with
  | [] => d
  | p :: rest =>
    if p.cmd ≠ cmd then d
    else
      let d := d.setInit k { x with rx := rest }
      if p.respMalformed then d.malformedCount k p
      else match x.matching p.tag with
        | none => d.lateResponse k p
        | some o => d.answer k o p.status p.data

/-- RING_RDR (R290, R291, R294, R330). -/
def execRingRdr (i : Initiator) (s : State) : Host.Outcome State Fault Refusal :=
  .next (s.on (fun d => d.takeResponse i.key Cmd.RDR))
/-- RING_WRR (R266, R290, R291, R295). -/
def execRingWrr (i : Initiator) (s : State) : Host.Outcome State Fault Refusal :=
  .next (s.on (fun d => d.takeResponse i.key Cmd.WRR))
/-- RING_ATR (R290, R291, R294, R330). -/
def execRingAtr (i : Initiator) (s : State) : Host.Outcome State Fault Refusal :=
  .next (s.on (fun d => d.takeResponse i.key Cmd.ATR))

/-! ## Delivery in order (R294 to R298) -/

/-- Is an earlier request to the same target in the same class in the way of delivering `o`: in classes 0 and 3
any non-posted one, for a read any posted write without its WRR (R294, R295)? -/
def blocksDelivery (o : Outst) (seq addr cls cmd : Nat) : Bool :=
  decide (seq < o.seq) && decide (addrTarget addr = addrTarget o.addr) && decide (cls = o.cls) &&
    (if cmdPosted cmd then decide (o.cmd = Cmd.RD) && cmd != Cmd.EVT else decide (cls = 0) || decide (cls = 3))

/-- May the response of `o` be delivered? -/
def InitState.deliverable (x : InitState) (o : Outst) : Bool :=
  o.resp.isSome && !x.out.any (fun q => blocksDelivery o q.seq q.addr q.cls q.cmd)
    && !x.port.any (fun q => blocksDelivery o q.seq q.addr q.cls q.cmd)

/-- Of two entries, the one whose response arrived first. -/
def earlierResp (a : Option Outst) (o : Outst) : Option Outst :=
  match a with
  | none => some o
  | some b =>
    match b.resp, o.resp with
    | some rb, some ro => if ro.1 < rb.1 then some o else some b
    | _, _ => some b

/-- The response to deliver: among those in turn, the first that arrived (R297). -/
def InitState.toDeliver (x : InitState) : Option Outst :=
  (x.out.filter x.deliverable).foldl earlierResp none

/-- Must a read still report a failed write (R295)? -/
def FailedWrite.marks (f : FailedWrite) (o : Outst) : Bool :=
  decide (f.seq < o.seq) && decide (f.target = addrTarget o.addr) && decide (f.cls = o.cls)
    && (match f.told with | some n => decide (o.seq < n) | none => true)

/-- Of two failed writes, the one issued earlier. -/
def earlierFail (a : Option FailedWrite) (f : FailedWrite) : Option FailedWrite :=
  match a with
  | none => some f
  | some b => if f.seq < b.seq then some f else some b

/-- The earliest failed write that a read must still report (R295). -/
def InitState.failFor (x : InitState) (o : Outst) : Option FailedWrite :=
  if o.cmd = Cmd.RD then (x.fails.filter (fun f => f.marks o)).foldl earlierFail none else none

/-- Failed writes that no read can report any more are forgotten. -/
def InitState.prune (x : InitState) : InitState :=
  { x with fails := x.fails.filter (fun f => match f.told with
      | none => true
      | some n => x.out.any (fun o => decide (f.seq < o.seq) && decide (o.seq < n))
          || (x.port ++ x.held).any (fun o => decide (f.seq < o.seq) && decide (o.seq < n))) }

/-- What reaches a port: engines keep their answers until they use them; a zone's logic takes the last. -/
def InitState.push (x : InitState) (zone : Bool) (v : Delivered) : InitState :=
  { x with inbox := if zone then [v] else x.inbox ++ [v] }

/-- The port is told of a failed write by the replaced response of `o` (R295). -/
def FailedWrite.toldBy (o : Outst) (n : Nat) (w : FailedWrite) : FailedWrite :=
  if w.seq < o.seq ∧ w.target = addrTarget o.addr ∧ w.cls = o.cls ∧ w.told.isNone then
    { w with told := some n }
  else w

/-- The port is told of a failed write by a FENCE that waited on it (R295). -/
def FailedWrite.toldByFence (n : Nat) (w : FailedWrite) : FailedWrite :=
  if w.waited ∧ w.told.isNone then { w with told := some n } else w

/-- A unit acts on poison: POISON_CONSUMED and its record (R332). -/
def Device.poisonConsumed (d : Device) (u peer tag cls addr : Nat) (addrValid : Bool) : Device :=
  let d := d.raise Ev.POISON_CONSUMED u 0
  d.record { d.mkRecord 0x0A u peer with tag := tag, cls := cls, status := 4, addr := addr, addrValid := addrValid }

/-- Deliver one response; that of an abandoned request is discarded and counted (R298). A read after a failed
write carries its status and no data, which tells the port (R295). A poisoned read of MLINK is consumed there (Table 11.4). -/
def Device.deliverOne (d : Device) (k : Nat) (o : Outst) (status : Nat) (data : List DataUnit) : Device :=
  let x := d.init k
  let f := x.failFor o
  let x := x.dropOut o.seq
  if o.abandoned then (d.setInit k x.prune).inc (initField k F.INIT_ABANDON_CNT_COUNT)
  else
    let r := match f with
      | some w => (w.status, ([] : List DataUnit))
      | none => (status, data)
    let d := if k = 1 ∧ o.cmd = Cmd.RD ∧ r.1 = 4 then
        d.poisonConsumed U.HL (stopUnit (addrKey o.addr)) (o.tag.getD 0) o.cls o.addr true else d
    let x := if f.isSome then { x with fails := x.fails.map (FailedWrite.toldBy o x.nextSeq) } else x
    d.setInit k (x.prune.push (isZoneKey k || decide (640 < k))
      { cmd := respCmd o.cmd, cls := o.cls, status := r.1, addr := o.addr, data := r.2, who := o.who })

/-- The next delivery of a stop. -/
def Device.deliverNext (d : Device) (k : Nat) : Device :=
  match (d.init k).toDeliver with
  | none => d
  | some o => match o.resp with
    | none => d
    | some (_, st, dt) => d.deliverOne k o st dt

/-- RESPONSE_DELIVER (R281, R282, R294, R295, R297, R298). -/
def execResponseDeliver (i : Initiator) (s : State) : Host.Outcome State Fault Refusal :=
  .next (s.on (fun d => d.deliverNext i.key))

/-- A response held beyond HOLD: ORDER_HOLD once per response (R296). `n` is its place among those outstanding. -/
def Device.orderHold (d : Device) (k n : Nat) : Device :=
  let x := d.init k
  match x.out[n]? with
  | none => d
  | some o =>
    if o.resp.isSome && !x.deliverable o && !o.held then
      let d := (d.setInit k (x.setOut { o with held := true })).raise Ev.ORDER_HOLD (initUnit k) 0
      d.record { d.mkRecord 0x03 (initUnit k) (stopUnit (addrKey o.addr)) with
        tag := o.tag.getD 0, cls := o.cls, addr := o.addr, addrValid := true }
    else d

/-- ORDER_HOLD_LIMIT (R296). -/
def execOrderHoldLimit (i : Initiator) (k : Fin 1024) (s : State) : Host.Outcome State Fault Refusal :=
  .next (s.on (fun d => d.orderHold i.key k.val))

/-! ## FENCE completes (R271) -/

/-- Is every request before `seq` answered, and a posted one accepted? -/
def InitState.answeredBefore (x : InitState) (seq : Nat) : Bool :=
  x.out.all (fun o => !(decide (o.seq < seq) && o.waits)) && x.port.all (fun r => !decide (r.seq < seq))

/-- Issue what waited behind a FENCE, up to the next FENCE. -/
def Device.admitHeld : Nat → Device → Nat → Device
  | 0, d, _ => d
  | f + 1, d, k =>
    match (d.init k).held with
    | [] => d
    | r :: rest =>
      let d := d.modInit k (fun x => { x with held := rest })
      if r.cmd = Cmd.FENCE then d.modInit k (fun x => { x with fence := some { seq := r.seq, status := 0 } })
      else Device.admitHeld f (d.admitOne k r) k

/-- The FENCE completes: FNR with the worst status, and the port issues again. The port is told of the failed
writes that the FENCE waited on (R271, R295). -/
def Device.fenceDone (d : Device) (k : Nat) : Device :=
  let x := d.init k
  match x.fence with
  | none => d
  | some f =>
    if x.answeredBefore f.seq then
      let x := { x with fence := none, fails := x.fails.map (FailedWrite.toldByFence f.seq) }
      let d := d.setInit k (x.prune.push (isZoneKey k || decide (640 < k))
        { cmd := Cmd.FNR, cls := 0, status := f.status, addr := 0, data := [], who := 0 })
      d.admitHeld (x.held.length + 1) k
    else d

/-- FENCE_COMPLETE (R271, R283). -/
def execFenceComplete (i : Initiator) (s : State) : Host.Outcome State Fault Refusal :=
  .next (s.on (fun d => d.fenceDone i.key))

/-! ## Timeouts (R287 to R292) -/

/-- A request's timer expires: a response of status 2 is synthesised, the tag quarantined (R289, R292). A posted write of the
stream mover has then failed (R362). -/
def Device.timeout (d : Device) (k tag : Nat) : Device :=
  let x := d.init k
  match x.matching tag with
  | none => d
  | some o =>
    let u := initUnit k
    let x := { x with quar := tag :: x.quar.filter (· != tag) }
    let x := if cmdPosted o.cmd then (x.dropOut o.seq).writeDone o.seq o.addr o.cls 2
      else { x.setOut { o with expired := true, resp := some (x.arrived, 2, []) } with
             arrived := x.arrived + 1 }.fenceSees o.seq 2
    let d := if k = 24 ∧ cmdPosted o.cmd then d.inc F.SMV_WRR_ERR_CNT_COUNT else d
    let d := ((d.setInit k x).inc (F.INIT_TMO_CNT_COUNT u)).raise Ev.RING_TIMEOUT u 0
    d.record { d.mkRecord 0x01 u (stopUnit (addrKey o.addr)) with
      tag := tag, cls := o.cls, status := 2, addr := o.addr, addrValid := true }

/-- TIMEOUT_EXPIRE (R288 to R290, R292). -/
def execTimeoutExpire (i : Initiator) (tag : Fin 1024) (s : State) : Host.Outcome State Fault Refusal :=
  .next (s.on (fun d => d.timeout i.key tag.val))

/-- TAG_QUARANTINE_END (R292). -/
def execTagQuarantineEnd (i : Initiator) (tag : Fin 1024) (s : State) : Host.Outcome State Fault Refusal :=
  .next (s.on (fun d => d.modInit i.key (fun x => { x with quar := x.quar.filter (· != tag.val) })))

/-! ## Abandoning (R298, R310) -/

/-- The outstanding non-posted requests of a port are abandoned; those that wait unlaunched are discarded and
counted; a pending FENCE is discarded (R310). -/
def Device.abandonPort (d : Device) (k : Nat) : Device :=
  let x := d.init k
  let gone := x.port.length + (x.held.filter (fun r => r.cmd != Cmd.FENCE)).length
  let out := x.out.map (fun (o : Outst) => if cmdPosted o.cmd then o else { o with abandoned := true })
  let d := d.setInit k { x with port := [], held := [], fence := none, out := out }
  d.each (List.range gone) (fun d _ => d.inc (initField k F.INIT_ABANDON_CNT_COUNT))

/-- Has a port no launched non-posted request without its response (Table 10.2)? -/
def InitState.quiet (x : InitState) : Bool := x.out.all (fun o => cmdPosted o.cmd || !o.waits)

/-- Take the first delivered answer that `who` asked for from an engine's inbox. -/
def Device.takeAnswer (d : Device) (k who : Nat) : Option (Delivered × Device) :=
  match (d.init k).inbox.find? (fun v => v.who == who) with
  | none => none
  | some v =>
    let at_ := ((d.init k).inbox.findIdx? (fun v => v.who == who)).getD 0
    some (v, d.modInit k (fun x => { x with inbox := x.inbox.eraseIdx at_ }))

end Sys2Proof.Machine
end

