-- ==== Sys2Proof/Machine/Queues.lean ====
section
/-! DEFINITION. Queue controllers (R236 to R245): where a queue's words lie, the zone side, the channel side,
what an edge does, and the thresholds. The accesses of a zone edge come before the ZONE_EDGE that ends it. -/

namespace Sys2Proof

/-- The shape of a queue's memories (Table 08.4). -/
def MemCfg.queueShape (c : MemCfg) : BmShape :=
  match c.queue with
  | .channelIn => .s36
  | .channelOut => .s36
  | _ => c.shape false

/-- Has this memory a queue of its own: the head of one? -/
def MemCfg.isQueue (c : MemCfg) : Bool := c.queue != .none && c.queue != .cascadeMember

/-- The depth of a queue (R236); 0 where the memory is no head (Table 08.10). -/
def MemCfg.depth (c : MemCfg) : Nat := if c.isQueue then c.queueShape.words * max 1 c.cascade.val else 0

end Sys2Proof

namespace Sys2Proof.Machine

/-- Queue controller `q` of zone number `n`. -/
def Device.queue (d : Device) (n q : Nat) : QueueState := Tab.get (fun _ => QueueState.empty) (d.zone n).queues q
/-- The device with a queue controller replaced. -/
def Device.setQueue (d : Device) (n q : Nat) (x : QueueState) : Device :=
  d.modZone n (fun z => { z with queues := Tab.set (fun _ => QueueState.empty) z.queues q x })

/-- The memory and the word in it that hold word `w` of the queue with head `q` (R236). -/
def Device.queueWord (d : Device) (n q w : Nat) : Nat × Nat :=
  (q + w / (d.memCfg n q).queueShape.words, w % (d.memCfg n q).queueShape.words)

/-- Read word `w` of a queue, with CORR and UNCORR; in ECC mode it counts as a read (R232, R243). -/
def Device.queueRead (d : Device) (s : Stores) (n q w : Nat) : Device × Nat × Bool × Bool :=
  let c := d.memCfg n q
  let at_ := d.queueWord n q w
  let sh := c.queueShape
  if c.ecc then
    let r := d.bmEccRead s n at_.1 (wordRow sh at_.2) portQueue
    (r.1, r.2.1, decide (r.2.2 = .corrected), decide (r.2.2 = .uncorrectable))
  else
    (d, rowWord (s.row (bmAddr n at_.1 (wordRow sh at_.2))) (wordLane sh at_.2) sh.lanes, false, false)

/-- Write word `w` of a queue (R231, R243). -/
def Device.queueWrite (d : Device) (s : Stores) (n q w data : Nat) (poison : Bool) : Device × Stores :=
  let c := d.memCfg n q
  let at_ := d.queueWord n q w
  let sh := c.queueShape
  let a := bmAddr n at_.1 (wordRow sh at_.2)
  if c.ecc then d.bmEccWrite s n at_.1 (wordRow sh at_.2) (data % 2 ^ 64) poison
  else (d, s.setRow a (rowStore (s.row a) (wordLane sh at_.2) sh.lanes data 255))

/-- How many words a queue holds: for CHANNEL_OUT those the zone side counts less those already launched. -/
def heldWords (c : MemCfg) (x : QueueState) : Nat :=
  if c.queue = .channelOut then x.vis - x.cap - x.land else x.vis + x.cap + x.land

/-- The zone side at one edge (R239 to R243): a write, a read, or both. -/
def Device.queueEdge (d : Device) (s : Stores) (n q : Nat) (write : Bool) (din : Nat) (poison read : Bool) :
    Device × Stores :=
  let c := d.memCfg n q
  let x := d.queue n q
  let canRead := c.queue == .sync || c.queue == .channelIn
  let canWrite := c.queue == .sync || c.queue == .channelOut
  let read := read && canRead
  let write := write && canWrite
  let doRead := read && (if c.fwft then x.valid else decide (0 < x.vis))
  let doWrite := write && (decide (x.vis < c.depth) || doRead)
  let x := { x with ovf := x.ovf || (write && !doWrite), unf := x.unf || (read && !doRead) }
  let wr := (x.rd + heldWords c x) % c.depth
  let r := if doWrite then d.queueWrite s n q wr din poison else (d, s)
  let head := if c.fwft then (x.rd + 1) % c.depth else x.rd
  let more := decide (1 < x.vis)
  let load := doRead && (!c.fwft || (more && !c.ecc))
  let y := if load then r.1.queueRead s n q head else (r.1, 0, false, false)
  let x := if doRead then
      let x := { x with rd := (x.rd + 1) % c.depth }
      let x := if load then { x with dout := x.dout.show (c.ecc && !c.fwft) y.2 } else x
      if c.fwft then { x with valid := load } else x
    else x
  let x := { x with vis := x.vis + b2n doWrite - b2n doRead }
  let x := if doWrite && c.ecc && x.vis = 1 then { x with cap := 1 } else x
  (y.1.setQueue n q x, r.2)

/-- A written pair of thresholds takes effect (R244). -/
def QueueState.takePair (x : QueueState) : QueueState :=
  match x.pend with
  | some p => { x with ae := p.1, af := p.2, pend := none }
  | none => x

/-- The thresholds as ZN_QC_THRESH shows them: the pair last written. -/
def QueueState.pair (x : QueueState) : Nat × Nat := x.pend.getD (x.ae, x.af)

/-- The end of a zone edge for a queue: captured words become visible (R240, R241), launched ones are seen
to have left, and the output stage moves. -/
def Device.queueTick (d : Device) (s : Stores) (n q : Nat) : Device :=
  let c := d.memCfg n q
  let x := (d.queue n q).takePair
  let x := match c.queue with
    | .channelIn =>
      let late := if x.late then min 1 x.land else 0
      { x with vis := x.vis + x.cap, cap := x.land - late, land := late, late := false }
    | .channelOut =>
      if d.freeBool then { x with vis := x.vis - x.cap - x.land, cap := 0, land := 0 }
      else { x with vis := x.vis - x.cap, cap := x.land, land := 0 }
    | _ => x
  let d := d.tick
  let o := x.dout.edge
  let moved := c.fwft && !x.valid && x.dout.next.isSome && !x.dout.fresh
  let x := { x with dout := o, valid := x.valid || moved }
  if c.fwft && !x.valid && decide (0 < x.vis) && x.dout.next.isNone then
    if c.queue = .sync && decide (0 < x.cap) then d.setQueue n q { x with cap := 0 }
    else
      let y := d.queueRead s n q x.rd
      if c.queue = .channelIn then
        y.1.setQueue n q { x with dout := x.dout.show false y.2, valid := true }
      else y.1.setQueue n q { x with dout := { x.dout with next := some y.2 } }
  else if c.queue = .sync && decide (0 < x.cap) then d.setQueue n q { x with cap := 0 }
  else d.setQueue n q x

/-- A token lands in a CHANNEL_IN queue that has room (R237, R238). -/
def Device.queueLand (d : Device) (s : Stores) (n q tok : Nat) (near : Bool) : Device × Stores :=
  let c := d.memCfg n q
  let x := d.queue n q
  let r := d.queueWrite s n q ((x.rd + heldWords c x) % c.depth) tok false
  let x := { x with land := x.land + 1, late := near && d.freeBool }
  (r.1.tick.setQueue n q x, r.2)

/-- A CHANNEL_OUT queue launches its oldest word into the channel (R237, R238). -/
def Device.queueLaunch (d : Device) (s : Stores) (n q : Nat) : Device × Nat :=
  let x := d.queue n q
  let y := d.queueRead s n q x.rd
  (y.1.setQueue n q { x with rd := (x.rd + 1) % (d.memCfg n q).depth, land := x.land + 1 }, y.2.1)

/-- Empty a queue: at plane activation and at a zone-local reset (R245). The thresholds stay. -/
def Device.queueEmpty (d : Device) (n q : Nat) : Device :=
  let x := d.queue n q
  d.setQueue n q { QueueState.empty with ae := x.ae, af := x.af, pend := x.pend }

/-- ZN_QC_THRESH written for queue `q`: AE and AF are judged together, and the pair takes effect at the next zone edge
(R244). A pair that is already held is no refusal (R655). -/
def Device.thresholds (d : Device) (n q ae af : Nat) : Device :=
  let u := zoneUnit n
  let x := d.queue n q
  if x.pair = (ae, af) then d
  else if af ≤ ae then d.refuse (F.ZN_REFUSE_REASON u).key .thresholdOrder (0x238 / 4)
  else if (d.memCfg n q).depth < af then d.refuse (F.ZN_REFUSE_REASON u).key .reservedValue (0x238 / 4)
  else d.setQueue n q { x with pend := some (ae, af) }

/-- The flags of a queue as ZN_QC_STATUS shows them (Table 08.12). -/
def Device.queueStatus (d : Device) (n q : Nat) : Nat :=
  let c := d.memCfg n q
  let x := d.queue n q
  x.vis * 2 ^ 16 + b2n x.unf * 32 + b2n x.ovf * 16 + b2n (c.isQueue && decide (x.af ≤ x.vis)) * 8
    + b2n (decide (x.vis ≤ x.ae)) * 4 + b2n (c.isQueue && decide (x.vis = c.depth)) * 2 + b2n (decide (x.vis = 0))

/-- QUEUE_ZONE_ACCESS (R239 to R243): zone logic's WRITE, DIN, POISON and READ at one zone edge. -/
def execQueueZoneAccess (z : ZoneId) (queue : Fin 48) (write : Bool) (din : BitVec 72) (poison read : Bool)
    (s : State) : Host.Outcome State Fault Refusal :=
  .next (s.onBoth (fun d m =>
    if d.zoneEdges z.no && d.writesOn z.no && (d.memCfg z.no queue.val).isQueue then
      d.queueEdge m z.no queue.val write din.toNat poison read
    else (d, m)))

/-- ZN_QC_THRESH_WRITE (R244): a write of ZN_QC_THRESH, for the queue that ZN_QC_SEL selects. -/
def execZnQcThreshWrite (z : ZoneId) (ae : BitVec 15) (af : BitVec 15) (s : State) :
    Host.Outcome State Fault Refusal :=
  .next (s.on (fun d => if d.refusalsFull z.die.no then d
    else d.thresholds z.no (d.get (F.ZN_QC_SEL_QUEUE z.unit)) ae.toNat af.toNat))

end Sys2Proof.Machine
end

