-- ==== Sys2Proof/Machine/Fabric.lean ====
section
/-! DEFINITION. The logic of a zone (chapter 07) and its arithmetic slices (chapter 08): cells and flip-flops,
carry chains, slices, channel endpoints and tokens in flight, the event port, and what an edge does to each. -/

namespace Sys2Proof.Machine

/-! ## Cells (R193 to R203) -/

/-- A cell that the image does not use. -/
def cellUnused : CellCfg :=
  { table := 0, split := false, carry := false, runStart := true, ci := .zero,
    ff0 := { bypass := false, async := false, srval := false, init := false },
    ff1 := { bypass := false, async := false, srval := false, init := false } }

/-- The inputs of a cell that no operand lists: all 0. -/
def cellIdle (c : Fin 20480) : CellIn :=
  { cell := c, inp := 0, bx0 := false, bx1 := false, ce0 := false, sr0 := false, ce1 := false, sr1 := false }

/-- The inputs of cell `c` among those given. -/
def cellIn (c : Nat) : List CellIn → CellIn
  | [] => cellIdle (Fin.ofNat 20480 c)
  | x :: r => if x.cell.val = c then x else cellIn c r

/-- Table output O6 (R193): inputs A to F are bits 0 to 5. -/
def cellO6 (cfg : CellCfg) (x : CellIn) : Bool := cfg.table.getLsbD x.inp.toNat
/-- Table output OX (R194): bit 16E + 8D + 4C + 2B + A. -/
def cellOX (cfg : CellCfg) (x : CellIn) : Bool := cfg.table.getLsbD (x.inp.toNat % 32)
/-- Table output OY (R194): bit 32 + 16F + 8D + 4C + 2B + A. -/
def cellOY (cfg : CellCfg) (x : CellIn) : Bool :=
  cfg.table.getLsbD (32 + 16 * (x.inp.toNat / 32) + x.inp.toNat % 16)

/-- Is cell `c` the first of a carry run: it starts one, is cell 0 of its cluster, or follows a cell outside carry mode
(R201)? -/
def runFirst (cfgs : List (Nat × CellCfg)) (c : Nat) : Bool :=
  (lookupD cellUnused c cfgs).runStart || decide (c % 16 = 0) || !(lookupD cellUnused (c - 1) cfgs).carry

/-- The carry into cell `c` (R201 to R203); `fuel` bounds the chain, which spans at most 640 cells. Cells of
a zone column follow one another upward: cluster = column × 40 + row (assumption log 7). The choice of the cluster below
stands at cell 0 of a cluster, and not at the foot of a column. -/
def carryIn (cfgs : List (Nat × CellCfg)) (xs : List CellIn) : Nat → Nat → Bool
  | 0, _ => false
  | fuel + 1, c =>
    let cfg := lookupD cellUnused c cfgs
    let before : Bool :=
      if cellOX (lookupD cellUnused (c - 1) cfgs) (cellIn (c - 1) xs) then carryIn cfgs xs fuel (c - 1)
      else cellOY (lookupD cellUnused (c - 1) cfgs) (cellIn (c - 1) xs)
    if runFirst cfgs c then
      match cfg.ci with
      | .zero => false
      | .one => true
      | .bx0 => (cellIn c xs).bx0
      | .below => decide (c % 16 = 0) && decide (c % 640 ≠ 0) && before
    else before

/-- The value that FF0's DSEL selects from the table side (Table 07.1). -/
def cellD0 (cfgs : List (Nat × CellCfg)) (xs : List CellIn) (c : Nat) : Bool :=
  let cfg := lookupD cellUnused c cfgs
  let x := cellIn c xs
  if cfg.ff0.bypass then x.bx0
  else if cfg.carry then cellOX cfg x != carryIn cfgs xs 641 c
  else if cfg.split then cellOX cfg x
  else cellO6 cfg x

/-- The value that FF1's DSEL selects (Table 07.1). -/
def cellD1 (cfgs : List (Nat × CellCfg)) (xs : List CellIn) (c : Nat) : Bool :=
  let cfg := lookupD cellUnused c cfgs
  let x := cellIn c xs
  if cfg.ff1.bypass then x.bx1
  else if cfg.carry || cfg.split then cellOY cfg x
  else cellO6 cfg x

/-- A flip-flop at a rising edge (R196, R197): SR first, then CE, else its present value. -/
def ffNext (f : FfCfg) (sr ce dsel now : Bool) : Bool :=
  if sr then f.srval else if ce then dsel else now

/-- Set or clear a flip-flop in the ascending list of those that read 1 (number: cell × 2 + 0 or 1). -/
def ffSet (l : List Nat) (k : Nat) (v : Bool) : List Nat :=
  let without := l.filter (· != k)
  if v then without.filter (· < k) ++ k :: without.filter (k < ·) else without

/-- The flip-flops after an edge: those of the cells whose inputs are given. -/
def cellsEdge (cfgs : List (Nat × CellCfg)) (xs : List CellIn) (ffs : List Nat) : List Nat :=
  xs.foldl (fun l x =>
    let c := x.cell.val
    let cfg := lookupD cellUnused c cfgs
    let l := ffSet l (2 * c) (ffNext cfg.ff0 x.sr0 x.ce0 (cellD0 cfgs xs c) (ffs.contains (2 * c)))
    ffSet l (2 * c + 1) (ffNext cfg.ff1 x.sr1 x.ce1 (cellD1 cfgs xs c) (ffs.contains (2 * c + 1)))) ffs

/-- The flip-flops with INIT = 1 (R198). -/
def initFfs (cfgs : List (Nat × CellCfg)) : List Nat :=
  cfgs.foldl (fun l e => ffSet (ffSet l (2 * e.1) e.2.ff0.init) (2 * e.1 + 1) e.2.ff1.init) []

/-! ## Arithmetic slices (R246 to R254) -/

/-- The operands of a slice that no operand lists: all 0, not enabled. -/
def sliceIdle (k : Fin 32) : SliceIn :=
  { slice := k, en := false, a := 0, d := 0, b := 0, c := 0, pa := false, pb := false, pc := false,
    pd := false, load := false, sub := false }

/-- The operands of slice `k` among those given. -/
def sliceIn (k : Nat) : List SliceIn → SliceIn
  | [] => sliceIdle (Fin.ofNat 32 k)
  | x :: r => if x.slice.val = k then x else sliceIn k r

/-- The pre-adder's 25-bit value (R246). -/
def preAdd (cfg : SliceCfg) (x : SliceIn) : Int :=
  match cfg.pre with
  | .dPlusA => x.d.toInt + x.a.toInt
  | .dMinusA => x.d.toInt - x.a.toInt
  | .a => x.a.toInt
  | .negA => -x.a.toInt

/-- The product, or in dual mode the low and high products of 12-bit halves (R246, R250). -/
def products (cfg : SliceCfg) (pre : Int) (x : SliceIn) : Int × Int :=
  if cfg.dual then
    ((x.a.extractLsb' 0 12).toInt * (x.b.extractLsb' 0 12).toInt,
     (x.a.extractLsb' 12 12).toInt * (x.b.extractLsb' 12 12).toInt)
  else (pre * x.b.toInt, 0)

/-- A sum held in `w` bits: clamped or wrapped, with its overflow (R248). -/
def accFit (w : Nat) (sat : Bool) (v : Int) : Nat × Bool :=
  let hi : Int := Int.ofNat (2 ^ (w - 1)) - 1
  let lo : Int := -Int.ofNat (2 ^ (w - 1))
  let outside := decide (v < lo) || decide (hi < v)
  (unsigned w (if sat then clampInt lo hi v else v), outside)

/-- One half's next accumulator value before it is fitted (R247). -/
def accSum (load sub : Bool) (acc prod addend : Int) : Int :=
  if load then prod + addend
  else if sub then acc - prod + addend else acc + prod + addend

/-- The accumulator after an enabled edge, and OVF (R247, R248, R250). -/
def accNext (cfg : SliceCfg) (acc pcin : BitVec 64) (prod : Int × Int) (x : SliceIn) : BitVec 64 × Bool :=
  if cfg.dual then
    let addLo : Int := match cfg.addend with
      | .zero => 0 | .c => (x.c.extractLsb' 0 32).toInt | .pcin => (pcin.extractLsb' 0 32).toInt
    let addHi : Int := match cfg.addend with
      | .zero => 0 | .c => (x.c.extractLsb' 32 16).toInt | .pcin => (pcin.extractLsb' 32 32).toInt
    let lo := accFit 32 cfg.sat (accSum x.load x.sub (acc.extractLsb' 0 32).toInt prod.1 addLo)
    let hi := accFit 32 cfg.sat (accSum x.load x.sub (acc.extractLsb' 32 32).toInt prod.2 addHi)
    (BitVec.ofNat 64 (lo.1 + hi.1 * 2 ^ 32), lo.2 || hi.2)
  else
    let add : Int := match cfg.addend with | .zero => 0 | .c => x.c.toInt | .pcin => pcin.toInt
    let r := accFit 64 cfg.sat (accSum x.load x.sub acc.toInt prod.1 add)
    (BitVec.ofNat 64 r.1, r.2)

/-- The output stage: an arithmetic shift right by RSH, rounded half up with ROUND = 1 (R249). -/
def sliceOut (cfg : SliceCfg) (acc : BitVec 64) : BitVec 64 :=
  let r := cfg.rsh.val
  if r = 0 then acc
  else BitVec.ofNat 64
    (unsigned 64 ((acc.toInt + (if cfg.round then Int.ofNat (2 ^ (r - 1)) else 0)) / Int.ofNat (2 ^ r)))

/-- The poison of an operand set's product (R253). -/
def prodPoison (x : SliceIn) : Bool := x.pa || x.pb || x.pd

/-- The terms that reach the accumulator at this edge: the operands after the registers that are present,
and the registers after the edge (R251). -/
def slicePipe (cfg : SliceCfg) (st : SliceState) (x : SliceIn) : Option (Int × Int × SliceIn) × SliceState :=
  let s1 : Option SliceIn := if cfg.inReg then st.inR else some x
  let st := { st with inR := if cfg.inReg then some x else none }
  let s2new := s1.map (fun x => (preAdd cfg x, x))
  let s2 := if cfg.preReg then st.preR else s2new
  let st := { st with preR := if cfg.preReg then s2new else none }
  let s3new := s2.map (fun p => ((products cfg p.1 p.2).1, (products cfg p.1 p.2).2, p.2))
  let s3 := if cfg.prodReg then st.prodR else s3new
  ({ st with prodR := if cfg.prodReg then s3new else none } |> fun st => (s3, st))

/-- A slice at an edge: the terms advance, and at an enabled edge the accumulator takes them (R247 to R253).
`pcin` and `pcPoison` come from the slice below, before the edge. -/
def sliceEdge (cfg : SliceCfg) (st : SliceState) (x : SliceIn) (pcin : BitVec 64) (pcPoison : Bool) :
    SliceState :=
  match slicePipe cfg st x with
  | (none, st) => { st with ovf := false }
  | (some t, st) =>
    if !x.en then { st with ovf := false }
    else
      let r := accNext cfg st.acc pcin (t.1, t.2.1) t.2.2
      let terms := prodPoison t.2.2 || (cfg.addend == .c && t.2.2.pc) || (cfg.addend == .pcin && pcPoison)
      let poison := if t.2.2.load then terms else st.accPoison || terms
      { st with acc := r.1, accPoison := poison, p := sliceOut cfg r.1, pout := poison, ovf := r.2 }

/-- The slices that the image uses advance at an edge; ZN_SL_OVF and ZN_SL_POISON latch (R248, R253). The
cascade input of a slice at column position 0 is 0 (R252). -/
def Device.slicesEdge (d : Device) (n : Nat) (xs : List SliceIn) : Device :=
  let old := (d.zone n).slices
  let rd (k : Nat) : SliceState := Tab.get (fun _ => SliceState.clear) old k
  (d.image n).slices.foldl (fun d e =>
    let k := e.1
    let below := if k % 16 = 0 then SliceState.clear else rd (k - 1)
    let st := sliceEdge e.2 (rd k) (sliceIn k xs) below.p below.pout
    let d := d.modZone n (fun z => { z with slices := Tab.set (fun _ => SliceState.clear) z.slices k st })
    let d := if st.ovf then d.setFieldBit (F.ZN_SL_OVF_SLICE (zoneUnit n)) k else d
    if st.pout then d.setFieldBit (F.ZN_SL_POISON_SLICE (zoneUnit n)) k else d) d

/-! ## Channels (R206 to R215) -/

/-- The route of outbound endpoint `ep`, if the active plane connects it (R206, R214). -/
def Device.route (d : Device) (n ep : Nat) : Option Route :=
  ((d.image n).routes.find? (fun r => r.1 == ep)).map (·.2)

/-- The source that the active plane's channel frames give inbound endpoint `ep` (R206, R214). -/
def Device.chanSrc (d : Device) (n ep : Nat) : Option ChanSrc :=
  if d.zoneActive n then ((d.image n).ins.find? (fun r => r.1 == ep)).map (·.2) else none

/-- Does the active plane connect inbound endpoint `ep` (R214)? -/
def Device.inUsed (d : Device) (n ep : Nat) : Bool := (d.chanSrc n ep).isSome

/-- The channel exists at its destination: inbound endpoint `e` of zone number `m` takes outbound endpoint `ep` of zone
number `n` for its source (R206). -/
def Device.joined (d : Device) (n ep m e : Nat) : Bool :=
  match d.chanSrc m e with
  | some (.zone z o) => z.val == n % 64 && o.val == ep && zoneDie m == zoneDie n
  | _ => false

/-- The distance between two numbers. -/
def gap (a b : Nat) : Nat := (a - b) + (b - a)

/-- The number of boundaries that a route from zone `z` crosses (R207): the Manhattan distance, unless the image records
a longer route; the die-edge boundary where it ends at a lane quad (R607). -/
def crossings (r : Route) (z : Nat) : Nat :=
  match r.path, r.dst with
  | some p, _ => p.length
  | none, .lane _ _ _ => 1
  | none, .zone t _ => gap (z / 8 % 8) (t.val / 8) + gap (z % 8) (t.val % 8)

/-- The memory whose queue replaces endpoint `ep` of the zone in a mode (R237), if one does. -/
def Device.endpointQueue (d : Device) (n ep : Nat) (mode : QueueMode) : Option Nat :=
  [ep, ep + 16, ep + 32].find? (fun q => (d.memCfg n q).queue == mode)

/-- An outbound endpoint. -/
def Device.outEp (d : Device) (n ep : Nat) : OutEp := Tab.get (fun _ => OutEp.empty) (d.zone n).outs ep
/-- An inbound endpoint. -/
def Device.inEp (d : Device) (n ep : Nat) : InEp := Tab.get (fun _ => InEp.empty) (d.zone n).ins ep
/-- Replace an outbound endpoint. -/
def Device.setOut (d : Device) (n ep : Nat) (e : OutEp) : Device :=
  d.modZone n (fun z => { z with outs := Tab.set (fun _ => OutEp.empty) z.outs ep e })
/-- Replace an inbound endpoint. -/
def Device.setIn (d : Device) (n ep : Nat) (e : InEp) : Device :=
  d.modZone n (fun z => { z with ins := Tab.set (fun _ => InEp.empty) z.ins ep e })

/-- O_READY of an outbound endpoint: connected, and room for a token (R208, R214, R237). Room that came free since the last
edge shows at once (assumption log 135). -/
def Device.oReady (d : Device) (n ep : Nat) : Bool :=
  (d.route n ep).isSome && !(d.zone n).frozen &&
    match d.endpointQueue n ep .channelOut with
    | some q => decide ((d.queue n q).vis < (d.memCfg n q).depth)
    | none => decide ((d.outEp n ep).buf.length < 2)

/-- Tokens move from the outbound buffer into the crossing stages that are free (R208, R211); tokens of an earlier plane
that still travel on the same route hold theirs. -/
def OutEp.advance (e : OutEp) (r : Route) (stages : Nat) : OutEp :=
  let k := stages - e.flight.length - (e.old.filter (fun t => t.1 == r)).length
  { e with flight := e.flight ++ e.buf.take k, buf := e.buf.drop k }

/-- A CHANNEL_OUT queue launches its oldest word into the crossing stages, where one is free (R237, R238). -/
def Device.fillStage (d : Device) (s : Stores) (n ep q : Nat) (r : Route) : Device :=
  let e := d.outEp n ep
  if e.flight.length + (e.old.filter (fun t => t.1 == r)).length < crossings r n
      ∧ 0 < heldWords (d.memCfg n q) (d.queue n q) then
    let y := d.queueLaunch s n q
    y.1.setOut n ep { e with flight := e.flight ++ [BitVec.ofNat 36 y.2] }
  else d

/-- What waits before the crossing stages of outbound endpoint `ep` moves into those that are free: the 2-entry buffer's
tokens, or the words of the CHANNEL_OUT queue that replaces it (R211, R237). -/
def Device.fillStages (d : Device) (s : Stores) (n ep : Nat) : Device :=
  match d.route n ep with
  | none => d
  | some r =>
    match d.endpointQueue n ep .channelOut with
    | some q => (List.range (crossings r n)).foldl (fun d _ => d.fillStage s n ep q r) d
    | none => d.setOut n ep ((d.outEp n ep).advance r (crossings r n))

/-- Is there a token that the active plane's channel of outbound endpoint `ep` can land? -/
def Device.hasToken (d : Device) (n ep : Nat) : Bool :=
  !(d.outEp n ep).flight.isEmpty || !(d.outEp n ep).buf.isEmpty
    || match d.endpointQueue n ep .channelOut with
      | some q => decide (0 < heldWords (d.memCfg n q) (d.queue n q))
      | none => false

/-- Take the oldest token of the channel of outbound endpoint `ep`; what waits behind it moves up. A CHANNEL_OUT queue
feeds the crossing stages in place of the 2-entry buffer (R237). -/
def Device.takeToken (d : Device) (s : Stores) (n ep : Nat) : Device × BitVec 36 :=
  let e := d.outEp n ep
  match e.flight, e.buf with
  | t :: rest, _ => ((d.setOut n ep { e with flight := rest }).fillStages s n ep, t)
  | [], t :: rest => ((d.setOut n ep { e with buf := rest }).fillStages s n ep, t)
  | [], [] =>
    match d.endpointQueue n ep .channelOut with
    | some q => let r := d.queueLaunch s n q; (r.1, BitVec.ofNat 36 r.2)
    | none => (d, 0)

/-- Has inbound endpoint `ep` room for a token (R211, R238)? -/
def Device.inRoom (d : Device) (n ep : Nat) : Bool :=
  match d.endpointQueue n ep .channelIn with
  | some q => decide (heldWords (d.memCfg n q) (d.queue n q) < (d.memCfg n q).depth)
  | none => decide ((d.inEp n ep).buf.length < 4)

/-- Count a discarded token (R404, saturating). -/
def Device.discardIn (d : Device) (n : Nat) : Device := d.inc (F.ZN_SWAP_DISCARD_IN (zoneUnit n))
/-- Count a token discarded from an outbound side (R404). -/
def Device.discardOut (d : Device) (n : Nat) : Device := d.inc (F.ZN_SWAP_DISCARD_OUT (zoneUnit n))

/-- A token lands at inbound endpoint `ep` of zone `n` (R210, R211, R404): discarded while the zone's channels
are frozen, or while tokens launched before a switch edge are awaited (R405); `src` the outbound endpoint that sent it;
`near` within 0.1 ns of an edge, where the capture edge is open. -/
def Device.landAt (d : Device) (s : Stores) (n ep : Nat) (tok : BitVec 36) (near : Bool)
    (src : Option (Nat × Nat) := none) : Device × Stores :=
  let e := d.inEp n ep
  if (d.zone n).frozen || !e.stale.isEmpty then
    let stale := match src with | some a => e.stale.erase a | none => e.stale
    ((d.setIn n ep { e with stale := stale }).discardIn n, s)
  else match d.endpointQueue n ep .channelIn with
    | some q => d.queueLand s n q tok.toNat near
    | none =>
      (d.tick.setIn n ep { e with buf := e.buf ++ [tok], late := near && d.freeBool }, s)

/-- CHANNEL_TOKEN_ACCEPT (R208, R237): an accepted token enters the outbound buffer, or the CHANNEL_OUT queue
that replaces it. -/
def Device.accept (d : Device) (s : Stores) (n ep : Nat) (tok : BitVec 36) : Device × Stores :=
  if !(d.zoneEdges n && decide ((d.zone n).stage = .grr) && d.oReady n ep) then (d, s)
  else
    let e := d.outEp n ep
    match d.endpointQueue n ep .channelOut with
    | some q =>
      let r := d.queueEdge s n q true tok.toNat false false
      ((r.1.setOut n ep { e with count := (e.count + 1) % 2 ^ 32 }).fillStages r.2 n ep, r.2)
    | none =>
      ((d.setOut n ep { e with buf := e.buf ++ [tok], count := (e.count + 1) % 2 ^ 32 }).fillStages s n ep, s)

/-- CHANNEL_TOKEN_DELIVER (R209, R214, R237): the oldest token on I_TAKE while I_VALID is 1. -/
def Device.deliver (d : Device) (s : Stores) (n ep : Nat) : Device × Stores :=
  if !(d.zoneEdges n && decide ((d.zone n).stage = .grr) && d.inUsed n ep) then (d, s)
  else
    let e := d.inEp n ep
    match d.endpointQueue n ep .channelIn with
    | some q =>
      let x := d.queue n q
      if (if (d.memCfg n q).fwft then x.valid else decide (0 < x.vis)) then
        let r := d.queueEdge s n q false 0 false true
        (r.1.setIn n ep { e with count := (e.count + 1) % 2 ^ 32 }, r.2)
      else (d, s)
    | none =>
      if e.offered = 0 then (d, s)
      else (d.setIn n ep
        { e with buf := e.buf.drop 1, offered := e.offered - 1, count := (e.count + 1) % 2 ^ 32 }, s)

/-- The end of an edge for the inbound endpoints: what has landed is captured and offered (R210). -/
def Device.endpointsTick (d : Device) (n : Nat) : Device :=
  d.modZone n (fun z => { z with ins := z.ins.map (fun e =>
    (e.1, { e.2 with offered := e.2.buf.length - b2n e.2.late, late := false })) })

/-- ZN_EP_STALL counts an edge at which a connected endpoint saw O_VALID = 1 with O_READY = 0 (Table 07.8). -/
def Device.stallTick (d : Device) (n : Nat) (oValid : BitVec 16) : Device :=
  if (List.range 16).any (fun ep => oValid.getLsbD ep && (d.route n ep).isSome && !d.oReady n ep) then
    d.inc (F.ZN_EP_STALL_CYCLES (zoneUnit n)) else d

/-! ## The event port (R513) -/

/-- An EVT reaches the event port: buffered while there is room and the zone is configured, else dropped. -/
def Device.eventArrive (d : Device) (n : Nat) (r : Raise) (near : Bool) : Device :=
  if (d.zone n).events.length < 8 ∧ d.zoneActive n then
    d.tick.modZone n (fun z => { z with events := z.events ++ [r], evLate := near && d.freeBool })
  else d.inc (F.ZN_EV_DROP_COUNT (zoneUnit n))

/-- The event port at an edge: EV_TAKE removes the oldest offered event; what has landed is offered next. -/
def Device.eventPortEdge (d : Device) (n : Nat) (take : Bool) : Device :=
  d.modZone n (fun z =>
    let ev := if take && decide (0 < z.evReady) then z.events.drop 1 else z.events
    { z with events := ev, evReady := ev.length - b2n z.evLate, evLate := false })

/-! ## Commands -/

/-- FLIPFLOP_ASYNC_SR (R197, R198): an ASYNC flip-flop takes SRVAL without an edge, once GRR is done. -/
def Device.asyncSr (d : Device) (n cell : Nat) (ff1 : Bool) : Device :=
  let cfg := lookupD cellUnused cell (d.image n).cells
  let f := if ff1 then cfg.ff1 else cfg.ff0
  if f.async && decide ((d.zone n).stage = .grr) then
    d.modZone n (fun z => { z with ffs := ffSet z.ffs (2 * cell + b2n ff1) f.srval })
  else d

/-- FLIPFLOP_ASYNC_SR (R197). -/
def execFlipflopAsyncSr (z : ZoneId) (cell : Fin 20480) (ff1 : Bool) (s : State) :
    Host.Outcome State Fault Refusal :=
  .next (s.on (fun d => d.asyncSr z.no cell.val ff1))

/-- CHANNEL_TOKEN_ACCEPT (R208). -/
def execChannelTokenAccept (z : ZoneId) (ep : Fin 16) (token : BitVec 36) (s : State) :
    Host.Outcome State Fault Refusal :=
  .next (s.onBoth (fun d m => d.accept m z.no ep.val token))

/-- CHANNEL_TOKEN_DELIVER (R209). -/
def execChannelTokenDeliver (z : ZoneId) (ep : Fin 16) (s : State) : Host.Outcome State Fault Refusal :=
  .next (s.onBoth (fun d m => d.deliver m z.no ep.val))

/-- The pace registers at the end of a window (R219, R220): the four sensors' counts, 0 while the reference is
not STABLE; DR_PACE the lowest, DR_PACE_MIN the lowest yet, LOW latched below LOW_LIMIT. A 0 that stands for a reference that
is not STABLE counts for neither (assumption log 136). A fenced die's sensors, and those without VCCINT, do not run. -/
def Device.paceWindow (d : Device) (die : Nat) (q : Nat → Nat) : Device :=
  if d.fenced die || !d.board.vccint then d
  else
    let u := U.DR die
    let ok := d.clk.osc == Osc.STABLE
    let v (k : Nat) : Nat := if ok then q k % 65536 else 0
    let low := min (min (v 0) (v 1)) (min (v 2) (v 3))
    let d := d.setAll [(F.DR_PACE_Q_TOKENS u 0, v 0), (F.DR_PACE_Q_TOKENS u 1, v 1),
      (F.DR_PACE_Q_TOKENS u 2, v 2), (F.DR_PACE_Q_TOKENS u 3, v 3), (F.DR_PACE_TOKENS u, low)]
    if !ok then d
    else
      let d := d.set (F.DR_PACE_MIN_TOKENS u) (min low (d.get (F.DR_PACE_MIN_TOKENS u)))
      if low < d.get (F.DR_PACE_CTL_LOW_LIMIT u) then d.set (F.DR_PACE_STATUS_LOW u) 1 else d

/-- The reference fails: the five pace registers of every die read 0 until the next window under a stable one (R219). -/
def Device.paceLost (d : Device) : Device :=
  d.each fabricDies (fun d k =>
    let u := U.DR k
    d.setAll [(F.DR_PACE_Q_TOKENS u 0, 0), (F.DR_PACE_Q_TOKENS u 1, 0), (F.DR_PACE_Q_TOKENS u 2, 0),
      (F.DR_PACE_Q_TOKENS u 3, 0), (F.DR_PACE_TOKENS u, 0)])

/-- PACE_WINDOW_END (R219, R220): the operands are the sensors' counts. -/
def execPaceWindowEnd (die : Die) (q0 q1 q2 q3 : BitVec 16) (s : State) : Host.Outcome State Fault Refusal :=
  .next (s.on (fun d => d.paceWindow die.no (fun k =>
    if k = 0 then q0.toNat else if k = 1 then q1.toNat else if k = 2 then q2.toNat else q3.toNat)))

/-- DR_PACE_CTL.CLR_MIN (R220). -/
def Device.paceClear (d : Device) (die : Nat) : Device := d.set (F.DR_PACE_MIN_TOKENS (U.DR die)) 0xFFFF

/-- DR_PACE_CLR_MIN (R220). -/
def execDrPaceClrMin (die : Die) (s : State) : Host.Outcome State Fault Refusal :=
  .next (s.on (fun d => if d.refusalsFull die.no then d else d.paceClear die.no))

end Sys2Proof.Machine
end

