-- ==== Sys2Proof/Machine/IoBanks.lean ====
section
/-! DEFINITION. User I/O banks (chapter 20): ownership, configuration from the owner's plane, the hold state, the
enable check, supply classes, delays. Bank number k is (d − 1) × 8 + b. -/

namespace Sys2Proof.Machine

/-- The die of a bank. -/
def bankDie (k : Nat) : Nat := k / 8 + 1
/-- The unit of a bank. -/
def bankUnit (k : Nat) : Nat := U.IOB (bankDie k) (k % 8)
/-- The two zones that a bank borders, as the number of its zone 0 (R516). -/
def bankZone0 (k : Nat) : Nat := (bankDie k - 1) * 64 + (if k % 8 < 4 then 2 * (k % 8) else 48 + 2 * (k % 8))
/-- The zone that owns a bank (R517). -/
def Device.bankZone (d : Device) (k : Nat) : Nat := bankZone0 k + d.get (F.IOB_CTL_OWNER (bankUnit k))

/-- The bank that a zone owns, if it borders one and owns it. -/
def Device.zoneBank (d : Device) (n : Nat) : Option Nat :=
  ((List.range 8).map (fun b => (zoneDie n - 1) * 8 + b)).find? (fun k => d.bankZone k == n)

/-- The pins of a bank. -/
def Device.pins (d : Device) (k : Nat) : BankPins := Tab.get (fun _ => []) d.banks k
/-- The device with the pins of a bank replaced. -/
def Device.setPins (d : Device) (k : Nat) (p : BankPins) : Device :=
  { d with banks := Tab.set (fun _ => []) d.banks k p }
/-- A pin of a bank. -/
def Device.pin (d : Device) (k i : Nat) : PinState := Tab.get (fun _ => PinState.unused) (d.pins k) i
/-- The device with a pin replaced. -/
def Device.setPin (d : Device) (k i : Nat) (p : PinState) : Device :=
  d.setPins k (Tab.set (fun _ => PinState.unused) (d.pins k) i p)

/-- Is a pin the N pin of an LVDS pair, whose configuration has no effect (R520)? -/
def Device.pinIsN (d : Device) (k i : Nat) : Bool := i % 2 == 1 && (d.pin k (i - 1)).cfg.std.val == 5

/-- Does a pin run in SER4 mode (R522, R523)? -/
def pinSer4 (c : PinCfg) : Bool :=
  c.std.val == 5 && ((c.dir.val == 1 && c.imode.val == 2) || (2 ≤ c.dir.val && c.omode.val == 2))

/-- Does a zone's clock serve SER4: on the root with N even and at least 6 (R523)? A clock that is held or gated so, or
stands in a switch from there, still does: its registers hold their level (R524, Table 06.5; assumption log 90). -/
def Device.serOk (d : Device) (n : Nat) : Bool :=
  let st := d.zcState n
  let c := (d.zone n).clk
  let stands := st == Zc.HELD || st == Zc.GATED
  let div := if stands then c.heldDiv else d.get (F.ZN_CLK_STATUS_DIV_NOW (zoneUnit n))
  (st == Zc.ROOT || st == Zc.RIDING || ((stands || st == Zc.SWITCHING) && !c.heldRef && !d.on (F.ZN_CLK_CTL_RAMP (zoneUnit n))))
    && div % 2 == 0 && decide (6 ≤ div)

/-- The pins of a bank that count, in ascending number (R520). -/
def Device.livePins (d : Device) (k : Nat) : List Nat := (List.range 48).filter (fun i => !d.pinIsN k i)

/-- IOB_STATUS.SER_STALL (R523). -/
def Device.serStall (d : Device) (k : Nat) : Bool :=
  (d.livePins k).any (fun i => pinSer4 (d.pin k i).cfg) && !d.serOk (d.bankZone k)

/-- The class of a bank's VCCIO (Table 20.3). -/
def Device.bankClass (d : Device) (k : Nat) : Nat := Tab.get (fun _ => 4) d.board.vclass k
/-- Is a bank's VCCIO good (Table 02.8)? -/
def Device.vccioGood (d : Device) (k : Nat) : Bool := !d.board.vccioBad.contains k

/-- Does the supply's class correspond to the declared VCCIO (R529)? -/
def Device.classOk (d : Device) (k : Nat) : Bool :=
  d.bankClass k == d.get (F.IOB_CTL_VCCIO (bankUnit k)) + 1

/-- Is a bank in the hold state (R525)? A SER4 pair is also held while SER_STALL reads 1. -/
def Device.bankHeld (d : Device) (k : Nat) : Bool :=
  let n := d.bankZone k
  !d.on (F.IOB_CTL_EN (bankUnit k)) || decide ((d.zone n).stage = .none)
    || d.lehrHeld n || decide (3 ≤ d.get (F.ZN_RESET_STATUS_STEP (zoneUnit n)))
    || d.fenced (bankDie k) || d.dormant || d.bankVolt.contains k

/-! ## Configuration from the owner's plane (R518, R519) -/

/-- Take every pin's configuration and delay targets from the image of the owner's plane. -/
def Device.bankImport (d : Device) (k : Nat) : Device :=
  let img := d.image (d.bankZone k)
  d.each (List.range 48) (fun d i =>
    let c := lookupD PinState.unused.cfg i img.pins
    let p := d.pin k i
    d.setPin k i { p with cfg := c, outTgt := c.outTap.val, inTgt := c.inTap.val })

/-- A plane of zone `n` is made active: the bank that it owns takes its configuration (R519). -/
def Device.bankActivate (d : Device) (n : Nat) : Device :=
  match d.zoneBank n with
  | some k => d.bankImport k
  | none => d

/-- The bank at a base load: OWNER by R518 (`own0` and `own1` are the OWN bits of the two zones' planes), the declared
VCCIO and the taps in use from the owner's image. -/
def Device.bankBase (d : Device) (k : Nat) (own0 own1 : Bool) : Device :=
  let u := bankUnit k
  let d := d.set (F.IOB_CTL_OWNER u) (b2n (own1 && !own0))
  let d := d.set (F.IOB_CTL_VCCIO u) (d.image (d.bankZone k)).vccio.val
  let d := d.bankImport k
  d.each (List.range 48) (fun d i =>
    let p := d.pin k i
    d.setPin k i { p with outNow := p.outTgt, inNow := p.inTgt })

/-- GOE of a zone: the registers of the bank that it owns show their init values (R146, R524). -/
def Device.bankGoe (d : Device) (n : Nat) : Device :=
  match d.zoneBank n with
  | none => d
  | some k => d.each (List.range 48) (fun d i =>
      let p := d.pin k i
      if p = .unused then d
      else d.setPin k i { p with o := if p.cfg.outInit then 15 else 0, oe := if p.cfg.oeInit then 3 else 0,
                                 q := 0, hist := 0, slip := 0 })

/-! ## Enabling (R527) -/

/-- Does a pin hold a reserved standard, or one that the declared VCCIO does not permit (Table 20.1)? -/
def pinBadStd (c : PinCfg) (vccio : Nat) : Bool :=
  let s := c.std.val
  decide (6 ≤ s) || (c.dir.val != 0 && ((s == 5 && 2 ≤ c.dir.val && vccio != 3)
    || (1 ≤ s && s ≤ 4 && vccio != 0 && vccio != 2)))

/-- Table 20.2: why EN is refused, with the index. -/
def Device.bankRefusal (d : Device) (k : Nat) : Option (Reason × Nat) :=
  let u := bankUnit k
  let n := d.bankZone k
  if d.fenced (bankDie k) then some (.dieFenced, 0xFF)
  else if !d.zoneActive n then some (.busy, 0xFF)
  else match (d.livePins k).find? (fun i => pinBadStd (d.pin k i).cfg (d.get (F.IOB_CTL_VCCIO u))) with
  | some i => some (.reservedValue, i)
  | none =>
    if !d.vccioGood k || !d.classOk k then some (.bankVoltageMismatch, 0xFF)
    else match (d.livePins k).find? (fun i => pinSer4 (d.pin k i).cfg && !d.serOk n) with
    | some i => some (.divRange, i)
    | none => none

/-- A write of EN = 1 (R527, R629). -/
def Device.bankEnable (d : Device) (k : Nat) : Device :=
  let u := bankUnit k
  if d.on (F.IOB_CTL_EN u) then d
  else match d.bankRefusal k with
  | some (why, i) => d.refuse (F.IOB_REFUSE_REASON u).key why i
  | none => { d.set (F.IOB_CTL_EN u) 1 with bankVolt := d.bankVolt.filter (· != k) }

/-- The device's own enable check of a bank at GOE (R527), which waits while its die's refusal queue is full (R632). -/
def Device.bankCheck (d : Device) (k : Nat) : Device :=
  if d.refusalsFull (bankDie k) then { d with refusals := { d.refusals with checks := d.refusals.checks ++ [k] } }
  else d.bankEnable k

/-- The checks of a die's banks that wait are made, in their order, while its queue has room (R632). -/
def Device.heldChecks (d : Device) (die : Nat) : Device :=
  let l := d.refusals.checks
  let d := { d with refusals := { d.refusals with checks := [] } }
  d.each l (fun d k =>
    if bankDie k = die then d.bankCheck k
    else { d with refusals := { d.refusals with checks := d.refusals.checks ++ [k] } })

/-- IOB_ENABLE (R527): a write of EN = 1 that leaves VCCIO and OWNER as they are. It waits while the die's refusal
queue is full (R632). -/
def execIobEnable (bank : Fin 32) (s : State) : Host.Outcome State Fault Refusal :=
  .next (s.on (fun d => if d.refusalsFull (bankDie bank.val) then d else d.bankEnable bank.val))

/-! ## Supply classes (R528, R529) -/

/-- A bank's VCCIO is classified anew: an enabled bank whose class comes to differ is held, with VMISMATCH and
SUPPLY_WARN. -/
def Device.classChange (d : Device) (k c : Nat) : Device :=
  let was := d.classOk k
  let d := { d with board := { d.board with vclass := Tab.set (fun _ => 4) d.board.vclass k c } }
  if was && !d.classOk k && d.on (F.IOB_CTL_EN (bankUnit k)) then
    let d := { d with bankVolt := if d.bankVolt.contains k then d.bankVolt else k :: d.bankVolt }
    let d := d.set (F.IOB_STATUS_VMISMATCH (bankUnit k)) 1
    if d.silent (bankUnit k) then d else d.raise Ev.SUPPLY_WARN U.MG 0
  else d

/-- VCCIO_CLASS_CHANGE (R528, R529). -/
def execVccioClassChange (bank : Fin 32) (cls : Fin 5) (s : State) : Host.Outcome State Fault Refusal :=
  .next (s.on (fun d => d.classChange bank.val cls.val))

/-- An owner-zone edge: a bank held for its voltage resumes once the classes agree (R529). -/
def Device.bankResume (d : Device) (k : Nat) : Device :=
  if d.classOk k then { d with bankVolt := d.bankVolt.filter (· != k) } else d

/-! ## Delays and calibration (R530 to R532) -/

/-- The reference is STABLE. -/
def Device.refStable (d : Device) : Bool := d.clk.osc == Osc.STABLE

/-- IOB_STATUS.CAL_VALID: the reference has been stable for 200 µs, two calibration intervals (R531). -/
def Device.calValid (d : Device) : Bool := d.refStable && decide (2 ≤ d.calSeen)

/-- IO_CALIBRATION (R531): the scale of every tap follows the reference; the codes stay. -/
def execIoCalibration (s : State) : Host.Outcome State Fault Refusal :=
  .next (s.on (fun d => if d.refStable then { d with calSeen := min 2 (d.calSeen + 1) } else d))

/-- New delay targets for the pin that IOB_PIN_SEL selects (R532). -/
def Device.dlyWrite (d : Device) (k out inp : Nat) : Device :=
  let i := d.get (F.IOB_PIN_SEL_PIN (bankUnit k))
  d.setPin k i { d.pin k i with outTgt := out, inTgt := inp }

/-- IOB_DLY_WRITE (R532). -/
def execIobDlyWrite (bank : Fin 32) (out : Fin 512) (inp : Fin 512) (s : State) : Host.Outcome State Fault Refusal :=
  .next (s.on (fun d => if d.refusalsFull (bankDie bank.val) then d else d.dlyWrite bank.val out.val inp.val))

/-- One tap nearer to a target. -/
def stepTo (now tgt : Nat) : Nat := if now < tgt then now + 1 else if tgt < now then now - 1 else now

/-- Every moving delay of a bank advances one tap. -/
def Device.dlyStep (d : Device) (k : Nat) : Device :=
  d.each ((d.pins k).map (·.1)) (fun d i =>
    let p := d.pin k i
    d.setPin k i { p with outNow := stepTo p.outNow p.outTgt, inNow := stepTo p.inNow p.inTgt })

/-- Does the selected pin's delay still move (IOB_DLY_NOW.MOVING)? -/
def PinState.moving (p : PinState) : Bool := p.outNow != p.outTgt || p.inNow != p.inTgt

/-- IO_DELAY_STEP (R532): a reference cycle passes. -/
def execIoDelayStep (bank : Fin 32) (s : State) : Host.Outcome State Fault Refusal :=
  .next (s.on (fun d => if d.refStable then d.dlyStep bank.val else d))

end Sys2Proof.Machine
end

