-- ==== Sys2Proof/Machine/Planes.lean ====
section
/-! DEFINITION. Planes and frames (chapters 13, 14): plane states and records, stored frames and how they are
judged (R425), boundary records (R397), memory initialisation (R381, R408), making a plane active, the token
rules of a freeze (R404), and the zone-local release. -/

namespace Sys2Proof.Machine

/-! ## Plane states (R392 to R394) -/

namespace Pl
abbrev INVALID : Nat := 0
abbrev STAGING : Nat := 1
abbrev VERIFYING : Nat := 2
abbrev PARISON : Nat := 3
abbrev ACTIVE : Nat := 4
end Pl

/-- The state of plane `p` of zone number `n`. -/
def Device.planeState (d : Device) (n p : Nat) : Nat :=
  d.get (if p = 0 then F.ZN_PLANE_STATE0 (zoneUnit n) else F.ZN_PLANE_STATE1 (zoneUnit n))
/-- Set a plane's state. -/
def Device.setPlaneState (d : Device) (n p st : Nat) : Device :=
  d.set (if p = 0 then F.ZN_PLANE_STATE0 (zoneUnit n) else F.ZN_PLANE_STATE1 (zoneUnit n)) st
/-- The number that ZN_PLANE.ACTIVE gives. -/
def Device.activePlane (d : Device) (n : Nat) : Nat := d.get (F.ZN_PLANE_ACTIVE (zoneUnit n))
/-- The shadow plane: the other one. -/
def Device.shadowPlane (d : Device) (n : Nat) : Nat := 1 - d.activePlane n
/-- The shadow plane's state. -/
def Device.shadowState (d : Device) (n : Nat) : Nat := d.planeState n (d.shadowPlane n)
/-- The personality key of a plane (R393). -/
def Device.planeKey (d : Device) (n p : Nat) : Nat := d.get (F.ZN_PLANE_KEY_KEY (zoneUnit n) p)
/-- INIT_ON_SWAP of a plane (R393). -/
def Device.planeInit (d : Device) (n p : Nat) : Bool :=
  d.on (if p = 0 then F.ZN_PLANE_INIT0 (zoneUnit n) else F.ZN_PLANE_INIT1 (zoneUnit n))
/-- The image of a plane. -/
def Device.planeImage (d : Device) (n p : Nat) : Image := if p = 0 then (d.zone n).img0 else (d.zone n).img1
/-- Record what a load writes with a plane: key, INIT_ON_SWAP, image, kind and header CRC (R393, R430). -/
def Device.recordPlane (d : Device) (n p key : Nat) (ini : Bool) (img : Image) (kind crc : Nat) : Device :=
  let u := zoneUnit n
  let d := d.setAll [(F.ZN_PLANE_KEY_KEY u p, key),
    (if p = 0 then F.ZN_PLANE_INIT0 u else F.ZN_PLANE_INIT1 u, b2n ini)]
  let r : PlaneRec := { kind := kind, crc := crc }
  d.modZone n (fun z => if p = 0 then { z with img0 := img, rec0 := r } else { z with img1 := img, rec1 := r })

/-! ## Frames (Tables 13.6, 13.7, R382) -/

/-- Frames per type (Table 13.7); 0 for a reserved type. -/
def frameCount (t : Nat) : Nat := (([1024, 640, 16, 64, 256, 48] : List Nat)[t]?).getD 0
/-- ZONE of a frame address. -/
def faZone (fa : Nat) : Nat := bits fa 31 26
/-- PLANE of a frame address. -/
def faPlane (fa : Nat) : Nat := bits fa 25 25
/-- INDEX of a frame address. -/
def faIndex (fa : Nat) : Nat := bits fa 24 14
/-- TYPE of a frame address. -/
def faType (fa : Nat) : Nat := bits fa 13 10
/-- A frame address. -/
def faOf (zone plane ty index : Nat) : Nat := zone * 2 ^ 26 + plane * 2 ^ 25 + index * 2 ^ 14 + ty * 2 ^ 10
/-- Does a frame address hold Tables 13.6 and 13.7 (its PLANE and ZONE aside)? -/
def faGood (fa : Nat) : Bool := decide (fa % 1024 = 0) && decide (faIndex fa < frameCount (faType fa))

/-- The type and index of the frame with ordinal 0 to 2,047 of a plane, in frame-address order (R421). -/
def ordFrame (o : Nat) : Nat × Nat :=
  if o < 1024 then (0, o) else if o < 1664 then (1, o - 1024) else if o < 1680 then (2, o - 1664)
  else if o < 1744 then (3, o - 1680) else if o < 2000 then (4, o - 1744) else (5, o - 2000)

/-- The 160 bytes of 20 words, each most significant byte first (R371). -/
def frameBytes (w : List Nat) : List Byte := (w.map (beBytes 8)).flatten

/-- A frame as a zone stop stores it: a check byte per word and the CRC-16 of its bytes (R382). -/
def frameStore (w : List Nat) : Frame :=
  { words := w.map eccEncode, crc := BitVec.ofNat 16 (crc16 (frameBytes w)) }

/-- Word `k` of a frame as stored. -/
def Frame.word (f : Frame) (k : Nat) : Code72 := (f.words[k]?).getD 0
/-- The 20 words after correction. -/
def Frame.data (f : Frame) : List Nat := (List.range 20).map (fun k => (eccDecode (f.word k)).1)
/-- The number of ones among the low `n` bits. -/
def ones : Nat → Nat → Nat
  | 0, _ => 0
  | n + 1, v => v % 2 + ones n (v / 2)
/-- The judgement of a frame (Table 15.1). -/
def Frame.judge (f : Frame) : Judged :=
  let js := (List.range 20).map (fun k => (eccDecode (f.word k)).2)
  let diff := Nat.xor (crc16 (frameBytes f.data)) f.crc.toNat
  if js.any (· == .uncorrectable) then .uncorrectable
  else if js.any (· == .corrected) then (if diff = 0 then .corrected else .uncorrectable)
  else if diff = 0 then .good
  else if ones 16 diff = 1 then .corrected
  else .uncorrectable

/-- The slot of a frame of zone number `n`: plane, type, index. -/
def slotKey (n p t i : Nat) : Nat := n * 65536 + p * 32768 + i * 16 + t

/-- The frame of zone number `n`, plane `p`, with ordinal `o`. -/
def Stores.ordFrame (s : Stores) (n p o : Nat) : Frame :=
  s.frame (slotKey n p (Sys2Proof.Machine.ordFrame o).1 (Sys2Proof.Machine.ordFrame o).2)

/-- A boundary record: 64 channel IDs of boundary `k` of a plane (R397). -/
def Stores.boundary (s : Stores) (n p k : Nat) : List Nat :=
  let w := (s.frame (slotKey n p 3 (60 + k))).data
  (List.range 64).map (fun t => (w[t / 4]?).getD 0 / 2 ^ (16 * (t % 4)) % 65536)

/-- The mirrored record (R398). -/
def mirrored (l : List Nat) : List Nat := l.drop 32 ++ l.take 32

/-! ## Memory initialisation (R381, R408) -/

/-- The USED MEM_INIT frames of a plane: MEM, BLOCK and words 1 to 18. -/
def Stores.memInits (s : Stores) (n p : Nat) : List (Nat × Nat × List Nat) :=
  (List.range 256).filterMap (fun i =>
    let w := (s.frame (slotKey n p 4 i)).data
    let h := (w[0]?).getD 0
    if bit h 63 then some (bits h 5 0, bits h 12 8, w.drop 1) else none)

/-- Row `r` (0 to 15) of a MEM_INIT frame: bits 72r to 72r + 71 of words 1 to 18. -/
def initRow (w : List Nat) (r : Nat) : Nat := w.foldr (fun x a => x % 2 ^ 64 + a * 2 ^ 64) 0 / 2 ^ (72 * r) % 2 ^ 72

/-- All 48 memories zeroed, then the rows that a plane's USED frames name (R381, R408). -/
def Device.memInit (d : Device) (s : Stores) (n p : Nat) : Stores :=
  let s0 := { s with bm := s.bm.zero (bmAddr n 0 0) (bmAddr (n + 1) 0 0) }
  (s.memInits n p).foldl (fun t e =>
    let ecc := (lookupD MemCfg.unused e.1 (d.planeImage n p).mems).ecc
    (List.range 16).foldl (fun t r =>
      let v := initRow e.2.2 r
      t.setRow (bmAddr n e.1 (16 * e.2.1 + r))
        (if ecc then cwToRow (eccEncode (v % 2 ^ 64)) else BitVec.ofNat 72 v)) t) s0

/-! ## Tokens at a freeze (R404, R405) -/

/-- Does a route from a zone of `die` end at inbound endpoint `ep` of zone number `n`? -/
def routeEnds (r : Route) (die n ep : Nat) : Bool :=
  match r.dst with
  | .zone z e => (die - 1) * 64 + z.val == n && e.val == ep
  | .lane _ _ _ => false

/-- The outbound endpoints of the tokens that are launched towards inbound endpoint `ep` of zone number `n`, one entry a
token: those in the crossing stages of its channel, and those of earlier planes that still travel there. -/
def Device.launched (d : Device) (n ep : Nat) : List (Nat × Nat) :=
  (dieZones (zoneDie n)).foldl (fun l m =>
    (List.range 16).foldl (fun l o =>
      let e := d.outEp m o
      let now := match d.route m o with
        | some r => if routeEnds r (zoneDie n) n ep && d.joined m o n ep then e.flight.length else 0
        | none => 0
      let before := (e.old.filter (fun t => routeEnds t.1 (zoneDie n) n ep)).length
      l ++ List.replicate (now + before) (m, o)) l) []

/-- Is the destination of a route inside a set of zones? -/
def routeInside (r : Route) (die : Nat) (set : List Nat) : Bool :=
  match r.dst with
  | .zone z _ => set.contains ((die - 1) * 64 + z.val)
  | .lane _ _ _ => false

/-- The outbound side of one endpoint at the freeze of a set: what is launched, and a buffer that goes outside the set, keep
travelling to where the outgoing plane sent them, behind what still travels from before; a buffer that goes inside the set is
discarded. -/
def Device.freezeOut (d : Device) (set : List Nat) (n ep : Nat) : Device :=
  match d.route n ep with
  | none => d
  | some r =>
    let e := d.outEp n ep
    let ins := routeInside r (zoneDie n) set
    let lost := if ins then e.buf.length else 0
    let on := e.flight ++ (if ins then [] else e.buf)
    let d := d.setOut n ep { e with buf := [], flight := [], old := e.old ++ on.map (fun t => (r, t)) }
    d.each (List.range lost) (fun d _ => d.discardOut n)

/-- The inbound side of one endpoint at a freeze: its buffer is discarded, and the tokens launched before are
awaited (R405). -/
def Device.freezeIn (d : Device) (n ep : Nat) : Device :=
  let e := d.inEp n ep
  let d := d.setIn n ep { e with buf := [], offered := 0, late := false, stale := d.launched n ep }
  d.each (List.range e.buf.length) (fun d _ => d.discardIn n)

/-- The queues of a zone are emptied, the words of channel queues counted as discards (R245, R404). -/
def Device.freezeQueues (d : Device) (n : Nat) : Device :=
  d.each (List.range 48) (fun d q =>
    let c := d.memCfg n q
    let held := heldWords c (d.queue n q)
    let d := if c.queue = .channelOut then d.each (List.range held) (fun d _ => d.discardOut n)
      else if c.queue = .channelIn then d.each (List.range held) (fun d _ => d.discardIn n) else d
    if c.isQueue then d.queueEmpty n q else d)

/-- The freeze of one zone of a set (R404): the discards of this episode are counted anew. The inbound sides
are taken first, so that tokens in flight within the set are still seen. -/
def Device.freeze (d : Device) (n : Nat) : Device :=
  let u := zoneUnit n
  let d := d.setAll [(F.ZN_SWAP_DISCARD_IN u, 0), (F.ZN_SWAP_DISCARD_OUT u, 0)]
  let d := d.each (List.range 16) (fun d ep => d.freezeIn n ep)
  let d := d.modZone n (fun z => { z with frozen := true })
  d.freezeQueues n

/-- The outbound sides of a set, after the inbound ones. -/
def Device.freezeSet (d : Device) (set : List Nat) : Device :=
  let d := d.each set (fun d n => d.freeze n)
  d.each set (fun d n => d.each (List.range 16) (fun d ep => d.freezeOut set n ep))

/-! ## Making a plane active (R198, R245, R254, R407) -/

/-- The thresholds that the image gives its queues. -/
def Device.loadThresholds (d : Device) (n : Nat) : Device :=
  (d.image n).mems.foldl (fun d e => d.setQueue n e.1 { QueueState.empty with ae := e.2.ae, af := e.2.af }) d

/-- The reset of a zone's logic: flip-flops at INIT, queues empty, slices and output registers 0 (R311,
R407). What the crossbar port launched last is open until the first edge (R146). -/
def Device.clearLogic (d : Device) (n : Nat) : Device :=
  let d := d.each ((d.image n).mems.map (·.1)) (fun d q => d.queueEmpty n q)
  let ffs := initFfs (d.image n).cells
  let o := d.freeBelow 65536
  let e := d.tick.freeBelow 65536
  d.tick.tick.modZone n (fun z => { z with ffs := ffs, slices := [], xbOut := o, xbOe := e, xbCap := 0, xbIn := 0 })

/-- The source (true: the reference) and divider on which a zone is released: those that a command asked for before it was
configured (R179), else its image's. -/
def Device.clkAsked (d : Device) (n : Nat) : Bool × Nat :=
  (d.zone n).clk.asked.getD ((d.image n).refClk, (d.image n).div)

/-- Make plane `p` of a zone active: its image takes effect, its logic is reset, its memory ports show 0,
ZN_CLK_CTL shows its clock, and the bank that it owns takes its configuration (R519). -/
def Device.makeActive (d : Device) (n p : Nat) : Device :=
  let u := zoneUnit n
  let d := d.setAll [(F.ZN_PLANE_ACTIVE u, p)]
  let d := d.setPlaneState n p Pl.ACTIVE
  let d := d.modZone n (fun z => { z with ports := [], queues := [] })
  let d := (d.loadThresholds n).clearLogic n
  let c := d.clkAsked n
  (d.setAll [(F.ZN_CLK_CTL_SRC u, b2n c.1), (F.ZN_CLK_CTL_DIV u, c.2)]).bankActivate n

/-- Start a zone's clock at its release as its image or a command before it selects (R179); on the reference where that
is the root and `mayRoot` does not hold or the loop is not LOCKED, which counts as not aligned until a switch to the root
(R136). -/
def Device.startClockIf (d : Device) (mayRoot : Bool) (n : Nat) : Device :=
  let c := d.clkAsked n
  let d := d.modClk n (fun c => { c with asked := none })
  if c.1 then d.zoneOnRef n
  else if mayRoot && d.loopLocked n && d.on F.CK_STATUS_EPOCH_VALID then
    d.zoneOnRoot n c.2 (alignedFrom d.clk.epoch c.2 (d.zoneMt n + 1))
  else
    let d := (d.zoneOnRef n).set (F.ZN_CLK_CTL_SRC (zoneUnit n)) 1
    d.modZone n (fun z => { z with noAlign := true })

/-- Start a zone's clock at its release (R136, R179). -/
def Device.startClock (d : Device) (n : Nat) : Device := d.startClockIf true n

/-- Does a zone's clock run, so that its sequences go on (R309, R402)? -/
def Device.clockRuns (d : Device) (n : Nat) : Bool :=
  let st := d.zcState n
  st == Zc.ROOT || st == Zc.REF || st == Zc.RIDING || st == Zc.RAMPING

/-- Set a zone's release stage. -/
def Device.setStage (d : Device) (n : Nat) (st : ReleaseStage) : Device :=
  d.modZone n (fun z => { z with stage := st })

end Sys2Proof.Machine
end

