-- ==== Sys2Proof/Machine/ZoneReset.lean ====
section
/-! DEFINITION. Resetting one zone alone (R306 to R312, Table 10.2). -/

namespace Sys2Proof.Machine

/-- The compute link whose port lies in a zone (R353, R357): the die, where the zone is its link's anchor. -/
def Device.anchored (d : Device) (n : Nat) : Bool :=
  let g := U.PL (zoneDie n - 1)
  decide (n % 64 < 8) && d.on (F.PL_LINK_CTL_EN g) && d.get (F.PL_LINK_CTL_ANCHOR g) == n % 64

/-- Is a zone drained: what its user target port took is answered, and its launched non-posted requests have
responses (Table 10.2, step 1)? -/
def Device.zoneDrained (d : Device) (n : Nat) : Bool :=
  (d.target (zoneStop n)).taken.all (fun p => decide (p.off < 2 ^ 32) || p.cmd == Cmd.EVT)
    && (d.init (zoneStop n)).quiet

/-- Start the drain of a zone. -/
def Device.drain (d : Device) (n : Nat) (on : Bool) : Device :=
  d.setTarget (zoneStop n) { d.target (zoneStop n) with drain := on }

/-- Why a GO is refused (R306). -/
def Device.resetRefusal (d : Device) (n : Nat) : Option Reason :=
  let u := zoneUnit n
  if d.fenced (zoneDie n) then some .dieFenced
  else if d.get (F.ZN_RESET_STATUS_STEP u) ≠ 0 ∨ d.on (F.ZN_SWAP_STATUS_SWAPPING u)
      ∨ d.zcState n = Zc.SWITCHING ∨ d.zcState n = Zc.RAMPING ∨ !d.zoneActive n
      ∨ (d.target (zoneStop n)).iso ≠ 0 then some .busy
  else none

/-- ZN_RESET_CTL.GO (R306, R307): an accepted one starts the drain. -/
def Device.resetGo (d : Device) (n : Nat) (force : Bool) : Device :=
  let u := zoneUnit n
  if d.refusalsFull (zoneDie n) then d
  else
    let d := d.set (F.ZN_RESET_CTL_FORCE u) (b2n force)
    match d.resetRefusal n with
    | some why => d.refuseAt (F.ZN_REFUSE_REASON u) why (F.ZN_RESET_CTL_GO u)
    | none => (d.drain n true).setAll [(F.ZN_RESET_CTL_GO u, 1), (F.ZN_RESET_STATUS_STEP u, 1)]

/-- ZN_RESET_GO (R306, R307). -/
def execZnResetGo (z : ZoneId) (force : Bool) (s : State) : Host.Outcome State Fault Refusal :=
  .next (s.on (fun d => d.resetGo z.no force))

/-- Step 3: the logic is reset, the port's requests are abandoned, tokens discarded (R310, R311). -/
def Device.resetStep3 (d : Device) (n : Nat) : Device :=
  let d := d.abandonPort (zoneStop n)
  let d := if d.anchored n then d.abandonPort (640 + zoneDie n) else d
  ((d.freezeSet [n]).clearLogic n).setStage n .none

/-- Steps 4 and 5: the zone-local release, and the stop's (R307). -/
def Device.resetFinish (d : Device) (n : Nat) : Device :=
  let u := zoneUnit n
  let d := ((d.bankGoe n).setStage n .grr).isoRelease (zoneStop n)
  let d := d.modZone n (fun z => { z with frozen := false })
  d.setAll [(F.ZN_RESET_STATUS_STEP u, 0), (F.ZN_RESET_STATUS_DONE u, 1), (F.ZN_RESET_CTL_GO u, 0)]

/-- Steps 3 to 5 where the zone's clock runs; else the sequence waits at step 3 (R309). -/
def Device.resetGoOn (d : Device) (n : Nat) : Device :=
  if d.clockRuns n ∧ !d.fenced (zoneDie n) then (d.resetStep3 n).resetFinish n else d

/-- Step 2: the stop is isolated with cause RESET (R302), and the steps after it. -/
def Device.resetIsolate (d : Device) (n : Nat) : Device :=
  ((d.isolate (zoneStop n) 1).set (F.ZN_RESET_STATUS_STEP (zoneUnit n)) 3).resetGoOn n

/-- ZONE_RESET_DRAINED (R307, R310 to R312). -/
def execZoneResetDrained (z : ZoneId) (s : State) : Host.Outcome State Fault Refusal :=
  .next (s.on (fun d =>
    if d.get (F.ZN_RESET_STATUS_STEP z.unit) = 1 ∧ d.zoneDrained z.no ∧ !d.fenced z.die.no then d.resetIsolate z.no
    else d))

/-- The drain limit expires (R308): the reset is abandoned with NOT_DRAINED, or forced. -/
def Device.resetLimit (d : Device) (n : Nat) : Device :=
  let u := zoneUnit n
  if d.get (F.ZN_RESET_STATUS_STEP u) ≠ 1 ∨ d.fenced (zoneDie n) then d
  else if d.on (F.ZN_RESET_CTL_FORCE u) then (d.set (F.ZN_RESET_STATUS_FORCED u) 1).resetIsolate n
  else
    let d := (d.drain n false).setAll [(F.ZN_RESET_STATUS_STEP u, 0), (F.ZN_RESET_STATUS_ABANDONED u, 1),
      (F.ZN_RESET_CTL_GO u, 0)]
    let d := d.refuseAt (F.ZN_REFUSE_REASON u) .notDrained (F.ZN_RESET_CTL_GO u)
    d.record (d.mkRecord 0x0F u noPeer)

/-- ZONE_RESET_DRAIN_LIMIT (R308). -/
def execZoneResetDrainLimit (z : ZoneId) (s : State) : Host.Outcome State Fault Refusal :=
  .next (s.on (fun d => d.resetLimit z.no))

/-- ZONE_RESET_CLOCK_RESUME (R309): a reset that waits at step 3 goes on once the clock runs. -/
def execZoneResetClockResume (z : ZoneId) (s : State) : Host.Outcome State Fault Refusal :=
  .next (s.on (fun d => if d.get (F.ZN_RESET_STATUS_STEP z.unit) = 3 then d.resetGoOn z.no else d))

end Sys2Proof.Machine
end

