-- ==== Sys2Proof/Machine/Pool.lean ====
section
/-! DEFINITION. The pool (chapter 12): word accesses on both ports with the code, poison and raw mode, atomics,
bank ownership, starvation, and the compute links. A served request is one step. -/

namespace Sys2Proof.Machine

/-- A word with the bytes of `v` whose enable bit is 1 (byte 0 lowest). -/
def mergeBytes : Nat → Nat → Nat → Nat → Nat
  | 0, _, _, _ => 0
  | n + 1, old, v, en => (if en % 2 = 1 then v else old) % 256 + 256 * mergeBytes n (old / 256) (v / 256) (en / 2)

/-- The bank of a pool word (its address is the byte address ÷ 8; R342). -/
def wordBank (a : Nat) : Nat := a / 2 ^ 18

/-- The unit of the group that a pool word lies in. -/
def wordUnit (a : Nat) : Nat := U.PL (wordBank a / 4)

/-- Is the stream port of a word's bank in raw mode (R334, R336)? -/
def Device.poolRaw (d : Device) (a : Nat) (compute : Bool) : Bool :=
  !compute && d.rawMode (wordUnit a) (wordBank a % 4)

/-- What the judgement of a read of a pool word raises and records (R352). -/
def Device.poolJudge (d : Device) (a : Nat) : Judged → Device
  | .good => d
  | .corrected => d.raise Ev.ECC_CORRECTED (wordUnit a) 0
  | .uncorrectable =>
    let d := d.raise Ev.ECC_UNCORRECTABLE (wordUnit a) 0
    d.record { d.mkRecord 0x09 (wordUnit a) noPeer with addr := a * 8 }

/-- A read of a pool word (R329, R335, R352): in raw mode as stored, with nothing judged or counted. -/
def Device.poolRead (d : Device) (s : Stores) (a : Nat) (compute : Bool) : Device × Nat × Judged :=
  if d.poolRaw a compute then (d, cwData (s.poolRd a), .good)
  else
    let r := eccDecode (s.poolRd a)
    (d.poolJudge a r.2, r.1, r.2)

/-- A codeword is stored through the flip mask of its group (R337). -/
def Device.poolStore (d : Device) (s : Stores) (a : Nat) (w : Code72) : Device × Stores :=
  let f := d.flipApply (wordUnit a) (wordBank a % 4) w
  (f.1, s.poolWr a f.2)

/-- The check byte that a raw write takes (R334): LO for the lower word of a data unit, HI for the upper. -/
def Device.rawCheck (d : Device) (a : Nat) : Nat :=
  if a % 2 = 1 then d.get (F.PL_ECC_CHK_HI (wordUnit a)) else d.get (F.PL_ECC_CHK_LO (wordUnit a))

/-- A write of a pool word under 8 byte enables, with its ring status (R326 to R328, R334, R352). -/
def Device.poolWrite (d : Device) (s : Stores) (a v en : Nat) (poison compute : Bool) : (Device × Stores) × Nat :=
  if en % 256 = 0 then ((d, s), 0)
  else if d.poolRaw a compute then
    (d.poolStore s a (cwOf (mergeBytes 8 (cwData (s.poolRd a)) v en) (d.rawCheck a)), 0)
  else if en % 256 = 255 then (d.poolStore s a (eccStore v poison), 0)
  else
    match d.poolRead s a compute with
    | (d, old, j) =>
      if j = .uncorrectable then ((d, s), 4)
      else (d.poolStore s a (eccStore (mergeBytes 8 old v en) poison), 0)

/-- A data unit read from the pool: the words that BE enables (R329). Raw mode captures the check bytes of the
unit (R335). -/
def Device.poolReadUnit (d : Device) (s : Stores) (a be : Nat) (compute : Bool) : Device × DataUnit :=
  let raw := d.poolRaw a compute
  let r0 : Device × Nat × Judged := if be % 256 = 0 then (d, 0, .good) else d.poolRead s a compute
  let r1 : Device × Nat × Judged := if be / 256 % 256 = 0 then (r0.1, 0, .good) else r0.1.poolRead s (a + 1) compute
  let d := r1.1
  let d := if raw then d.setAll [(F.PL_ECC_RAW_CHK_LO (wordUnit a), cwCheck (s.poolRd a)),
    (F.PL_ECC_RAW_CHK_HI (wordUnit a), cwCheck (s.poolRd (a + 1)))] else d
  (d, { val := BitVec.ofNat 128 (r0.2.1 % 2 ^ 64 + r1.2.1 % 2 ^ 64 * 2 ^ 64),
        poison := decide (r0.2.2 = .uncorrectable) || decide (r1.2.2 = .uncorrectable),
        corrected := decide (r0.2.2 = .corrected) || decide (r1.2.2 = .corrected) })

/-- A data unit written to the pool: the first non-zero status of its two words. -/
def Device.poolWriteUnit (d : Device) (s : Stores) (a be : Nat) (u : DataUnit) (compute : Bool) :
    (Device × Stores) × Nat :=
  let w0 := d.poolWrite s a (u.val.toNat % 2 ^ 64) (be % 256) u.poison compute
  let w1 := w0.1.1.poolWrite w0.1.2 (a + 1) (u.val.toNat / 2 ^ 64) (be / 256 % 256) u.poison compute
  (w1.1, if w0.2 ≠ 0 then w0.2 else w1.2)

/-- `n` data units read from word `a` on. -/
def Device.poolReadUnits (d : Device) (s : Stores) (a be : Nat) (compute : Bool) : Nat → Device × List DataUnit
  | 0 => (d, [])
  | n + 1 =>
    let r := d.poolReadUnit s a be compute
    let q := Device.poolReadUnits r.1 s (a + 2) be compute n
    (q.1, r.2 :: q.2)

/-- Data units written from word `a` on. -/
def Device.poolWriteUnits (d : Device) (s : Stores) (a be : Nat) (compute : Bool) :
    List DataUnit → (Device × Stores) × Nat
  | [] => ((d, s), 0)
  | u :: r =>
    let w := d.poolWriteUnit s a be u compute
    let q := Device.poolWriteUnits w.1.1 w.1.2 (a + 2) be compute r
    (q.1, if w.2 ≠ 0 then w.2 else q.2)

/-- What an atomic that is not performed raises and records (R332, Table 11.4). -/
def Device.atomicFault (d : Device) (u peer : Nat) (p : Packet) : Device :=
  let d := d.raise Ev.POISON_CONSUMED u 0
  let r (d : Device) (k : Nat) : Record := { d.mkRecord k u peer with
    tag := p.tag, cls := p.cls, status := 4, addr := p.addr, addrValid := true }
  let d := d.record (r d 0x0A)
  let d := d.raise Ev.ATOMIC_FAULT u 0
  d.record (r d 0x0B)

/-- An atomic on word `a` (R265, R284, R327, R350): the old value, or status 4. -/
def Device.poolAtomic (d : Device) (s : Stores) (a : Nat) (p : Packet) (operand : Nat) (poison : Bool) (peer : Nat) :
    (Device × Stores) × (Nat × Nat × Bool) :=
  if poison then ((d.atomicFault (wordUnit a) peer p, s), (4, 0, false))
  else
    match d.poolRead s a true with
    | (d, old, j) =>
      if j = .uncorrectable then ((d.atomicFault (wordUnit a) peer p, s), (4, 0, false))
      else
        let v := if p.cmd = Cmd.AADD then (old + operand) % 2 ^ 64 else operand
        (d.poolStore s a (eccStore v false), (0, old, decide (j = .corrected)))

/-- The word that an atomic of a packet names and its operand: the half that BE selects. -/
def atomicHalf (p : Packet) : Nat := if p.be = 0xFF00 then 1 else 0

/-- The bank window of a group performs a request (R343, R345, R352): its status and data units. `compute` is
whether it takes the compute port. -/
def Device.poolServe (d : Device) (s : Stores) (p : Packet) (compute : Bool) (peer : Nat) :
    (Device × Stores) × (Nat × List DataUnit) :=
  match poolBank p.addr with
  | none => ((d, s), (1, []))
  | some n =>
    let a := n * 2 ^ 18 + p.addr % 2 ^ 21 / 8
    if p.cmd = Cmd.RD then
      let r := d.poolReadUnits s a p.be compute p.len
      ((r.1, s), (0, r.2))
    else if p.cmd = Cmd.WR ∨ p.cmd = Cmd.WRN then
      let r := d.poolWriteUnits s a p.be compute p.data
      (r.1, (r.2, []))
    else if p.cmd = Cmd.AADD ∨ p.cmd = Cmd.ASWP then
      match p.data with
      | [] => ((d, s), (6, []))
      | u :: _ =>
        let h := atomicHalf p
        let r := d.poolAtomic s (a + h) p (u.val.toNat / 2 ^ (64 * h) % 2 ^ 64) u.poison peer
        (r.1, (r.2.1, if r.2.1 = 0 then
          [{ val := BitVec.ofNat 128 (r.2.2.1 * 2 ^ (64 * h)), poison := false, corrected := r.2.2.2 }] else []))
    else ((d, s), (5, []))

/-- Does a ring request take the compute port: only HOST's, from stop 1 (R345)? -/
def Device.ringCompute (d : Device) (p : Packet) : Bool :=
  match poolBank p.addr with
  | some n => d.bankOwner n == 1 && decide (p.src = 1)
  | none => false

/-- Does a request access words of a bank: a well-formed one whose command a bank performs (R343)? -/
def Packet.bankWords (p : Packet) : Bool :=
  (poolBank p.addr).isSome && [Cmd.RD, Cmd.WR, Cmd.WRN, Cmd.AADD, Cmd.ASWP].contains p.cmd && !p.malformed

/-! ## Ownership and starvation (R346, R349) -/

/-- Is the owner in force of a bank an enabled cam engine or compute link (R346)? -/
def Device.ownerEnabled (d : Device) (n : Nat) : Bool :=
  let o := d.bankOwner n
  if 2 ≤ o ∧ o ≤ 17 then d.on (F.CAM_ENG_CTL_EN (o - 2))
  else if 18 ≤ o ∧ o ≤ 21 then d.on (F.PL_LINK_CTL_EN (U.PL (o - 18)))
  else false

/-- A write of PL_BANKn_OWNER (R346): it takes effect once the compute queue is empty. -/
def Device.ownerWrite (d : Device) (n v : Nat) : Device :=
  let u := U.PL (n / 4)
  let f := F.PL_BANK_OWNER_OWNER u (n % 4)
  if d.get f = v then d
  else if d.ownerEnabled n then d.refuseAt (F.PL_REFUSE_REASON u) .busy f
  else if 21 < v then d.refuseAt (F.PL_REFUSE_REASON u) .reservedValue f
  else d.set f v

/-- Is a bank's compute queue empty: has its stop accepted no request of its owner's path that the bank has not performed
(R346)? -/
def Device.computeEmpty (d : Device) (n : Nat) : Bool :=
  let t := d.target (16 + n / 4)
  (t.taken ++ t.inq.map (·.2)).all (fun p =>
    !(p.bankWords && poolBank p.addr == some n && d.ringCompute p && !t.finished p))

/-- The owner last written takes effect, once the bank's compute queue is empty (R346). -/
def Device.ownerEffect (d : Device) (n : Nat) : Device :=
  if d.computeEmpty n then
    { d with pool := { d.pool with
        eff := Tab.set (fun _ => 0) d.pool.eff n (d.get (F.PL_BANK_OWNER_OWNER (U.PL (n / 4)) (n % 4))) } }
  else d

/-- PL_BANK_OWNER_WRITE (R346). -/
def execPlBankOwnerWrite (bank : Fin 32) (owner : BitVec 5) (s : State) : Host.Outcome State Fault Refusal :=
  .next (s.on (fun d => d.ownerWrite bank.val owner.toNat))

/-- OWNER_CHANGE_EFFECT (R346). -/
def execOwnerChangeEffect (bank : Fin 32) (s : State) : Host.Outcome State Fault Refusal :=
  .next (s.on (fun d => d.ownerEffect bank.val))

/-- The party that a POOL_STARVE record names (R349). -/
def Device.ownerPeer (d : Device) (n : Nat) : Nat :=
  let o := d.bankOwner n
  if o = 1 then U.HL
  else if 2 ≤ o ∧ o ≤ 17 then U.CAM
  else if 18 ≤ o ∧ o ≤ 21 then zoneUnit (d.linkAnchor (o - 17))
  else noPeer

/-- Does a word of a bank wait at its group's stop for the stream port (R349)? -/
def Device.streamWaits (d : Device) (n : Nat) : Bool :=
  let t := d.target (16 + n / 4)
  (t.taken ++ t.inq.map (·.2)).any (fun p => p.bankWords && poolBank p.addr == some n && !d.ringCompute p)

/-- A bank starves beyond PL_STARVE_LIMIT (R349): once per episode. -/
def Device.starve (d : Device) (n : Nat) : Device :=
  if d.streamWaits n && !d.pool.told.contains n then
    let u := U.PL (n / 4)
    let d := { d with pool := { d.pool with told := n :: d.pool.told } }
    let d := (d.setFieldBit (F.PL_STARVE_STATUS_SEEN u) (n % 4)).raise Ev.POOL_STARVE u 0
    d.record { d.mkRecord 0x12 u (d.ownerPeer n) with addr := n }
  else d

/-- A stream access of a bank ends its starving episode (R349). -/
def Device.starveEnd (d : Device) (n : Nat) : Device :=
  { d with pool := { d.pool with told := d.pool.told.filter (· != n) } }

/-- POOL_STARVE_LIMIT (R349). -/
def execPoolStarveLimit (bank : Fin 32) (s : State) : Host.Outcome State Fault Refusal :=
  .next (s.on (fun d => d.starve bank.val))

/-! ## Stream requests in parts (R348) -/

/-- The byte enables of one word of a data unit. -/
def halfBe (be h : Nat) : Nat := if h = 0 then be % 256 else be / 256 % 256 * 256

/-- A data unit of which the two words were read apart. -/
def mergeUnit (x y : DataUnit) : DataUnit :=
  { val := x.val ||| y.val, poison := x.poison || y.poison, corrected := x.corrected || y.corrected }

/-- How many words a stream request has. -/
def Packet.poolWords (p : Packet) : Nat := 2 * (if p.cmd = Cmd.RD then p.len else p.data.length)

/-- The next word of a stream request is performed at bank `n` (R348). -/
def Device.poolWord (d : Device) (s : Stores) (n : Nat) (x : PoolPart) : (Device × Stores) × PoolPart :=
  let p := x.req
  let a := n * 2 ^ 18 + p.addr % 2 ^ 21 / 8 + 2 * (x.done / 2)
  let be := halfBe p.be (x.done % 2)
  if p.cmd = Cmd.RD then
    let r := d.poolReadUnit s a be false
    let data := match x.done % 2, x.data.getLast? with
      | 1, some u => x.data.dropLast ++ [mergeUnit u r.2]
      | _, _ => x.data ++ [r.2]
    ((r.1, s), { x with done := x.done + 1, data := data })
  else match p.data[x.done / 2]? with
  | none => ((d, s), { x with done := x.done + 1 })
  | some u =>
    let r := d.poolWriteUnit s a be u false
    (r.1, { x with done := x.done + 1, status := if x.status ≠ 0 then x.status else r.2 })

/-- The next words of a stream request are performed. -/
def Device.poolRun (d : Device) (s : Stores) (n : Nat) (x : PoolPart) : Nat → (Device × Stores) × PoolPart
  | 0 => ((d, s), x)
  | k + 1 =>
    let r := d.poolWord s n x
    Device.poolRun r.1.1 r.1.2 n r.2 k

/-- A request of the ring to a bank window is performed, on the port that R345 gives it. -/
def Device.poolRing (d : Device) (s : Stores) (p : Packet) : (Device × Stores) × (Nat × List DataUnit) :=
  let c := d.ringCompute p
  let r := d.poolServe s p c (stopUnit p.src)
  if c || !p.bankWords then r
  else match poolBank p.addr with
    | some n => ((r.1.1.starveEnd n, r.1.2), r.2)
    | none => r

/-! ## Compute links (R353 to R357) -/

/-- A write of PL_LINK_CTL.EN for the link of a die (R356, R629). -/
def Device.linkEnable (d : Device) (die : Nat) (en : Bool) : Device :=
  let u := U.PL (die - 1)
  if !en then
    (d.set (F.PL_LINK_CTL_EN u) 0).when (d.get (F.PL_LINK_STATUS_STATE u) == 1) (·.set (F.PL_LINK_STATUS_STATE u) 0)
  else if d.on (F.PL_LINK_CTL_EN u) then d
  else if d.fenced die then d.refuseAt (F.PL_REFUSE_REASON u) .dieFenced (F.PL_LINK_CTL_EN u)
  else if (List.range 32).all (fun n => d.bankOwner n != 17 + die) then
    d.refuseAt (F.PL_REFUSE_REASON u) .computePortUnassigned (F.PL_LINK_CTL_EN u)
  else (d.set (F.PL_LINK_CTL_EN u) 1).set (F.PL_LINK_STATUS_STATE u) 1

/-- PL_LINK_ENABLE (R356): a write of EN that leaves ANCHOR as it is. -/
def execPlLinkEnable (die : Die) (en : Bool) (s : State) : Host.Outcome State Fault Refusal :=
  .next (s.on (fun d => d.onMck (fun d => d.linkEnable die.no en)))

/-- A fence of a die or a reset of its fabric clears its link (R357): what its port still held is gone, as are the
responses to come. -/
def Device.linkClear (d : Device) (die : Nat) (fence : Bool) : Device :=
  let u := U.PL (die - 1)
  let d := d.setInit (640 + die) .idle
  d.setAll [(F.PL_LINK_CTL_EN u, 0), (F.PL_LINK_STATUS_STATE u, if fence then 2 else 0)]

/-- A launched request of a link is performed at its bank's compute port and answered (R345, R354). -/
def Device.linkLaunch (d : Device) (s : Stores) (die : Nat) : Device × Stores :=
  let k := 640 + die
  if d.mayLaunch k && d.get (F.PL_LINK_STATUS_STATE (U.PL (die - 1))) == 1 then
    match (d.init k).pick with
    | none => (d, s)
    | some r =>
      let x := d.init k
      match x.pickTag 1024 x.nextTag with
      | none => (d, s)
      | some t =>
        let p := mkPacket k (addrKey r.addr) false r.cmd t r.cls r.len 0 r.be r.addr r.data
        let o : Outst := { seq := r.seq, tag := some t, cmd := r.cmd, cls := r.cls, addr := r.addr, resp := none,
                           expired := false, abandoned := false, held := false, who := r.who }
        let d := d.setInit k { x with
          port := x.port.filter (fun q => q.seq != r.seq), out := x.out ++ [o], nextTag := (t + 1) % 1024,
          alt := if r.cls = 1 then true else if r.cls = 2 then false else x.alt }
        if p.malformed then ((d.malformedCount (addrKey r.addr) p).answer k o 6 [], s)
        else
          let q := d.poolServe s p true (zoneUnit (d.linkAnchor die))
          (q.1.1.answer k o q.2.1 q.2.2, q.1.2)
  else (d, s)

/-- LINK_REQUEST (R345, R353 to R355): the anchor zone's logic gives the link a request; it is answered at once,
or goes to its bank's compute port. -/
def execLinkRequest (die : Die) (req : Request) (s : State) : Host.Outcome State Fault Refusal :=
  .next (s.onBoth (fun d m => if d.portRuns (640 + die.no) then
    (d.issue (640 + die.no) req.cmd.toNat req.cls.val req.addr.toNat req.len.toNat req.be.toNat req.data 0).linkLaunch
      m die.no else (d, m)))

/-- PL_DUTYi (Table 12.7): the compute cycles of the last 10 µs of reference time depend on when each access
came, which the manual leaves to the run: a free value from 0 to 1,500. -/
def Device.dutyRead (d : Device) : Nat × Device := (d.freeBelow 1501, d.tick)

end Sys2Proof.Machine
end

