-- ==== Sys2Proof/Machine/Cams.lean ====
section
/-! DEFINITION. The cam engines (chapter 22, R570 to R581): segments and their fetch, provisional chains, retract and
late cancel, set-points, faults, the enable check. -/

namespace Sys2Proof.Machine

/-! ## Reading the table (R570, R571) -/

/-- Does engine `e` own every bank that the pool bytes `lo` to `hi` − 1 touch? -/
def Device.camOwns (d : Device) (e lo hi : Nat) : Bool :=
  decide (lo < hi) && decide (hi ≤ 2 ^ 26)
    && (List.range 32).all (fun n => decide (n < lo / 2 ^ 21) || decide ((hi - 1) / 2 ^ 21 < n) || d.bankOwner n == 2 + e)

/-- The first pool byte of segment `i` of engine `e`. -/
def Device.segAddr (d : Device) (e i : Nat) : Nat := d.get (F.CAM_ENG_TABLE_TABLE e) + 64 * i

/-- Read `n` pool words from word `a` through the compute port: the words, and whether one was uncorrectable. -/
def Device.camWords (d : Device) (s : Stores) : Nat → Nat → Device × List Nat × Bool
  | 0, _ => (d, [], false)
  | n + 1, a =>
    let r := d.poolRead s a true
    let q := Device.camWords r.1 s n (a + 1)
    (q.1, r.2.1 :: q.2.1, decide (r.2.2 = .uncorrectable) || q.2.2)

/-- Does a segment break R571? -/
def segBad (w : List Nat) (tcount : Nat) : Bool :=
  decide (segSpan w = 0) || decide (tcount ≤ segNext w)
    || (segRetract w != 0xFFFF && decide (tcount ≤ segRetract w)) || decide (2 < segTrig w)
    || bit (w.getD 2 0) 11 || decide (bits (w.getD 2 0) 7 0 ≠ 0) || decide (bits (w.getD 3 0) 15 0 ≠ 0)

/-! ## Set-points (R574, R578) -/

/-- A value held in 64 signed bits. -/
def sat64 (i : Int) : Int := clampInt (-(2 ^ 63)) (2 ^ 63 - 1) i

/-- The set-point of a segment at offset `o` (R574); `/` rounds down. -/
def camEvaluate (w : List Nat) (o : Nat) : Int :=
  let u : Int := Int.ofNat (o * 2 ^ 32 / segSpan w)
  let c (k : Nat) : Int := signed 64 (w.getD (4 + k) 0)
  let t := sat64 (c 2 + c 3 * u / 2 ^ 32)
  let t := sat64 (c 1 + t * u / 2 ^ 32)
  let y := sat64 (c 0 + t * u / 2 ^ 32)
  clampInt (-(2 ^ 31)) (2 ^ 31 - 1) ((y + 2 ^ 31) / 2 ^ 32)

/-- The data unit that carries a 64-bit word in its lower or upper half. -/
def halfUnit (v : Nat) (upper : Bool) : DataUnit :=
  { val := BitVec.ofNat 128 (v % 2 ^ 64 * (if upper then 2 ^ 64 else 1)), poison := false, corrected := false }

/-- Send the set-point of engine `e` to its DEST, with the cause of the fault that this meets, if any (R578). -/
def Device.camSend (d : Device) (s : Stores) (e flags : Nat) : (Device × Stores) × Option Nat :=
  let sp := d.get (F.CAM_ENG_SP_SP e)
  let dest := d.get (F.CAM_ENG_CTL_DEST e)
  if dest = 1 then
    let k := d.get (F.CAM_ENG_TARGET_EP e)
    let stop := d.get (F.CAM_ENG_TARGET_DIE e) * 128 + d.get (F.CAM_ENG_TARGET_ZONE e)
    let addr := stop * 2 ^ 38 + 0xF00 + k / 2 * 16
    ((d.issue 35 Cmd.WR 2 addr 1 (if k % 2 = 1 then 0xFF00 else 0x00FF) [halfUnit (sp + flags * 2 ^ 32) (k % 2 == 1)] e,
      s), none)
  else if dest = 2 then
    let i := d.get (F.CAM_ENG_RING_IDX_IDX e)
    let a := d.get (F.CAM_ENG_RING_RING e) + 16 * i
    if !d.camOwns e a (a + 16) then ((d, s), some 4)
    else
      let rec1 := sp + d.get (F.CAM_ENG_STATUS_SEG e) * 2 ^ 32 + flags * 2 ^ 48
      let u : DataUnit := { val := BitVec.ofNat 128 (d.clk.mt % 2 ^ 64 + rec1 * 2 ^ 64), poison := false, corrected := false }
      let d := d.set (F.CAM_ENG_RING_IDX_IDX e) ((i + 1) % d.get (F.CAM_ENG_RING_LEN_LEN e))
      let r := d.poolWriteUnits s (a / 8) 0xFFFF true [u]
      (r.1, if r.2 ≠ 0 then some 2 else none)
  else ((d, s), none)

/-! ## Faults (R580) -/

/-- Engine `e` faults with a cause of Table 22.6 on segment `n`, and enters its hold profile. -/
def Device.camFault (d : Device) (s : Stores) (e cause n : Nat) : Device × Stores :=
  let d := d.setAll [(F.CAM_ENG_STATUS_STATE e, 4), (F.CAM_ENG_STATUS_CAUSE e, cause), (F.CAM_ENG_STATUS_PRED e, 0)]
  let d := d.setCam e { d.cam e with nextSeg := none, retrSeg := none, fetch := [], chain := none }
  let d := (d.setFieldBit F.CAM_FAULT_MAP_ENG e).raise Ev.CAM_SEGMENT_FAULT U.CAM (n % 65536 * 65536 + cause * 16 + e)
  let d := d.record { d.mkRecord 0x11 U.CAM noPeer with addr := n }
  let d := if cause = 1 then
      let d := d.raise Ev.POISON_CONSUMED U.CAM 0
      d.record { d.mkRecord 0x0A U.CAM noPeer with addr := d.segAddr e n }
    else d
  (d.camSend s e 4).1

/-! ## Segments (R572, R573, R576) -/

/-- Which segment a fetch of kind 0 NEXT, 1 RETRACT, 2 START reads. -/
def Device.fetchIndex (d : Device) (e kind : Nat) : Nat :=
  if kind = 0 then segNext (d.cam e).seg
  else if kind = 1 then segRetract (d.cam e).seg
  else d.get (F.CAM_ENG_CTL_START e)

/-- Ask for the fetches of a list of kinds; one outside the owned banks is a fault (Table 22.6). -/
def Device.camAsk (d : Device) (s : Stores) (e : Nat) (kinds : List Nat) : Device × Stores :=
  match kinds.find? (fun k => !d.camOwns e (d.segAddr e (d.fetchIndex e k)) (d.segAddr e (d.fetchIndex e k) + 64)) with
  | some k => d.camFault s e 4 (d.fetchIndex e k)
  | none => (d.setCam e { d.cam e with fetch := kinds }, s)

/-- Engine `e` starts segment `n` with base `base`, in RUN or RETRACT, and asks for what may follow it. -/
def Device.camBegin (d : Device) (s : Stores) (e st n : Nat) (w : List Nat) (base : Nat) : Device × Stores :=
  let d := d.setAll [(F.CAM_ENG_STATUS_STATE e, st), (F.CAM_ENG_STATUS_SEG e, n)]
  let d := d.setCam e { d.cam e with seg := w, base := base, nextSeg := none, retrSeg := none, first := true }
  d.camAsk s e (if segRetract w = 0xFFFF then [0] else [0, 1])

/-- Engine `e` waits for the trigger of segment `n`; a provisional chain before it has ended. -/
def Device.camWait (d : Device) (e n : Nat) (w : List Nat) : Device :=
  let d := d.setAll [(F.CAM_ENG_STATUS_STATE e, 1), (F.CAM_ENG_STATUS_SEG e, n), (F.CAM_ENG_STATUS_PRED e, 0)]
  d.setCam e { d.cam e with seg := w, nextSeg := none, retrSeg := none, fetch := [], chain := none }

/-- The present offset of engine `e`, held at 0 below the base (R572). -/
def Device.camO (d : Device) (e : Nat) : Nat := (d.camOffset e).toNat

/-- COMMITTED latches as a segment of a provisional chain reaches its COMMIT offset (R576). -/
def Device.camCommit (d : Device) (e : Nat) : Device :=
  let c := d.cam e
  if c.chain.isSome && segCommit c.seg != 0xFFFFFF && decide (segCommit c.seg ≤ min (d.camO e) (segSpan c.seg)) then
    d.set (F.CAM_ENG_STATUS_COMMITTED e) 1
  else d

/-- The engine follows its master: COMMIT, and the end of the segment with what follows (R572, R573). A segment that
starts as CHAIN has offset 0, so one that follows another ends no further one: `fuel` 2 is enough. -/
def Device.camEval : Nat → Device → Stores → Nat → Device × Stores
  | 0, d, s, _ => (d, s)
  | fuel + 1, d, s, e =>
    if d.camState e ≠ 2 ∧ d.camState e ≠ 3 then (d, s)
    else
      let d := d.camCommit e
      let w := (d.cam e).seg
      if d.camO e < segSpan w then (d, s)
      else match (d.cam e).nextSeg with
        | none => d.camFault s e 5 (segNext w)
        | some nw =>
          if segTrig nw = 0 then
            let r := d.camBegin s e 2 (segNext w) nw (d.camMaster e)
            Device.camEval fuel r.1 r.2 e
          else (d.camWait e (segNext w) nw, s)

/-- Start a segment and follow the master at once: one whose offset already is at SPAN ends (R573). -/
def Device.camStart (d : Device) (s : Stores) (e st n : Nat) (w : List Nat) (base : Nat) : Device × Stores :=
  let r := d.camBegin s e st n w base
  Device.camEval 2 r.1 r.2 e

/-- The segment START is at hand: it starts at the present position, or waits for its trigger (R573). -/
def Device.camFirst (d : Device) (s : Stores) (e : Nat) (w : List Nat) : Device × Stores :=
  let n := d.get (F.CAM_ENG_CTL_START e)
  if segTrig w = 0 then d.camStart s e 2 n w (d.camMaster e) else (d.camWait e n w, s)

/-- What an output presents now: data in bit 0, OE in bit 1. -/
def Device.camNow (d : Device) (e n : Nat) : Nat :=
  let o := d.sigOut (0x60 + 2 * e + n)
  b2n o.1 + 2 * b2n o.2

/-- PRED rises: the outputs' values of before are kept for gated pins (R550, R576). -/
def Device.camPredict (d : Device) (e ch seq : Nat) : Device :=
  let d := d.setCam e { d.cam e with gate0 := d.camNow e 0, gate1 := d.camNow e 1, chain := some (ch, seq, false) }
  d.setAll [(F.CAM_ENG_STATUS_PRED e, 1), (F.CAM_ENG_STATUS_COMMITTED e, 0), (F.CAM_ENG_SEQ_CHAN e, ch),
    (F.CAM_ENG_SEQ_SEQ e, seq)]

/-- A mark channel's PREDICT (1) or CONFIRM (2) reaches engine `e`, with P_next or EPOS (R573). -/
def Device.camTrigger (kind ch seq value : Nat) (x : Device × Stores) (e : Nat) : Device × Stores :=
  let d := x.1
  let w := (d.cam e).seg
  if d.camState e = 1 ∧ w ≠ [] ∧ segTrig w = kind ∧ segMch w = ch then
    let d := if kind = 1 then d.camPredict e ch seq else d
    d.camStart x.2 e 2 (d.get (F.CAM_ENG_STATUS_SEG e)) w (posAdd value (segOffset w))
  else x

/-- The cancel of a chain that has not committed (R577). -/
def Device.camRetract (d : Device) (s : Stores) (e : Nat) : Device × Stores :=
  let c := d.cam e
  let ri := segRetract c.seg
  let d := (d.inc (F.CAM_ENG_CNT_RETRACT_CNT e)).set (F.CAM_ENG_STATUS_PRED e) 0
  if ri = 0xFFFF then
    let d := d.setAll [(F.CAM_ENG_STATUS_STATE e, 1), (F.CAM_ENG_STATUS_SEG e, d.get (F.CAM_ENG_CTL_START e))]
    (d.setCam e { c with seg := [], chain := none, nextSeg := none, retrSeg := none }).camAsk s e [2]
  else match c.retrSeg with
    | none => d.camFault s e 5 ri
    | some w =>
      let w := w.set 4 (unsigned 64 (signed 32 (d.get (F.CAM_ENG_SP_SP e)) * 2 ^ 32))
      (d.setCam e { c with chain := none }).camStart s e 3 ri w (d.camMaster e)

/-- The confirm or cancel of a prediction reaches engine `e` (R577). -/
def Device.camOutcome (confirm : Bool) (ch seq : Nat) (x : Device × Stores) (e : Nat) : Device × Stores :=
  let d := x.1
  if (d.cam e).chain = some (ch, seq, false) then
    if confirm then
      ((d.setCam e { d.cam e with chain := some (ch, seq, true) }).set (F.CAM_ENG_STATUS_PRED e) 0, x.2)
    else if d.on (F.CAM_ENG_STATUS_COMMITTED e) then
      ((d.inc (F.CAM_ENG_CNT_LATE_CNT e)).raise Ev.MARK_LATE_CANCEL U.CAM (seq * 65536 + e * 256 + ch), x.2)
    else d.camRetract x.2 e
  else x

/-- A fetch completes (R571, R572): the oldest one under way. -/
def Device.camFetched (d : Device) (s : Stores) (e : Nat) : Device × Stores :=
  match (d.cam e).fetch with
  | [] => (d, s)
  | k :: rest =>
    let n := d.fetchIndex e k
    let d := d.setCam e { d.cam e with fetch := rest }
    if !d.camOwns e (d.segAddr e n) (d.segAddr e n + 64) then d.camFault s e 4 n
    else
      let r := d.camWords s 8 (d.segAddr e n / 8)
      let d := r.1
      if r.2.2 then d.camFault s e 1 n
      else if segBad r.2.1 (d.get (F.CAM_ENG_TCOUNT_TCOUNT e)) then d.camFault s e 3 n
      else if k = 0 then (d.setCam e { d.cam e with nextSeg := some r.2.1 }, s)
      else if k = 1 then (d.setCam e { d.cam e with retrSeg := some r.2.1 }, s)
      else d.camFirst s e r.2.1

/-! ## Enable (R581) -/

/-- Table 22.4 in its order, with the START segment as it was read. -/
def Device.camCheck (d : Device) (e : Nat) (w : List Nat) (bad : Bool) : Option Reason :=
  let tc := d.get (F.CAM_ENG_TCOUNT_TCOUNT e)
  let dest := d.get (F.CAM_ENG_CTL_DEST e)
  let tab := d.get (F.CAM_ENG_TABLE_TABLE e)
  let ring := d.get (F.CAM_ENG_RING_RING e)
  let len := d.get (F.CAM_ENG_RING_LEN_LEN e)
  if tc = 0 ∨ d.get (F.CAM_ENG_PERIOD_PERIOD e) = 0 ∨ tc ≤ d.get (F.CAM_ENG_CTL_START e) ∨ dest = 3
      ∨ (dest = 2 ∧ (len = 0 ∨ ring % 16 ≠ 0)) ∨ tab % 64 ≠ 0 then some .reservedValue
  else if !d.camOwns e tab (tab + 64 * tc) || (dest == 2 && !d.camOwns e ring (ring + 16 * len)) then
    some .computePortUnassigned
  else if dest = 1 ∧ d.fenced (d.get (F.CAM_ENG_TARGET_DIE e)) then some .dieFenced
  else if bad then some .tablePoisoned
  else if segBad w tc then some .descriptorInvalid
  else none

/-- EN of engine `e` is written to 1 (R580, R581, R629). The START segment is read where its banks are owned. -/
def Device.camEnable (d : Device) (s : Stores) (e : Nat) : Device × Stores :=
  if d.on (F.CAM_ENG_CTL_EN e) then (d, s)
  else
    let a := d.segAddr e (d.get (F.CAM_ENG_CTL_START e))
    let early := d.camCheck e [2 ^ 40] false
    let r := if early.isNone then d.camWords s 8 (a / 8) else (d, [2 ^ 40], false)
    let d := r.1
    match (if early.isNone then d.camCheck e r.2.1 r.2.2 else early) with
    | some why => (d.refuseAt F.CAM_REFUSE_REASON why (F.CAM_ENG_CTL_EN e), s)
    | none =>
      let d := d.setAll [(F.CAM_ENG_CTL_EN e, 1), (F.CAM_ENG_STATUS_CAUSE e, 0), (F.CAM_ENG_STATUS_COMMITTED e, 0),
        (F.CAM_ENG_STATUS_PRED e, 0)]
      (d.setCam e .idle).camFirst s e r.2.1

/-- EN of engine `e` is written to 0: it idles, but in FAULT it keeps its hold profile until EN is written to 1 (R580). -/
def Device.camDisable (d : Device) (e : Nat) : Device :=
  (d.setAll [(F.CAM_ENG_CTL_EN e, 0), (F.CAM_ENG_STATUS_STATE e, if d.camState e = 4 then 4 else 0),
    (F.CAM_ENG_STATUS_PRED e, 0)]).setCam e .idle

/-- PERIOD has passed: a running engine evaluates and sends (R573, R578). -/
def Device.camPeriod (d : Device) (s : Stores) (e : Nat) : Device × Stores :=
  if (d.camState e = 2 ∨ d.camState e = 3) ∧ d.clk.osc = Osc.STABLE then
    let d := if 0 ≤ d.camOffset e then
        d.set (F.CAM_ENG_SP_SP e) (unsigned 32 (camEvaluate (d.cam e).seg (d.camO e)))
      else d
    let flags := d.get (F.CAM_ENG_STATUS_PRED e) + 2 * b2n (d.cam e).first + 8 * b2n (d.camState e == 3)
    let d := d.setCam e { d.cam e with first := false }
    let r := d.camSend s e flags
    match r.2 with
    | none => r.1
    | some cause => r.1.1.camFault r.1.2 e cause (r.1.1.get (F.CAM_ENG_STATUS_SEG e))
  else (d, s)

/-! ## Commands -/

/-- CAM_ENABLE (R581): a write of EN = 1 that leaves the other fields of CTL as they are. -/
def execCamEnable (eng : Fin 16) (s : State) : Host.Outcome State Fault Refusal :=
  .next (s.onBoth (fun d m => if d.board.mck then d.camEnable m eng.val else (d, m)))

/-- CAM_SEGMENT_FETCHED (R571, R572). -/
def execCamSegmentFetched (eng : Fin 16) (s : State) : Host.Outcome State Fault Refusal :=
  .next (s.onBoth (fun d m => if d.pSvc then d.camFetched m eng.val else (d, m)))

/-- CAM_SETPOINT_PERIOD (R574, R578). -/
def execCamSetpointPeriod (eng : Fin 16) (s : State) : Host.Outcome State Fault Refusal :=
  .next (s.onBoth (fun d m => if d.pSvc then d.camPeriod m eng.val else (d, m)))

end Sys2Proof.Machine
end

