-- ==== Sys2Proof/Machine/Crypto.lean ====
section
/-! DEFINITION. The cryptographic functions that the manual names: AES-256 and AES-256-GCM (R377), SHA-256
(R375, R456), the RFC 3394 key unwrap (R446) and ECDSA P-256 verification (R375, R479). Bytes are lists, big
numbers are `Nat`; recursion is on counts and lists. -/

namespace Sys2Proof.Crypto

/-- Byte `i` of a table packed as one number, byte 0 lowest. -/
def packed (t i : Nat) : Nat := t / 2 ^ (8 * i) % 256

/-- The AES S-box, packed: entry i is byte i. -/
def sbox : Nat :=
  0xC072A49CAFA2D4ADF04759FA7DC982CA76ABD7FE2B670130C56F6BF27B777C63 +
  0x75B227EBE28012079A059618C323C7041531D871F1E5A534CCF73F362693FDB7 * 2 ^ 256 +
  0xCF584C4A39BECB6A5BB1FC20ED00D153842FE329B3D63B52A05A6E1B1A2C8309 * 2 ^ 512 +
  0xD2F3FF1021DAB6BCF5389D928F40A351A89F3C507F02F94585334D43FBAAEFD0 * 2 ^ 768 +
  0xDB0B5EDE14B8EE4688902A22DC4F816073195D643D7EA7C41744975FEC130CCD * 2 ^ 1024 +
  0x08AE7A65EAF4566CA94ED58D6D37C8E779E4959162ACD3C25C2406490A3A32E0 * 2 ^ 1280 +
  0x9E1DC186B95735610EF6034866B53E708A8BBD4B1F74DDE8C6B4A61C2E2578BA * 2 ^ 1536 +
  0x16BB54B00F2D99416842E6BF0D89A18CDF2855CEE9871E9B948ED9691198F8E1 * 2 ^ 1792

/-- The inverse AES S-box, packed. -/
def invSbox : Nat :=
  0xCBE9DEC444438E3487FF2F9B8239E37CFBD7F3819EA340BF38A53630D56A0952 +
  0x25D18B6D49A25B76B224D92866A12E084EC3FA420B954CEE3D23C2A632947B54 * 2 ^ 256 +
  0x849D8DA75746155EDAB9EDFD5048706C92B6655DCC5CA4D41698688664F6F872 * 2 ^ 512 +
  0x6B8A130103BDAFC1020F3FCA8F1E2CD00645B3B80558E4F70AD3BC8C00ABD890 * 2 ^ 768 +
  0x6EDF751CE837F9E28535ADE72274AC9673E6B4F0CECFF297EADC674F4111913A * 2 ^ 1024 +
  0xF45ACD78FEC0DB9A2079D2C64B3E56FC1BBE18AA0E62B76F89C5291D711AF147 * 2 ^ 1280 +
  0xEF9CC9939F7AE52D0D4AB519A97F51605FEC8027591012B131C7078833A8DD1F * 2 ^ 1536 +
  0x7D0C2155631469E126D677BA7E042B17619953833CBBEBC8B0F52AAE4D3BE0A0 * 2 ^ 1792

/-- Multiplication by x in GF(2^8) modulo 0x11B. -/
def xtime (a : Nat) : Nat := if a < 128 then 2 * a else Nat.xor (2 * a) 0x11B

/-- Multiplication in GF(2^8) by the `n` low bits of `b`. -/
def gmul : Nat → Nat → Nat → Nat
  | 0, _, _ => 0
  | n + 1, a, b => Nat.xor (if b % 2 = 1 then a else 0) (gmul n (xtime a) (b / 2))

/-- A byte-wise exclusive or of two lists. -/
def xorBytes : List Nat → List Nat → List Nat
  | a :: r, b :: s => Nat.xor a b :: xorBytes r s
  | _, _ => []

/-- The words of an AES-256 key schedule after the first 8, newest last: `n` more words, from word `i` on.
`prev` is the last word, `w` all words so far. -/
def expand : Nat → Nat → Nat → List (List Nat) → List (List Nat)
  | 0, _, _, w => w
  | n + 1, i, rcon, w =>
    let prev := (w[i - 1]?).getD []
    let t :=
      if i % 8 = 0 then
        match prev.rotateLeft 1 |>.map (packed sbox) with
        | a :: r => Nat.xor a rcon :: r
        | [] => []
      else if i % 8 = 4 then prev.map (packed sbox) else prev
    expand n (i + 1) (if i % 8 = 0 then xtime rcon else rcon) (w ++ [xorBytes ((w[i - 8]?).getD []) t])

/-- The 15 round keys of AES-256, each of 16 bytes. -/
def roundKeys (key : List Nat) : List (List Nat) :=
  let w := expand 52 8 1 (chunks 4 8 key)
  (List.range 15).map (fun r => (slice w (4 * r) 4).flatten)

/-- One output column of a matrix with first row `m` (each next row rotated right). -/
def mixColumn (m : List Nat) (c : List Nat) : List Nat :=
  let dot (row : List Nat) : Nat := (List.zipWith (gmul 8) row c).foldl Nat.xor 0
  [dot m, dot (m.rotateRight 1), dot (m.rotateRight 2), dot (m.rotateRight 3)]

/-- The mixing of the four columns of a state. -/
def mixColumns (m : List Nat) (st : List Nat) : List Nat := ((chunks 4 4 st).map (mixColumn m)).flatten

/-- The state whose byte i is byte `perm[i]`. -/
def permute (perm st : List Nat) : List Nat := perm.map (fun i => (st[i]?).getD 0)

/-- The middle rounds of the cipher. -/
def encRounds : List (List Nat) → List Nat → List Nat
  | [], st => st
  | [k], st => xorBytes (permute [0, 5, 10, 15, 4, 9, 14, 3, 8, 13, 2, 7, 12, 1, 6, 11] (st.map (packed sbox))) k
  | k :: r, st =>
    encRounds r (xorBytes (mixColumns [2, 3, 1, 1]
      (permute [0, 5, 10, 15, 4, 9, 14, 3, 8, 13, 2, 7, 12, 1, 6, 11] (st.map (packed sbox)))) k)

/-- AES-256 of one block, with its round keys. -/
def aesEnc (ks : List (List Nat)) (block : List Nat) : List Nat :=
  match ks with
  | k :: r => encRounds r (xorBytes block k)
  | [] => []

/-- The rounds of the inverse cipher, round keys newest first. -/
def decRounds : List (List Nat) → List Nat → List Nat
  | [], st => st
  | [k], st => xorBytes ((permute [0, 13, 10, 7, 4, 1, 14, 11, 8, 5, 2, 15, 12, 9, 6, 3] st).map (packed invSbox)) k
  | k :: r, st =>
    decRounds r (mixColumns [14, 11, 13, 9]
      (xorBytes ((permute [0, 13, 10, 7, 4, 1, 14, 11, 8, 5, 2, 15, 12, 9, 6, 3] st).map (packed invSbox)) k))

/-- The inverse AES-256 of one block. -/
def aesDec (ks : List (List Nat)) (block : List Nat) : List Nat :=
  match ks.reverse with
  | k :: r => decRounds r (xorBytes block k)
  | [] => []

/-! ## GCM -/

/-- The big-endian number of a list of byte values. -/
def num (l : List Nat) : Nat := l.foldl (fun a b => a * 256 + b) 0

/-- The `n` bytes of a number, most significant first. -/
def toBytes : Nat → Nat → List Nat
  | 0, _ => []
  | n + 1, v => toBytes n (v / 256) ++ [v % 256]

/-- Multiplication in GF(2^128) of GCM, bit 0 the most significant: `n` steps over the bits of `x` from the top. -/
def ghashMul : Nat → Nat → Nat → Nat → Nat
  | 0, _, _, z => z
  | n + 1, x, v, z =>
    ghashMul n x (if v % 2 = 1 then Nat.xor (v / 2) (0xE1 * 2 ^ 120) else v / 2)
      (if x / 2 ^ n % 2 = 1 then Nat.xor z v else z)

/-- GHASH over 16-byte blocks, the last padded with zeros. -/
def ghash (h : Nat) (blocks : List (List Nat)) (y : Nat) : Nat :=
  blocks.foldl (fun y b => ghashMul 128 (Nat.xor y (num (b ++ List.replicate (16 - b.length) 0))) h 0) y

/-- The key stream applied to the blocks of a text, from counter `c`. -/
def ctr (ks : List (List Nat)) (nonce : List Nat) : Nat → List (List Nat) → List Nat
  | _, [] => []
  | c, b :: r => xorBytes b (aesEnc ks (nonce ++ toBytes 4 (c % 2 ^ 32))) ++ ctr ks nonce (c + 1) r

/-- AES-256-GCM with a 12-byte nonce: the plaintext, and whether the tag verifies (R377). -/
def gcmOpen (key nonce aad ct tag : List Nat) : List Nat × Bool :=
  let ks := roundKeys key
  let h := num (aesEnc ks (List.replicate 16 0))
  let blocks (l : List Nat) := chunks 16 l.length l
  let y := ghash h (blocks aad) 0
  let y := ghash h (blocks ct) y
  let y := ghash h [toBytes 8 (8 * aad.length) ++ toBytes 8 (8 * ct.length)] y
  let t := xorBytes (toBytes 16 y) (aesEnc ks (nonce ++ [0, 0, 0, 1]))
  (ctr ks nonce 2 (blocks ct), t == tag)

/-! ## SHA-256 -/

/-- The round constants. -/
def shaK : List Nat :=
  [0x428A2F98, 0x71374491, 0xB5C0FBCF, 0xE9B5DBA5, 0x3956C25B, 0x59F111F1, 0x923F82A4, 0xAB1C5ED5] ++
  [0xD807AA98, 0x12835B01, 0x243185BE, 0x550C7DC3, 0x72BE5D74, 0x80DEB1FE, 0x9BDC06A7, 0xC19BF174] ++
  [0xE49B69C1, 0xEFBE4786, 0x0FC19DC6, 0x240CA1CC, 0x2DE92C6F, 0x4A7484AA, 0x5CB0A9DC, 0x76F988DA] ++
  [0x983E5152, 0xA831C66D, 0xB00327C8, 0xBF597FC7, 0xC6E00BF3, 0xD5A79147, 0x06CA6351, 0x14292967] ++
  [0x27B70A85, 0x2E1B2138, 0x4D2C6DFC, 0x53380D13, 0x650A7354, 0x766A0ABB, 0x81C2C92E, 0x92722C85] ++
  [0xA2BFE8A1, 0xA81A664B, 0xC24B8B70, 0xC76C51A3, 0xD192E819, 0xD6990624, 0xF40E3585, 0x106AA070] ++
  [0x19A4C116, 0x1E376C08, 0x2748774C, 0x34B0BCB5, 0x391C0CB3, 0x4ED8AA4A, 0x5B9CCA4F, 0x682E6FF3] ++
  [0x748F82EE, 0x78A5636F, 0x84C87814, 0x8CC70208, 0x90BEFFFA, 0xA4506CEB, 0xBEF9A3F7, 0xC67178F2]

/-- The initial hash value. -/
def shaH : List Nat :=
  [0x6A09E667, 0xBB67AE85, 0x3C6EF372, 0xA54FF53A, 0x510E527F, 0x9B05688C, 0x1F83D9AB, 0x5BE0CD19]

/-- A 32-bit rotation to the right. -/
def rotr (x n : Nat) : Nat := x / 2 ^ n + x % 2 ^ n * 2 ^ (32 - n)

/-- The message schedule: `n` more words, the newest first. -/
def shaSched : Nat → List Nat → List Nat
  | 0, w => w
  | n + 1, w =>
    let g (i : Nat) := (w[i]?).getD 0
    let s0 := Nat.xor (Nat.xor (rotr (g 14) 7) (rotr (g 14) 18)) (g 14 / 2 ^ 3)
    let s1 := Nat.xor (Nat.xor (rotr (g 1) 17) (rotr (g 1) 19)) (g 1 / 2 ^ 10)
    shaSched n ((g 15 + s0 + g 6 + s1) % 2 ^ 32 :: w)

/-- One round on the eight working words. -/
def shaRound (v : List Nat) (kw : Nat) : List Nat :=
  match v with
  | [a, b, c, d, e, f, g, h] =>
    let s1 := Nat.xor (Nat.xor (rotr e 6) (rotr e 11)) (rotr e 25)
    let ch := Nat.xor (Nat.land e f) (Nat.land (2 ^ 32 - 1 - e) g)
    let t1 := h + s1 + ch + kw
    let s0 := Nat.xor (Nat.xor (rotr a 2) (rotr a 13)) (rotr a 22)
    let maj := Nat.xor (Nat.xor (Nat.land a b) (Nat.land a c)) (Nat.land b c)
    [(t1 + s0 + maj) % 2 ^ 32, a, b, c, (d + t1) % 2 ^ 32, e, f, g]
  | _ => v

/-- The compression of one 64-byte block. -/
def shaBlock (h block : List Nat) : List Nat :=
  let w := (shaSched 48 ((chunks 4 16 block).map num).reverse).reverse
  let v := (List.zipWith (· + ·) shaK w).foldl shaRound h
  (List.zipWith (· + ·) h v).map (· % 2 ^ 32)

/-- SHA-256 of a list of bytes: 32 bytes. -/
def sha256 (m : List Nat) : List Nat :=
  let pad := m ++ [0x80] ++ List.replicate ((119 - m.length % 64) % 64) 0 ++ toBytes 8 (8 * m.length)
  (((chunks 64 (m.length / 64 + 2) pad).foldl shaBlock shaH).map (toBytes 4)).flatten

/-! ## RFC 3394 key unwrap -/

/-- The steps of the unwrap, from t = 6n down to 1: A and the blocks R1 to Rn. -/
def unwrapSteps (ks : List (List Nat)) : Nat → List Nat → List (List Nat) → List Nat × List (List Nat)
  | 0, a, r => (a, r)
  | t + 1, a, r =>
    let n := r.length
    let i := t % n
    let b := aesDec ks (xorBytes a (toBytes 8 (t + 1)) ++ (r[i]?).getD [])
    unwrapSteps ks t (b.take 8) (r.set i (b.drop 8))

/-- Unwrap: the key data, and whether the integrity value is A6A6…A6. -/
def unwrap (kek wrapped : List Nat) : List Nat × Bool :=
  let blocks := chunks 8 wrapped.length wrapped
  match blocks with
  | [] => ([], false)
  | a :: r =>
    let out := unwrapSteps (roundKeys kek) (6 * r.length) a r
    (out.2.flatten, out.1 == List.replicate 8 0xA6)

/-! ## ECDSA on P-256 -/

/-- The field prime. -/
def p256 : Nat := 2 ^ 256 - 2 ^ 224 + 2 ^ 192 + 2 ^ 96 - 1
/-- The group order. -/
def n256 : Nat := 0xFFFFFFFF00000000FFFFFFFFFFFFFFFFBCE6FAADA7179E84F3B9CAC2FC632551
/-- The curve constant b. -/
def b256 : Nat := 0x5AC635D8AA3A93E7B3EBBD55769886BC651D06B0CC53B0F63BCE3C3E27D2604B
/-- The base point. -/
def g256 : Nat × Nat :=
  (0x6B17D1F2E12C4247F8BCE6E563A440F277037D812DEB33A0F4A13945D898C296,
   0x4FE342E2FE1A7F9B8EE7EB4A7C0F9E162BCE33576B315ECECBB6406837BF51F5)

/-- `a - b` modulo `m`, for a and b below m. -/
def subm (m a b : Nat) : Nat := (a + m - b) % m

/-- Powers modulo `m` by the `n` low bits of `e`. -/
def powm (m : Nat) : Nat → Nat → Nat → Nat
  | 0, _, _ => 1
  | n + 1, b, e => (if e % 2 = 1 then b else 1) * powm m n (b * b % m) (e / 2) % m

/-- The inverse modulo a prime of 256 bits. -/
def invm (m a : Nat) : Nat := powm m 256 (a % m) (m - 2)

/-- Doubling of a point (X, Y, Z); Z = 0 is the point at infinity. -/
def dbl (p : Nat × Nat × Nat) : Nat × Nat × Nat :=
  let (x, y, z) := p
  let m := p256
  if z = 0 then p
  else
    let yy := y * y % m
    let s := 4 * x * yy % m
    let zz := z * z % m
    let t := 3 * (subm m x zz * ((x + zz) % m)) % m
    let x3 := subm m (t * t % m) (2 * s % m)
    (x3, subm m (t * subm m s x3 % m) (8 * yy * yy % m), 2 * y * z % m)

/-- Addition of two points. -/
def addp (p q : Nat × Nat × Nat) : Nat × Nat × Nat :=
  let m := p256
  let (x1, y1, z1) := p
  let (x2, y2, z2) := q
  if z1 = 0 then q
  else if z2 = 0 then p
  else
    let u1 := x1 * (z2 * z2 % m) % m
    let u2 := x2 * (z1 * z1 % m) % m
    let s1 := y1 * (z2 * z2 % m * z2 % m) % m
    let s2 := y2 * (z1 * z1 % m * z1 % m) % m
    let h := subm m u2 u1
    let r := subm m s2 s1
    if h = 0 then (if r = 0 then dbl p else (1, 1, 0))
    else
      let hh := h * h % m
      let hhh := h * hh % m
      let v := u1 * hh % m
      let x3 := subm m (subm m (r * r % m) hhh) (2 * v % m)
      (x3, subm m (r * subm m v x3 % m) (s1 * hhh % m), h * (z1 * z2 % m) % m)

/-- `k` times a point, over the `n` low bits of `k`, from the top. -/
def mulp (q : Nat × Nat × Nat) : Nat → Nat → Nat × Nat × Nat
  | 0, _ => (1, 1, 0)
  | n + 1, k =>
    let t := dbl (mulp q n (k / 2))
    if k % 2 = 1 then addp t q else t

/-- ECDSA verification on P-256 of a 32-byte digest: signature r || s, public key X || Y. -/
def ecdsaVerify (digest sig pub : List Nat) : Bool :=
  let r := num (sig.take 32)
  let s := num (sig.drop 32)
  let x := num (pub.take 32)
  let y := num (pub.drop 32)
  if r = 0 ∨ n256 ≤ r ∨ s = 0 ∨ n256 ≤ s ∨ p256 ≤ x ∨ p256 ≤ y
      ∨ y * y % p256 ≠ (x * x % p256 * x + subm p256 b256 (3 * x % p256)) % p256 then false
  else
    let w := invm n256 s
    let t := addp (mulp (g256.1, g256.2, 1) 256 (num digest * w % n256)) (mulp (x, y, 1) 256 (r * w % n256))
    let z := invm p256 t.2.2
    t.2.2 != 0 && t.1 * (z * z % p256) % p256 % n256 == r

end Sys2Proof.Crypto
end

