-- ==== Sys2Proof/Machine/Orm.lean ====
section
/-! DEFINITION. The option and record memory (chapter 04): pages and groups, the page write engine, what an
interrupted write leaves, the option slots and the lifetime counters. -/

namespace Sys2Proof.Machine

/-! ## Pages and groups (R88 to R90) -/

/-- A page. -/
def Device.page (d : Device) (p : Nat) : OrmPage := Tab.get (fun _ => OrmPage.blank) d.orm.pages p
/-- The device with a page replaced. -/
def Device.setPage (d : Device) (p : Nat) (x : OrmPage) : Device :=
  { d with orm := { d.orm with pages := Tab.set (fun _ => OrmPage.blank) d.orm.pages p x } }

/-- A group's status (Table 04.1). -/
def groupStatus (w : Code72) : Nat :=
  if w = BitVec.allOnes 72 then 2
  else match (eccDecode w).2 with
    | .good => 0
    | .corrected => 1
    | .uncorrectable => 3

/-- The 8 bytes of a group, byte 0 from data bits 63:56 (R88); all ones where ERASED. -/
def groupBytes (w : Code72) : List Nat :=
  let v := if w = BitVec.allOnes 72 then 2 ^ 64 - 1 else (eccDecode w).1
  (beBytes 8 v).map BitVec.toNat

/-- Group `g` of a page. -/
def OrmPage.group (x : OrmPage) (g : Nat) : Code72 := (x.groups[g]?).getD (BitVec.allOnes 72)

/-- The 64 bytes of a page as its groups read. -/
def OrmPage.bytes (x : OrmPage) : List Nat := ((List.range 8).map (fun g => groupBytes (x.group g))).flatten

/-- The group that 8 bytes program: the first byte highest, with check bytes. -/
def groupOf (b : List Nat) : Code72 := eccEncode (b.foldl (fun a x => a * 256 + x) 0)

/-- The groups that 64 bytes program (Table 04.5, step 3). -/
def groupsOf (b : List Nat) : List Code72 := (List.range 8).map (fun g => groupOf (slice b (8 * g) 8))

/-- ORM_PAGE_INFO for a page (Table 04.11). -/
def OrmPage.info (x : OrmPage) : Nat :=
  (List.range 8).foldl (fun a g => a + groupStatus (x.group g) * 2 ^ (16 + 2 * g)) x.cell

/-- One more cycle: CYCLES saturates at 131,071 (R100). -/
def OrmPage.cycle (x : OrmPage) : OrmPage := { x with cycles := min (x.cycles + 1) 131071 }

/-- The unit's 64-byte buffer ORM_BUF (Table 04.13). -/
def Device.ormBuf (d : Device) : List Nat :=
  ((List.range 16).map (fun i => (beBytes 4 (d.get (F.ORM_BUF_DATA i))).map BitVec.toNat)).flatten

/-! ## Rights that other units grant (R464) -/

/-- Is a debug right in force (Table 17.2)? -/
def Device.right (d : Device) (i : Nat) : Bool :=
  bit (d.get F.DA_RIGHTS_BASELINE) i || bit (d.get F.DA_RIGHTS_GRANTED) i

/-- Is the life cycle SCRAPPED or INVALID? -/
def Device.lcDead (d : Device) : Bool := d.get F.LC_STATUS_STATE == 5 || d.get F.LC_STATUS_STATE == 7

/-! ## Page writes (R97 to R105) -/

/-- Is a page protected from host commits (Table 04.4, R98)? -/
def Device.pageProtected (d : Device) (p : Nat) : Bool :=
  (decide (8 ≤ p) && decide (p ≤ 15)) ||
    (!d.right 6 && (bit d.orm.opt.pageLock p || (decide (p < 8) && d.orm.opt.optLock)))

/-- Why a commit is refused (Table 04.4). Where several rows hold, the reason is the first of this order (assumption log
130). -/
def Device.commitRefusal (d : Device) (p : Nat) : Option Reason :=
  if d.clk.osc ≠ Osc.STABLE then some .noTimebase
  else if d.on F.ORM_STATUS_BUSY then some .busy
  else if d.pageProtected p then some .ormPageProtected
  else if 100000 ≤ (d.page p).cycles then some .ormWearLimit
  else if d.lcDead then some .lcForbids
  else none

/-- Does the engine run any write, host or device (ORM_STATUS.BUSY)? -/
def Device.ormBusy (d : Device) : Bool := d.orm.write.isSome || d.orm.dev.isSome

/-- ORM_STATUS follows the engine (Table 04.9). -/
def Device.ormShow (d : Device) : Device :=
  d.setAll [(F.ORM_STATUS_BUSY, b2n d.ormBusy), (F.ORM_STATUS_DEVICE, b2n d.orm.dev.isSome)]

/-- The engine starts to write a page: the status cell reads WRITING, CYCLES increments (Table 04.5). -/
def Device.writeStart (d : Device) (p : Nat) (bytes : List Nat) : Device :=
  let d := d.setPage p { (d.page p).cycle with cell := 1 }
  { d with orm := { d.orm with write := some (p, bytes) } }

/-- ORM_CMD.GO (R97, R99): the index of a refusal is the page number. -/
def Device.ormCommit (d : Device) (p : Nat) : Device :=
  let d := d.set F.ORM_CMD_PAGE p
  match d.commitRefusal p with
  | some why => d.refuse F.ORM_REFUSE_REASON.key why p
  | none =>
    (d.writeStart p d.ormBuf).setAll [(F.ORM_CMD_GO, 1), (F.ORM_STATUS_BUSY, 1), (F.ORM_STATUS_DEVICE, 0),
      (F.ORM_STATUS_LAST_PAGE, p)]

/-- ORM_COMMIT (R97 to R99). -/
def execOrmCommit (page : BitVec 8) (s : State) : Host.Outcome State Fault Refusal :=
  .next (s.on (fun d => d.onMck (fun d => d.ormCommit page.toNat)))

/-- A page write ends: the groups are programmed and the cell marked DONE; its ORM_TORN bit clears (R105). -/
def Device.writeEnd (d : Device) (p : Nat) (bytes : List Nat) : Device :=
  let d := d.setPage p { (d.page p) with groups := groupsOf bytes, cell := 2 }
  let d := d.clearFieldBit (F.ORM_TORN_TORN (p / 32)) (p % 32)
  { d with orm := { d.orm with write := none } }

/-- The oscillator that ran on for the engine alone stops once the write has ended (R99). -/
def Device.oscRelease (d : Device) : Device :=
  if d.rst.oscStop && !d.ormBusy then
    { d with rst := { d.rst with oscStop := false }, clk := { d.clk with osc := Osc.STOPPED } }
  else d

/-! ## Device writes (R102, R108 to R110, Table 17.8) -/

/-- Cell `c` (0 to 15) of counter `k`: page and group (Table 04.7). -/
def cellPlace (k c : Nat) : Nat × Nat := (9 + 2 * k + c / 8, c % 8)

/-- The journal's bytes (Table 17.8). -/
def journalBytes (source target status count : Nat) : List Nat :=
  let b := (beBytes 4 0x4C434A4E).map BitVec.toNat ++ [1, source, target, status] ++ (beBytes 4 count).map BitVec.toNat
    ++ List.replicate 48 0
  b ++ (beBytes 4 (crc32 (b.map (BitVec.ofNat 8)))).map BitVec.toNat

/-- The page that a device write writes. -/
def OrmDev.page : OrmDev → Nat
  | .journal _ _ _ _ => 8
  | .cell k c _ => (cellPlace k c).1

/-- The engine starts a device write: a journal page is marked WRITING (Table 04.5); a counter page whose first cell it is
counts the erase (R110). -/
def Device.devStart (d : Device) (w : OrmDev) : Device :=
  let x := d.page w.page
  let d := match w with
    | .journal _ _ _ _ => d.setPage 8 { x.cycle with cell := 1 }
    | .cell _ c _ => if c % 8 = 0 then d.setPage w.page x.cycle else d
  { d with orm := { d.orm with dev := some w } }.ormShow

/-- A waiting journal entry starts once the engine is free (R102), on the reference. -/
def Device.ormNext (d : Device) : Device :=
  match d.orm.entry with
  | none => d
  | some w =>
    if d.ormBusy || d.clk.osc != Osc.STABLE then d
    else { d with orm := { d.orm with entry := none } }.devStart w

/-- The life-cycle unit asks for a journal entry. -/
def Device.journalAsk (d : Device) (source target status count : Nat) : Device :=
  { d with orm := { d.orm with entry := some (.journal source target status count) } }.ormNext

/-- Does a journal entry wait or run? -/
def Device.journaling (d : Device) : Bool :=
  d.orm.entry.isSome || (match d.orm.dev with | some (.journal _ _ _ _) => true | _ => false)

/-- What a device write leaves once it has ended: the journal page, DONE; or the cell in its page, erased first where the
cell is the page's first. Counter pages keep status DONE (R108). -/
def Device.devStore (d : Device) (w : OrmDev) : Device :=
  match w with
  | .journal s t st n => d.writeEnd 8 (journalBytes s t st n)
  | .cell k c b =>
    let p := cellPlace k c
    let x := d.page p.1
    let groups := if p.2 = 0 then List.replicate 8 (BitVec.allOnes 72) else x.groups
    d.setPage p.1 { x with groups := groups.set p.2 (groupOf b), cell := 2 }

/-- The device write that runs ends, and the engine is free. -/
def Device.devDone (d : Device) (w : OrmDev) : Device :=
  let d := d.devStore w
  { d with orm := { d.orm with dev := none } }.ormShow

/-- The host commit ends (Table 04.5, step 4). -/
def Device.commitDone (d : Device) : Device :=
  match d.orm.write with
  | none => d
  | some (p, b) =>
    ((d.writeEnd p b).setAll [(F.ORM_CMD_GO, 0), (F.ORM_STATUS_BUSY, 0), (F.ORM_STATUS_RESULT, 1)]).raise
      Ev.ORM_WRITE_DONE U.ORM 0

/-! ## Interrupted writes (R103, R104, R109) -/

/-- A group whose bits an interruption leaves open: those of `w` that are 0 may read 1, as far as an erase toward 0xFF has
come or the programming from 0xFF has not (Table 04.6): free values. A byte that is 0xFF stays 0xFF. -/
def freeGroup (w : Code72) (n : Nat) : Code72 := w ||| cwOf (Config.freeDword n).toNat (Config.freeByte n).toNat

/-- Group `g` of a page whose write of `bytes` was interrupted at point `k`: 0 in step 1, 1 in the erase, 2 to 9
while group k − 2 is programmed, 10 in step 4 (Table 04.6). -/
def tornGroup (x : OrmPage) (bytes : List Nat) (k n g : Nat) : Code72 :=
  if k = 0 then x.group g
  else if k = 1 then freeGroup (x.group g) (n + g)
  else if g + 2 < k then groupOf (slice bytes (8 * g) 8)
  else if g + 2 = k then freeGroup (groupOf (slice bytes (8 * g) 8)) (n + g)
  else BitVec.allOnes 72

/-- A page's write stops where it is (R103, R104): the point is open, so it is a free value. The cell keeps reading
WRITING. -/
def Device.tearPage (d : Device) (p : Nat) (bytes : List Nat) : Device :=
  let k := d.freeBelow 11
  let n := d.free + 1
  let x := d.page p
  let d := d.setPage p { x with groups := (List.range 8).map (tornGroup x bytes k n) }
  { d with free := d.free + 9 }

/-- Is a group a valid counter cell (R106)? -/
def cellValid (w : Code72) : Bool :=
  let b := groupBytes w
  decide (groupStatus w ≤ 1) && decide (crc8 ((b.take 7).map (BitVec.ofNat 8)) = (b[7]?).getD 0)

/-- What an interruption makes of the cell being programmed: the new cell, or one that fails its check (R109). -/
def tornCell (w : Code72) (n : Nat) : Code72 :=
  let t := freeGroup w n
  if t = w || !cellValid t then t else BitVec.allOnes 72

/-- What the erase of a counter page leaves of a cell: nothing that holds its check (R109). -/
def erasedCell (w : Code72) (n : Nat) : Code72 :=
  let t := freeGroup w n
  if cellValid t then BitVec.allOnes 72 else t

/-- A counter cell's write stops where it is (R109): in the erase of its page, which destroys the page's cells, or as the
cell is programmed. The increments of that write are lost. -/
def Device.tearCell (d : Device) (k c : Nat) (b : List Nat) : Device :=
  let p := cellPlace k c
  let x := d.page p.1
  let n := d.free + 1
  let groups :=
    if p.2 ≠ 0 then x.groups.set p.2 (tornCell (groupOf b) n)
    else if d.freeBool then (List.range 8).map (fun g => erasedCell (x.group g) (n + g))
    else (List.replicate 8 (BitVec.allOnes 72)).set 0 (tornCell (groupOf b) n)
  let d := d.setPage p.1 { x with groups := groups, cell := 2 }
  { d with free := d.free + 9 }

/-- The write that runs stops where it is (R103, R104, R109). -/
def Device.writeInterrupt (d : Device) : Device :=
  let d := match d.orm.write, d.orm.dev with
    | some (p, b), _ => d.tearPage p b
    | none, some (.journal s t st n) => d.tearPage 8 (journalBytes s t st n)
    | none, some (.cell k c b) => d.tearCell k c b
    | none, none => d
  { d with orm := { d.orm with write := none, dev := none } }

/-- The reference fails while the engine writes (R103). A host commit ends ABORTED; a journal entry waits to be written
again once the reference is back (assumption log 128). -/
def Device.commitAbort (d : Device) : Device :=
  match d.orm.write, d.orm.dev with
  | some _, _ =>
    (d.writeInterrupt.setAll [(F.ORM_CMD_GO, 0), (F.ORM_STATUS_BUSY, 0), (F.ORM_STATUS_RESULT, 2)]).raise
      Ev.ORM_WRITE_DONE U.ORM 0
  | none, some (.journal s t st n) =>
    let d := d.writeInterrupt.ormShow
    { d with orm := { d.orm with entry := some (.journal s t st n) } }
  | none, some (.cell _ _ _) => d.writeInterrupt.ormShow
  | none, none => d

/-! ## Reading the window (R88, R89, R101) -/

/-- Is a page being written, by a host commit or by the device? -/
def Device.ormWriting (d : Device) (p : Nat) : Bool :=
  (match d.orm.write with | some (q, _) => decide (q = p) | none => false)
    || (match d.orm.dev with | some x => decide (x.page = p) | none => false)

/-- The four bytes at window offset `o` (a multiple of 4), none where the group is TORN or its page is being
written, by a host commit (R101) or by the device (assumption log 128). -/
def Device.ormWord (d : Device) (o : Nat) : Option (List Nat) :=
  let p := o / 64 % 256
  let w := (d.page p).group (o % 64 / 8)
  if d.ormWriting p || decide (groupStatus w = 3) then none else some (slice (groupBytes w) (o % 8) 4)

/-! ## Option slots (R91 to R96, R105) -/

/-- A big-endian field of a slot. -/
def optField (b : List Nat) (o n : Nat) : Nat := (slice b o n).foldl (fun a x => a * 256 + x) 0

/-- Does a slot hold a reserved encoding (R91)? A WDOG_TICKS of 0 counts as one (assumption log 129). -/
def optReserved (b : List Nat) : Bool :=
  let f := optField b
  [0x05, 0x06, 0x07, 0x0A, 0x0B, 0x0C, 0x0D].any (fun o => decide (1 < f o 1))
    || decide (f 0x08 2 = 0) || decide (f 0x0E 2 ≠ 0) || decide (f 0x28 8 ≠ 0)
    || decide (f 0x30 32 % 65536 ≠ 0) || decide (f 0x50 0xAC ≠ 0)

/-- The bytes of option slot `s` (0 for A, 1 for B). -/
def Device.optBytes (d : Device) (s : Nat) : List Nat :=
  ((List.range 4).map (fun k => (d.page (4 * s + k)).bytes)).flatten

/-- Why a slot is not valid (Table 04.12), 0 where it is (R93). -/
def Device.optReason (d : Device) (s : Nat) : Nat :=
  let pages := (List.range 4).map (fun k => d.page (4 * s + k))
  let b := d.optBytes s
  if pages.any (fun x => x.cell != 2) then 1
  else if pages.any (fun x => (List.range 8).any (fun g => decide (1 < groupStatus (x.group g)))) then 2
  else if optField b 4 1 ≠ 1 then 3
  else if optField b 0xFC 4 ≠ crc32 ((b.take 0xFC).map (BitVec.ofNat 8)) then 4
  else if optReserved b then 5
  else 0

/-- The options of a valid slot (Table 04.3). -/
def optParse (b : List Nat) : Options :=
  let f := optField b
  let on (o : Nat) : Bool := f o 1 == 1
  { crcOn := on 0x05, wdogOn := on 0x06, present := on 0x07, wdogTicks := f 0x08 2, bridgeReset := on 0x0A,
    autoswap := on 0x0B, vendorDebug := on 0x0C, optLock := on 0x0D, bankHold := f 0x10 8, mioOe := f 0x18 8,
    mioVal := f 0x20 8, pageLock := f 0x30 32 }

/-- The slot in use: 0 A, 1 B, 2 the fuse defaults (R94). -/
def Device.optSlot (d : Device) : Nat :=
  let a := d.optReason 0 = 0
  let b := d.optReason 1 = 0
  if a ∧ b then (if optField (d.optBytes 0) 0 4 < optField (d.optBytes 1) 0 4 then 1 else 0)
  else if a then 0
  else if b then 1
  else 2

/-- The scan of all status cells: ORM_TORN and ORM_TORN_FOUND (R105). -/
def Device.tornScan (d : Device) : Device :=
  let torn := (List.range 256).filter (fun p => (d.page p).cell == 1)
  let d := d.each torn (fun d p => d.setFieldBit (F.ORM_TORN_TORN (p / 32)) (p % 32))
  if (List.range 8).any (fun k => d.get (F.ORM_TORN_TORN k) != 0) then d.raise Ev.ORM_TORN_FOUND U.ORM 0 else d

/-- The slots are read and the result applied (R93 to R96). -/
def Device.applyOptions (d : Device) : Device :=
  let slot := d.optSlot
  let b := d.optBytes slot
  let o := if slot = 2 then Options.fuseDefaults else optParse b
  let d := d.setAll [(F.ORM_OPT_STATUS_A_REASON, d.optReason 0), (F.ORM_OPT_STATUS_B_REASON, d.optReason 1),
    (F.ORM_OPT_STATUS_SLOT, slot), (F.ORM_OPT_SEQ_SEQ, if slot = 2 then 0 else optField b 0 4)]
  { d with orm := { d.orm with opt := o } }.setAll
    [(F.HL_STATUS_CRC_ON, b2n o.crcOn), (F.GAF_STATUS_AUTOSWAP, b2n o.autoswap)]

/-! ## Lifetime counters (R106 to R110) -/

/-- The sequence and value of a cell, none where it is not valid (R106). -/
def Device.lifeCell (d : Device) (k c : Nat) : Option (Nat × Nat) :=
  let p := cellPlace k c
  let w := (d.page p.1).group p.2
  if cellValid w then some (optField (groupBytes w) 0 3, optField (groupBytes w) 3 4) else none

/-- The valid cells of a counter: number, sequence, value. -/
def Device.lifeCells (d : Device) (k : Nat) : List (Nat × Nat × Nat) :=
  (List.range 16).filterMap (fun c => (d.lifeCell k c).map (fun v => (c, v.1, v.2)))

/-- The current cell of a counter: that from which every valid sequence lies less than 2^23 back (R107). None where no
valid cell satisfies that (assumption log 8). -/
def Device.lifeNow (d : Device) (k : Nat) : Option (Nat × Nat × Nat) :=
  let l := d.lifeCells k
  l.find? (fun e => l.all (fun o => decide ((e.2.1 + 2 ^ 24 - o.2.1) % 2 ^ 24 < 2 ^ 23)))

/-- ORM_LIFE: the counter's value (R107). -/
def Device.lifeValue (d : Device) (k : Nat) : Nat := match d.lifeNow k with | some e => e.2.2 | none => 0

/-- Request an increment of a counter (R109). What waits is kept across resets (assumption log 131). -/
def Device.lifeAdd (d : Device) (k delta : Nat) : Device :=
  let n := Tab.get (fun _ => 0) d.orm.incs k + delta
  { d with orm := { d.orm with incs := Tab.set (fun _ => 0) d.orm.incs k n } }

/-- The engine, once free, starts to write the next cell of a counter with the summed delta (R102, R108 to R110). It needs
the reference, as every write (R99). With no current cell the manual gives no sequence to follow: cell 0 with a free
sequence (assumption logs 3 and 8). -/
def Device.lifeWrite (d : Device) (k : Nat) : Device :=
  let delta := Tab.get (fun _ => 0) d.orm.incs k
  if delta = 0 ∨ d.ormBusy ∨ d.clk.osc ≠ Osc.STABLE then d
  else
    let now := d.lifeNow k
    let c := match now with | some e => (e.1 + 1) % 16 | none => 0
    let s := match now with | some e => (e.2.1 + 1) % 2 ^ 24 | none => d.freeBelow (2 ^ 24)
    let v := match now with | some e => (e.2.2 + delta) % 2 ^ 32 | none => delta % 2 ^ 32
    let b := (beBytes 3 s ++ beBytes 4 v)
    let d := d.tick.devStart (.cell k c (b.map BitVec.toNat ++ [crc8 b]))
    { d with orm := { d.orm with incs := Tab.set (fun _ => 0) d.orm.incs k 0 } }

/-- RUN_HOURS_TICK (R108): every 3,600 s of reference time. -/
def execRunHoursTick (s : State) : Host.Outcome State Fault Refusal := .next (s.on (fun d => d.lifeAdd 1 1))

/-- LIFETIME_COUNTER_WRITE (R102, R107 to R110): the cell's write starts; ORM_COMMIT_DONE ends it. -/
def execLifetimeCounterWrite (counter : Fin 3) (s : State) : Host.Outcome State Fault Refusal :=
  .next (s.on (fun d => d.lifeWrite counter.val))

end Sys2Proof.Machine
end

