-- ==== Sys2Proof/Machine/KeyStore.lean ====
section
/-! DEFINITION. The key store (R440 to R454), the TRNG (R455 to R457), and the battery domain (R458 to R463). The
executions of ERASE and of the end of REVOKE, which end the jobs that hold a key, stand in ConfigCmds.lean. -/

namespace Sys2Proof.Machine

/-! ## Slots (R440 to R442) -/

/-- Key slot `c`. -/
def Device.slot (d : Device) (c : Nat) : KeySlot := Tab.get (fun _ => KeySlot.empty) d.keys.slots c
/-- The device with a key slot replaced. -/
def Device.setSlot (d : Device) (c : Nat) (x : KeySlot) : Device :=
  { d with keys := { d.keys with slots := Tab.set (fun _ => KeySlot.empty) d.keys.slots c x } }

/-- Is a slot code FK0 or FK1 (Table 16.1)? -/
def slotFk (c : Nat) : Bool := c == 0 || c == 1
/-- Is a slot code BK0 to BK7 (Table 16.1)? -/
def slotBk (c : Nat) : Bool := decide (0x10 ≤ c) && decide (c ≤ 0x17)
/-- The BK slots. -/
def bkSlots : List Nat := (List.range 8).map (0x10 + ·)

namespace Ks
abbrev EMPTY : Nat := 0
abbrev VALID : Nat := 1
abbrev SUSPECT : Nat := 2
abbrev REVOKED : Nat := 3
abbrev INVALIDATED : Nat := 4
end Ks

/-- The 32 bytes of a key. -/
def keyBytes (k : Nat) : List Nat := Crypto.toBytes 32 k
/-- The key check value of a key (R441). -/
def keyKcv (k : Nat) : Nat :=
  Crypto.num ((Crypto.aesEnc (Crypto.roundKeys (keyBytes k)) (List.replicate 16 0)).take 4)
/-- An attribute word with the CHECK that the engine computes (Table 16.2). -/
def attrFull (a : Nat) : Nat := crc8 (beBytes 3 (a % 2 ^ 24)) * 2 ^ 24 + a % 2 ^ 24
/-- Is a reserved attribute bit set (Table 16.2)? -/
def attrReserved (a : Nat) : Bool := decide (bits a 23 14 ≠ 0) || decide (bits a 7 2 ≠ 0)

/-- May a slot be used for a purpose: 0 CFG, 1 WRAP (R442)? -/
def Device.slotUsable (d : Device) (c purpose : Nat) : Bool :=
  let lc := d.get F.LC_STATUS_STATE
  (d.slot c).state == Ks.VALID && bit (d.slot c).attr purpose && decide (lc ≤ 5) && bit (d.slot c).attr (8 + lc)

/-- Store a key and its attributes in a slot: VALID, with its KCV and CHECK (R441, R443). The use count stays. -/
def Device.storeKey (d : Device) (c key attr : Nat) : Device :=
  d.setSlot c { (d.slot c) with state := Ks.VALID, key := key, attr := attrFull attr, kcv := keyKcv key }

/-! ## Holds (R376, R430, R449) -/

/-- The Gather job of a die. -/
def Device.gjob (d : Device) (die : Nat) : GatherJob := Tab.get (fun _ => GatherJob.none) d.gath die
/-- The device with a Gather job replaced. -/
def Device.setGjob (d : Device) (die : Nat) (j : GatherJob) : Device :=
  { d with gath := Tab.set (fun _ => GatherJob.none) d.gath die j }
/-- The Lehr of a die. -/
def Device.lehrOf (d : Device) (die : Nat) : LehrState := Tab.get (fun _ => LehrState.idle) d.lehr die
/-- The device with a Lehr replaced. -/
def Device.setLehr (d : Device) (die : Nat) (l : LehrState) : Device :=
  { d with lehr := Tab.set (fun _ => LehrState.idle) d.lehr die l }

/-- May a slot be held for configuration: usable, with no deferred rewrite pending on it (R442, R449)? -/
def Device.mayHold (d : Device) (c : Nat) : Bool :=
  d.slotUsable c 0 && (match d.keys.deferred with | some x => x.1 != c | none => true)

/-- One more engine holds a slot. -/
def Device.keyHold (d : Device) (c : Nat) : Device :=
  d.setSlot c { (d.slot c) with use := (d.slot c).use + 1 }

/-- One engine fewer holds a slot; at count 0 a pending deferred rewrite is written (R449). -/
def Device.keyRelease (d : Device) (c : Nat) : Device :=
  let d := d.setSlot c { (d.slot c) with use := (d.slot c).use - 1 }
  match d.keys.deferred with
  | none => d
  | some x =>
    if x.1 = c ∧ (d.slot c).use = 0 then
      let d := { d with keys := { d.keys with deferred := none } }.storeKey c x.2.1 x.2.2
      (d.setAll [(F.KS_STATUS_DEFER_PENDING, 0), (F.KS_STATUS_DEFER_SLOT, 0)]).raise Ev.KEY_DEFERRED_APPLIED U.KS 0
    else d

/-- The engines that hold a slot lose its working copies: KEY_LOST once; each holder is marked (R451, R453). -/
def Device.loseHolders (d : Device) (c : Nat) : Device :=
  if (d.slot c).use = 0 then d
  else
    let d := d.raise Ev.KEY_LOST U.KS 0
    d.each fabricDies (fun d k =>
      let j := d.gjob k
      let d := if j.held.contains c then d.setGjob k { j with lost := true } else d
      let l := d.lehrOf k
      match l.refetch with
      | some r => if r.slot = some c then d.setLehr k { l with refetch := some { r with lost := true } } else d
      | none => d)

/-! ## KS_CMD (R443 to R453) -/

/-- The key in KS_KEY0 to KS_KEY7. -/
def Device.keyBuf (d : Device) : Nat :=
  (List.range 8).foldl (fun a i => a * 2 ^ 32 + d.get (F.KS_KEY_KEY i)) 0
/-- The 48 bytes of KS_WRAP0 to KS_WRAP11. -/
def Device.wrapBuf (d : Device) : List Nat :=
  Crypto.toBytes 48 ((List.range 12).foldl (fun a i => a * 2 ^ 32 + d.get (F.KS_WRAP_WRAP i)) 0)
/-- KS_KEY and KS_WRAP read 0 after every GO (R445). -/
def Device.clearKeyBufs (d : Device) : Device :=
  let d := d.each (List.range 8) (fun d i => d.set (F.KS_KEY_KEY i) 0)
  d.each (List.range 12) (fun d i => d.set (F.KS_WRAP_WRAP i) 0)

/-- The life-cycle states in which an operation is permitted (Table 16.4). -/
def ksPermitted (op lc : Nat) : Bool :=
  if op = 1 then [0, 1, 2, 4].contains lc
  else if op = 2 then [2, 3, 4].contains lc
  else if op = 4 then lc != 5 && lc != 7
  else if op = 5 then lc == 2
  else true

/-- What LOAD_WRAPPED unwraps: key and attribute word, none where the integrity check fails (R446). -/
def Device.unwrapped (d : Device) (wslot : Nat) : Option (Nat × Nat) :=
  let r := Crypto.unwrap (keyBytes (d.slot wslot).key) d.wrapBuf
  let attr := Crypto.num (slice r.1 32 4)
  if r.2 && decide (Crypto.num (slice r.1 36 4) = 0) then some (Crypto.num (r.1.take 32), attr) else none

/-- The attribute word that an operation would store: KS_NEW_ATTR, or the one unwrapped where WRAP_SLOT may unwrap it. -/
def Device.newAttr (d : Device) (op w : Nat) : Option Nat :=
  if op = 1 ∨ op = 5 then some (d.get F.KS_NEW_ATTR_ATTR)
  else if op = 2 ∧ d.slotUsable w 1 then (d.unwrapped w).map (·.2)
  else none

/-- Is a code one of Table 16.1's? -/
def slotCode (c : Nat) : Bool := slotFk c || slotBk c

/-- Table 16.5: why a GO is refused, the first reason in table order. A reserved bit in an unwrapped attribute word counts
in the first row (assumption log 10). -/
def Device.ksRefusal (d : Device) (op c : Nat) (defer : Bool) (w : Nat) : Option Reason :=
  let lc := d.get F.LC_STATUS_STATE
  let load := op == 1 || op == 2
  let kind := if op = 4 ∨ op = 5 then slotFk c else if op = 6 then slotCode c else slotBk c
  if op = 0 ∨ 6 < op ∨ !kind ∨ !slotCode w ∨ (d.newAttr op w).any attrReserved
      ∨ (op = 5 ∧ (d.slot c).state ≠ Ks.EMPTY) then some .reservedValue
  else if !ksPermitted op lc then some .lcForbids
  else if d.clk.osc ≠ Osc.STABLE then some .noTimebase
  else if d.on F.KS_STATUS_BUSY ∨ (defer ∧ d.keys.deferred.isSome) then some .busy
  else if load ∧ 0 < (d.slot c).use ∧ !defer then some .keyInUse
  else if op = 2 ∧ ((d.slot w).state = Ks.EMPTY ∨ (d.slot w).state = Ks.INVALIDATED) then some .keyEmpty
  else if op = 2 ∧ !d.slotUsable w 1 then some .lcForbids
  else if load ∧ d.on F.BG_STATUS_ABSENT then some .batteryAbsent
  else if op = 2 ∧ d.unwrapped w = none then some .descriptorInvalid
  else none

/-- Write a loaded key: at once, or pending where DEFER = 1 and the slot is in use (R449). -/
def Device.loadKey (d : Device) (c : Nat) (defer : Bool) (key attr : Nat) : Device :=
  if defer ∧ 0 < (d.slot c).use then
    { d with keys := { d.keys with deferred := some (c, key, attr) } }.setAll
      [(F.KS_STATUS_DEFER_PENDING, 1), (F.KS_STATUS_DEFER_SLOT, c)]
  else d.storeKey c key attr

/-- Discard the pending deferred rewrite (R450, R452). -/
def Device.dropDeferred (d : Device) : Device :=
  { d with keys := { d.keys with deferred := none } }.setAll
    [(F.KS_STATUS_DEFER_PENDING, 0), (F.KS_STATUS_DEFER_SLOT, 0)]

/-- ERASE: the slot is zeroed and reads EMPTY; its holders lose their copies; a deferred rewrite of it is
discarded (R451, R452). -/
def Device.eraseSlot (d : Device) (c : Nat) : Device :=
  let d := match d.keys.deferred with
    | some x => if x.1 = c then d.dropDeferred.set F.KS_STATUS_DEFER_DISCARDED 1 else d
    | none => d
  (d.setSlot c { KeySlot.empty with use := (d.slot c).use }).loseHolders c

/-- An accepted operation (Table 16.4). FUSE_PROG and REVOKE run on (R447); the others are done at once. -/
def Device.ksDo (d : Device) (op c : Nat) (defer : Bool) (w key attr : Nat) : Device :=
  if op = 1 then d.loadKey c defer key attr
  else if op = 2 then match d.unwrapped w with | some x => d.loadKey c defer x.1 x.2 | none => d
  else if op = 3 then d.eraseSlot c
  else if op = 4 then
    { d with keys := { d.keys with revoke := some c } }.setAll [(F.KS_CMD_GO, 1), (F.KS_STATUS_BUSY, 1)]
  else if op = 5 then
    { d with keys := { d.keys with prog := some (c, key, attr) } }.setAll [(F.KS_CMD_GO, 1), (F.KS_STATUS_BUSY, 1)]
  else d.dropDeferred

/-- A write of KS_CMD with GO (R443 to R446): a refused one changes nothing but the buffers (R444, R445). -/
def Device.ksGo (d : Device) (op c : Nat) (defer : Bool) (w : Nat) : Device :=
  match d.ksRefusal op c defer w with
  | some why =>
    let d := if why = .descriptorInvalid then d.raise Ev.AUTH_FAIL U.KS 0 else d
    (d.refuse F.KS_REFUSE_REASON.key why c).clearKeyBufs
  | none =>
    let d := d.setAll [(F.KS_CMD_OP, op), (F.KS_CMD_DEFER, b2n defer), (F.KS_CMD_WRAP_SLOT, w), (F.KS_CMD_SLOT, c)]
    (d.ksDo op c defer w d.keyBuf (d.get F.KS_NEW_ATTR_ATTR)).clearKeyBufs

/-- KS_LOAD (R441, R443, R444, R445, R449). -/
def execKsLoad (slot : BitVec 5) (defer : Bool) (s : State) : Host.Outcome State Fault Refusal :=
  .next (s.on (fun d => d.onMck (fun d => d.ksGo 1 slot.toNat defer 0)))
/-- KS_LOAD_WRAPPED (R443 to R446, R449). -/
def execKsLoadWrapped (slot : BitVec 5) (defer : Bool) (wrapSlot : BitVec 5) (s : State) :
    Host.Outcome State Fault Refusal :=
  .next (s.on (fun d => d.onMck (fun d => d.ksGo 2 slot.toNat defer wrapSlot.toNat)))
/-- KS_REVOKE (R444, R447, R453). -/
def execKsRevoke (slot : BitVec 5) (s : State) : Host.Outcome State Fault Refusal :=
  .next (s.on (fun d => d.onMck (fun d => d.ksGo 4 slot.toNat false 0)))
/-- KS_FUSE_PROG (R443, R444, R447). -/
def execKsFuseProg (slot : BitVec 5) (s : State) : Host.Outcome State Fault Refusal :=
  .next (s.on (fun d => d.onMck (fun d => d.ksGo 5 slot.toNat false 0)))
/-- KS_CANCEL_DEFER (R444, R450). -/
def execKsCancelDefer (s : State) : Host.Outcome State Fault Refusal :=
  .next (s.on (fun d => d.onMck (fun d => d.ksGo 6 0 false 0)))

/-- The end of the running FUSE_PROG or REVOKE (R443, R447, R453). -/
def Device.ksFuseDone (d : Device) : Device :=
  let off (d : Device) : Device := d.setAll [(F.KS_CMD_GO, 0), (F.KS_STATUS_BUSY, 0)]
  match d.keys.prog, d.keys.revoke with
  | some x, _ => off ({ d with keys := { d.keys with prog := none } }.storeKey x.1 x.2.1 x.2.2)
  | none, some c =>
    let d := { d with keys := { d.keys with revoke := none } }
    off ((d.setSlot c { (d.slot c) with state := Ks.REVOKED }).loseHolders c)
  | none, none => d

/-- A 256-bit free value (assumption log 3). -/
def freeKey (n : Nat) : Nat :=
  (List.range 4).foldl (fun a i => a * 2 ^ 64 + (Config.freeDword (n + i)).toNat) 0

/-- Power fails during FUSE_PROG or REVOKE: the fuses are partly blown, so key, attributes and KCV are free values
and the slot reads INVALIDATED for good; a REVOKE in progress has blown its fuse or not (R447). -/
def Device.ksPowerLost (d : Device) : Device :=
  let d := match d.keys.prog, d.keys.revoke with
    | some x, _ => d.setSlot x.1 { state := Ks.INVALIDATED, key := freeKey d.free,
                                   attr := (Config.freeDword (d.free + 4)).toNat % 2 ^ 32,
                                   kcv := (Config.freeDword (d.free + 5)).toNat % 2 ^ 32, use := 0 }
    | none, some c => if d.freeBool then d.setSlot c { (d.slot c) with state := Ks.REVOKED } else d
    | none, none => d
  { d with free := d.free + 6, keys := { d.keys with prog := none, revoke := none, deferred := none } }

/-! ## The TRNG (R455 to R457) -/

/-- One raw sample through the two health tests (R455): the state after it, and whether a test failed. -/
def TrngState.sample (t : TrngState) (x : Bool) : TrngState × Bool :=
  let run := if t.last = x ∧ 0 < t.run then t.run + 1 else 1
  let fresh := decide (t.seen = 0) || decide (1024 ≤ t.seen)
  let first := if fresh then x else t.first
  let seen := if fresh then 1 else t.seen + 1
  let same := if fresh then 1 else if x = first then t.same + 1 else t.same
  ({ t with last := x, run := run, first := first, seen := seen, same := same },
   decide (41 ≤ run) || decide (840 ≤ same))

/-- Samples one after another: the state after them and whether any test failed. -/
def TrngState.samples : List Bool → TrngState → TrngState × Bool
  | [], t => (t, false)
  | x :: r, t =>
    let a := t.sample x
    let b := TrngState.samples r a.1
    (b.1, a.2 || b.2)

/-- The samples of a number of `n` bits, the first in the highest bit. -/
def sampleBits (n v : Nat) : List Bool := (List.range n).map (fun i => bit v (n - 1 - i))

/-- LEVEL follows the FIFO. -/
def Device.trngLevel (d : Device) : Device := d.set F.TRNG_STATUS_LEVEL d.trng.fifo.length

/-- A health test fails (R457): block and FIFO discarded, FAILED, TRNG_HEALTH; a start test that ran has ended. -/
def Device.trngFail (d : Device) : Device :=
  let d := { d with trng := { d.trng with fifo := [], run := 0, seen := 0, same := 0 } }.trngLevel
  ((d.setAll [(F.TRNG_STATUS_FAILED, 1), (F.TRNG_STATUS_READY, 0), (F.TRNG_CTL_RESTART, 0)]).inc
    F.TRNG_FAIL_CNT_COUNT).raise Ev.TRNG_HEALTH U.TRNG 0

/-- 512 samples: judged, conditioned with SHA-256, and put into the FIFO as far as it has room (R455, R456;
assumption log 11). -/
def Device.trngBlock (d : Device) (samples : Nat) : Device :=
  if !(d.on F.TRNG_CTL_EN && d.on F.TRNG_STATUS_READY && !d.on F.TRNG_STATUS_FAILED) then d
  else
    let t := d.trng.samples (sampleBits 512 samples)
    let d := { d with trng := t.1 }
    if t.2 then d.trngFail
    else
      let words := (chunks 4 8 (Crypto.sha256 (Crypto.toBytes 64 samples))).map Crypto.num
      { d with trng := { d.trng with fifo := (d.trng.fifo ++ words).take 16 } }.trngLevel

/-- TRNG_BLOCK (R455 to R457): samples come while the P-die's service clock runs (R145). -/
def execTrngBlock (samples : BitVec 512) (s : State) : Host.Outcome State Fault Refusal :=
  .next (s.on (fun d => if d.pSvc then d.trngBlock samples.toNat else d))

/-- A read of TRNG_DATA (R456): the oldest word, or 0 with EMPTY_READ; TRNG_DATA keeps the word last read. -/
def Device.trngRead (d : Device) : Device :=
  match d.trng.fifo with
  | [] => d.setAll [(F.TRNG_DATA_DATA, 0), (F.TRNG_STATUS_EMPTY_READ, 1)]
  | w :: r => ({ d with trng := { d.trng with fifo := r } }.set F.TRNG_DATA_DATA w).trngLevel

/-- TRNG_DATA_READ (R456). -/
def execTrngDataRead (s : State) : Host.Outcome State Fault Refusal := .next (s.on Device.trngRead)

/-- TRNG_CTL.RESTART (R457): the start test runs again, also without a failure before it. -/
def Device.trngRestart (d : Device) : Device :=
  let d := { d with trng := { d.trng with run := 0, seen := 0, same := 0 } }
  d.setAll [(F.TRNG_CTL_RESTART, 1), (F.TRNG_STATUS_FAILED, 0), (F.TRNG_STATUS_READY, 0)]

/-- TRNG_RESTART (R457). -/
def execTrngRestart (s : State) : Host.Outcome State Fault Refusal := .next (s.on (fun d => d.onMck Device.trngRestart))

/-- The 1,024 samples of a start test have come (R455): READY, or the test has failed (R457). -/
def Device.trngStart (d : Device) (samples : Nat) : Device :=
  if !d.on F.TRNG_CTL_EN || d.on F.TRNG_STATUS_READY || d.on F.TRNG_STATUS_FAILED then d
  else
    let t := TrngState.samples (sampleBits 1024 samples) { d.trng with run := 0, seen := 0, same := 0 }
    let d := { d with trng := t.1 }
    if t.2 then d.trngFail else d.setAll [(F.TRNG_CTL_RESTART, 0), (F.TRNG_STATUS_READY, 1)]

/-- TRNG_START_TEST_DONE (R455, R457): as TRNG_BLOCK, while the P-die's service clock runs. -/
def execTrngStartTestDone (samples : BitVec 1024) (s : State) : Host.Outcome State Fault Refusal :=
  .next (s.on (fun d => if d.pSvc then d.trngStart samples.toNat else d))

/-! ## The battery (R458 to R463) -/

/-- The gauge state: 0 EMPTY, 1 LOW, 2 OK. -/
def Device.gaugeState (d : Device) : Nat :=
  if d.get F.BG_CHARGE_UC = 0 then 0 else if d.get F.BG_CHARGE_UC < d.get F.BG_LOW_UC then 1 else 2

/-- The case of Table 16.7 that charge and voltage give: 1 to 7 or 10. -/
def Device.batteryCase (d : Device) : Nat :=
  let g := d.gaugeState
  if d.on F.BG_STATUS_ABSENT then 10
  else if d.on F.BG_STATUS_ABOVE_WARN then (if g = 2 then 1 else if g = 1 then 2 else 3)
  else if d.on F.BG_STATUS_ABOVE_KEEP then (if g = 2 then 4 else 5)
  else if g = 2 then 6 else 7

/-- The cases that name BAT_LOW. -/
def caseLow (c : Nat) : Bool := [2, 4, 5, 6, 7].contains c
/-- The cases that name DISAGREE and BAT_DISAGREE. -/
def caseDisagree (c : Nat) : Bool := [3, 4, 6].contains c

/-- An evaluation of the battery state (R462, R463). -/
def Device.batteryEval (d : Device) : Device :=
  let c := d.batteryCase
  let entered := decide (c ≠ d.bat.caseNow)
  let d := { d with bat := { d.bat with caseNow := c } }.set F.BG_STATUS_DISAGREE (b2n (caseDisagree c))
  let d := if entered && caseDisagree c then d.raise Ev.BAT_DISAGREE U.BG 0 else d
  if entered && caseLow c then d.raise Ev.BAT_LOW U.BG 0 else d

/-- The evaluation at step 4 of a start-up, with case 9 (Table 16.7). -/
def Device.batteryStartup (d : Device) : Device :=
  let lost := d.on F.BG_STATUS_DOMAIN_LOST && !d.on F.BG_STATUS_ABSENT
  let fire := lost && !d.bat.lostNoted
  let d := { d with bat := { d.bat with lostNoted := lost } }
  (if fire then d.raise Ev.BAT_LOW U.BG 0 else d).batteryEval

/-- A slot's content where retention is not guaranteed (R458): kept, or free values. -/
def KeySlot.risk (k : KeySlot) (n : Nat) : KeySlot :=
  if k.state = Ks.EMPTY ∨ Config.freeBool n then k
  else { k with key := freeKey n, attr := (Config.freeDword (n + 4)).toNat % 2 ^ 32,
                kcv := (Config.freeDword (n + 5)).toNat % 2 ^ 32 }

/-- The domain's supply falls below 1.2 V: the domain resets (R458): the gauge's registers read 0, with what BG_STATUS
latches of it. -/
def Device.batteryReset (d : Device) : Device :=
  let d := d.each bkSlots (fun d c => d.setSlot c { KeySlot.empty with use := (d.slot c).use })
  d.setAll [(F.BG_CHARGE_UC, 0), (F.BG_CAPACITY_UC, 0), (F.BG_OVERDRAW_UC, 0), (F.BG_LOW_UC, 0),
    (F.BG_STATUS_KEEP_LATCH, 0), (F.BG_STATUS_DISAGREE, 0), (F.BG_STATUS_DOMAIN_LOST, 1)]

/-- What VBAT does to the domain while VCCAUX does not feed it (R40, R458). -/
def Device.batterySupply (d : Device) : Device :=
  if d.board.vccaux then d
  else if d.bat.below12 then d.batteryReset
  else if d.bat.below18 then
    let n := d.free
    { d.each bkSlots (fun d c => d.setSlot c ((d.slot c).risk (n + 6 * (c - 0x10)))) with free := n + 48 }
  else d

/-- VBAT crosses a threshold for 1 µs (R458, R459, R462): 0 VWARN, 1 VKEEP, 2 ABSENT, 3 1.8 V, 4 1.2 V. -/
def Device.vbatCross (d : Device) (which : Nat) (above : Bool) : Device :=
  if which < 3 then
    let d := if which = 0 then d.set F.BG_STATUS_ABOVE_WARN (b2n above)
      else if which = 1 then
        (d.set F.BG_STATUS_ABOVE_KEEP (b2n above)).when (!above && !d.board.vccaux)
          (fun d => d.set F.BG_STATUS_KEEP_LATCH 1)
      else d.set F.BG_STATUS_ABSENT (b2n !above)
    if d.board.vccaux then d.batteryEval else d
  else if which = 3 then
    let d := { d with bat := { d.bat with below18 := !above } }
    if above then d else d.batterySupply
  else
    let d := { d with bat := { d.bat with below12 := !above } }
    if above then d else d.batterySupply

/-- VBAT_CROSSING (R458, R459, R462, R463). -/
def execVbatCrossing (which : Fin 5) (above : Bool) (s : State) : Host.Outcome State Fault Refusal :=
  .next (s.on (fun d => d.vbatCross which.val above))

/-- 1 µC is drawn from VBAT (R460); none arrives while VCCAUX is good. -/
def Device.gaugeQuantum (d : Device) : Device :=
  if d.board.vccaux then d
  else if d.get F.BG_CHARGE_UC = 0 then d.inc F.BG_OVERDRAW_UC
  else d.set F.BG_CHARGE_UC (d.get F.BG_CHARGE_UC - 1)

/-- GAUGE_QUANTUM (R460). -/
def execGaugeQuantum (s : State) : Host.Outcome State Fault Refusal := .next (s.on Device.gaugeQuantum)

/-- A write of BG_CHARGE or BG_LOW, and the evaluation (R462). -/
def Device.gaugeWrite (d : Device) (low : Bool) (v : Nat) : Device :=
  (d.set (if low then F.BG_LOW_UC else F.BG_CHARGE_UC) v).batteryEval

/-- BG_CHARGE_WRITE (R462, R463). -/
def execBgChargeWrite (low : Bool) (v : BitVec 32) (s : State) : Host.Outcome State Fault Refusal :=
  .next (s.on (fun d => d.onMck (fun d => d.gaugeWrite low v.toNat)))

/-- The suspect check after step 5 of a start-up (R461): `osc` whether the step succeeded. -/
def Device.suspectCheck (d : Device) (osc : Bool) : Device :=
  if !d.on F.BG_STATUS_KEEP_LATCH then d
  else
    let d := d.each bkSlots (fun d c =>
      if (d.slot c).state = Ks.VALID then d.setSlot c { (d.slot c) with state := Ks.SUSPECT } else d)
    if !osc then d
    else
      let sus := bkSlots.filter (fun c => (d.slot c).state == Ks.SUSPECT)
      let good (c : Nat) : Bool :=
        keyKcv (d.slot c).key == (d.slot c).kcv && attrFull (d.slot c).attr == (d.slot c).attr
      let mask (l : List Nat) : Nat := l.foldl (fun a c => a + 2 ^ (c - 0x10)) 0
      let ok := sus.filter good
      let bad := sus.filter (fun c => !good c)
      let d := d.each ok (fun d c => d.setSlot c { (d.slot c) with state := Ks.VALID })
      let d := d.each bad (fun d c => d.setSlot c { (d.slot c) with state := Ks.INVALIDATED, key := 0, attr := 0 })
      let d := d.setAll [(F.KS_SUSPECT_RESULT_INVALIDATED, mask bad), (F.KS_SUSPECT_RESULT_RESTORED, mask ok),
        (F.BG_STATUS_KEEP_LATCH, 0)]
      if bad.isEmpty then d else d.raise Ev.KEY_SUSPECT U.KS 0

end Sys2Proof.Machine
end

