-- ==== Sys2Proof/Machine/Gather.lean ====
section
/-! DEFINITION. The configuration memory port and the Gather (chapter 13): directories and headers, job starts,
segments and frame commits, job ends. A frame reaches its zone stop inside the step that commits it (assumption log 12). -/

namespace Sys2Proof.Machine

/-! ## Fields of stored bytes (R371) -/

/-- A big-endian field of bytes. -/
def fieldOf (b : List Nat) (o n : Nat) : Nat := Crypto.num (slice b o n)
/-- Bytes as numbers. -/
def byteVals (l : List Byte) : List Nat := l.map BitVec.toNat

/-! ## The directory (Tables 13.3, 13.4, R372, R373) -/

/-- Entry `i` of a directory. -/
def dirEntry (b : List Nat) (i : Nat) : DirEntry :=
  let e := slice b (0x40 + 32 * i) 32
  { key := fieldOf e 0 4, kind := fieldOf e 4 1, zone := fieldOf e 5 1, active := bit (fieldOf e 6 1) 0,
    offset := fieldOf e 8 4, length := fieldOf e 12 4 }

/-- Do the reserved fields of entry `i` hold? -/
def entryGood (b : List Nat) (i : Nat) : Bool :=
  let e := slice b (0x40 + 32 * i) 32
  decide (fieldOf e 6 1 < 2) && decide (fieldOf e 7 1 = 0) && decide (fieldOf e 0x10 16 = 0)

/-- Do a header's MAGIC and CRC hold, over as many entries as it counts (Table 13.3, R369)? -/
def dirSound (b : List Nat) : Bool :=
  let n := fieldOf b 6 2
  fieldOf b 0 4 == 0x5A444952 && decide (0x40 + 32 * n ≤ b.length)
    && fieldOf b 0x3C 4 == crc32 ((b.take 0x3C ++ slice b 0x40 (32 * n)).map (BitVec.ofNat 8))

/-- A directory copy, if it is valid (R372). -/
def dirParse (b : List Nat) : Option (List DirEntry) :=
  let n := fieldOf b 6 2
  let ok := dirSound b && fieldOf b 4 1 == 1 && fieldOf b 5 1 == 0 && decide (n ≤ 2046) && fieldOf b 0x12 42 == 0
    && (List.range n).all (entryGood b)
  if ok then some ((List.range n).map (dirEntry b)) else none

/-- The directory that a read finds: the entries, and whether they come from the copy (R372). -/
def dirRead (f : FlashDir) : Option (List DirEntry × Bool) :=
  match dirParse (byteVals f.primary) with
  | some l => some (l, false)
  | none => (dirParse (byteVals f.copy)).map (fun l => (l, true))

/-- An entry whose KIND and ZONE hold listed values (Table 13.4). -/
def DirEntry.listed (e : DirEntry) : Bool :=
  (e.kind == 0 && e.zone == 0xFF) || (e.kind == 1 && decide (e.zone < 64))

/-- The ACTIVE ZONE entries for a key: the first for each zone, in entry order (R373). -/
def zoneEntries (l : List DirEntry) (key : Nat) : List DirEntry :=
  (l.filter (fun e => e.active && e.listed && e.kind == 1 && e.key == key)).foldl
    (fun a e => if a.any (fun x => x.zone == e.zone) then a else a ++ [e]) []

/-- The entries that a job loads (R373, R384, R385). -/
def jobEntries (l : List DirEntry) (op entry key : Nat) : List DirEntry :=
  if op = 0 then (l.find? (fun e => e.active && e.listed && e.kind == 0)).toList
  else if op = 1 then zoneEntries l key
  else (l[entry]?).toList.filter (fun e => e.active && e.listed)

/-- The port of a die. -/
def Device.cmpOf (d : Device) (die : Nat) : CmpState := Tab.get (fun _ => CmpState.idle) d.cmp die
/-- The device with a port replaced. -/
def Device.setCmp (d : Device) (die : Nat) (c : CmpState) : Device :=
  { d with cmp := Tab.set (fun _ => CmpState.idle) d.cmp die c }

/-! ## What the port puts on its bus (R365, R367, R370) -/

/-- The bursts of a read of `n` bytes from flash address `a` on: at most 4,096 bytes each, none across a 4 KiB-aligned
address (R367). `fuel` bounds them. -/
def bursts : Nat → Nat → Nat → List (Nat × Nat)
  | 0, _, _ => []
  | f + 1, a, n =>
    if n = 0 then []
    else
      let k := min n (4096 - a % 4096)
      (a, k) :: bursts f (a + k) (n - k)

/-- A read burst in the port's mode: RD_OPCODE with RD_DUMMY in 8D-8D-8D, 4-Byte Fast Read in RECOVERY (R365, R370). -/
def CmpState.readXfer (c : CmpState) (octal : Bool) (a n : Nat) : CmpXfer :=
  if octal then .send true ([c.rdOp, 255 - c.rdOp % 256] ++ Crypto.toBytes 4 a) c.rdDummy [] n
  else .send false (0x0C :: Crypto.toBytes 4 a) 8 [] n

/-- The bursts that read `n` bytes from `a` on. -/
def Device.cmpReads (d : Device) (die a n : Nat) : List CmpXfer :=
  (bursts (n / 4096 + 2) a n).map (fun b =>
    (d.cmpOf die).readXfer (d.get (F.CMP_STATUS_MODE (U.CMP die)) == 1) b.1 b.2)

/-- The reads of a directory: the primary copy, and where that is invalid the other (R372). -/
def Device.dirReads (d : Device) (die : Nat) (f : FlashDir) : List CmpXfer :=
  d.cmpReads die 0 f.primary.length
    ++ (if (dirParse (byteVals f.primary)).isSome then [] else d.cmpReads die 0x10000 f.copy.length)

/-- A step of the port begins: no burst of it has failed, and its bus shows what the step sends. -/
def Device.cmpBegin (d : Device) (die : Nat) : Device := d.setCmp die { d.cmpOf die with failed := false, bus := [] }
/-- The port puts more on its bus. -/
def Device.cmpSend (d : Device) (die : Nat) (l : List CmpXfer) : Device :=
  d.setCmp die { d.cmpOf die with bus := (d.cmpOf die).bus ++ l }

/-! ## Headers (Table 13.5, R374 to R376) -/

/-- The fields of an accepted header. -/
def hdrMask (h : List Nat) : Nat := fieldOf h 8 8
/-- SEG_COUNT. -/
def hdrSegs (h : List Nat) : Nat := fieldOf h 0x1C 2
/-- KEY_SLOT. -/
def hdrSlot (h : List Nat) : Nat := fieldOf h 7 1
/-- The zones of a mask. -/
def maskZones (m : Nat) : List Nat := (List.range 64).filter (fun z => bit m z)

/-- The bytes that the segment prefixes of a stream announce: 256 and 24 + CT_LEN each. -/
def streamLength (prefixes : List (BitVec 64)) (n : Nat) : Nat :=
  (prefixes.take n).foldl (fun a p => a + 24 + p.toNat % 2 ^ 32) 256

/-- Is a header accepted for an entry (R374)? -/
def hdrGood (die : Nat) (e : DirEntry) (h : List Nat) (prefixes : List (BitVec 64)) : Bool :=
  let f := fieldOf h
  f 0 4 == 0x5A434647 && f 4 1 == 1 && f 5 1 == die && f 6 1 == e.kind && f 0x20 4 == e.key
    && (slotFk (hdrSlot h) || slotBk (hdrSlot h))
    && (if e.kind = 1 then hdrMask h == 2 ^ e.zone else hdrMask h != 0)
    && decide (1 ≤ hdrSegs h) && decide (f 0x1E 1 < 2) && decide (f 0x1F 1 < 2) && f 0x24 92 == 0
    && (f 0x1E 1 == 1 || f 0x80 128 == 0)
    && decide (hdrSegs h ≤ prefixes.length) && e.length == streamLength prefixes (hdrSegs h)

/-- A hash row (R468): none where EMPTY, else whether its check holds, and the hash. A row that cannot be read (R134) is
BROKEN. -/
def Device.hashRow (d : Device) (k : Nat) : Option (Bool × Nat) :=
  let r := Tab.get (fun _ => 0) d.fuses.rows k
  if d.fuses.unstable then some (false, 0)
  else if r = 0 then none else some (crc8 (beBytes 32 (r / 256)) == r % 256, r / 256)

/-- Does a public key hash to a row's value? -/
def Device.rowMatches (d : Device) (k : Nat) (pub : List Nat) : Bool :=
  match d.hashRow k with
  | some (true, h) => Crypto.num (Crypto.sha256 pub) == h
  | _ => false

/-- Does a header's signature pass (R375)? -/
def Device.sigGood (d : Device) (h : List Nat) : Bool :=
  let pub := Sys2Proof.slice h 0xC0 64
  let keyed := (d.hashRow 2).isSome
  if fieldOf h 0x1E 1 = 1 then
    Crypto.ecdsaVerify (Crypto.sha256 (h.take 0x80)) (Sys2Proof.slice h 0x80 64) pub && (!keyed || d.rowMatches 2 pub)
  else !keyed

/-! ## Job ends (R387 to R389) -/

namespace Ge
abbrev NONE : Nat := 0
abbrev FLASH : Nat := 1
abbrev DIR_INVALID : Nat := 2
abbrev NO_ENTRY : Nat := 3
abbrev HDR_FORMAT : Nat := 4
abbrev SIG_FAIL : Nat := 5
abbrev AUTH_FAIL : Nat := 6
abbrev FRAME_FORMAT : Nat := 7
abbrev INCOMPLETE : Nat := 8
abbrev KEY_UNUSABLE : Nat := 9
abbrev KEY_LOST : Nat := 10
abbrev BUFFER : Nat := 11
abbrev TARGET_BUSY : Nat := 12
abbrev ABORTED : Nat := 13
end Ge

/-- Does a job run on a die's Gather, or wait for a refetch to end (R431, assumption log 139)? -/
def Device.jobRuns (d : Device) (die : Nat) : Bool :=
  d.get (F.GTH_STATUS_STATE (U.GTH die)) != 0 || (d.gjob die).waits.isSome
/-- Does a base load run? -/
def Device.baseRuns (d : Device) (die : Nat) : Bool := d.get (F.GTH_STATUS_JOB (U.GTH die)) == 1
/-- Has start-up passed step 9: STATE reads WAIT_DIES, what step 10 shows, or what step 9 ended in (Table 05.4)? -/
def Device.past9 (d : Device) : Bool := decide (Rs.WAIT_DIES ≤ d.get F.RS_STATUS_STATE)
/-- Is a zone swapping or in a reset alone (Table 13.8)? -/
def Device.zoneBusy (d : Device) (n : Nat) : Bool :=
  d.on (F.ZN_SWAP_STATUS_SWAPPING (zoneUnit n)) || d.get (F.ZN_RESET_STATUS_STEP (zoneUnit n)) != 0

/-- The zone number of zone `z` of a die. -/
def dieZone (die z : Nat) : Nat := (die - 1) * 64 + z

/-- The plane that a job writes: plane 0 in a base load, else the shadow plane (R384, R385). -/
def Device.jobPlane (d : Device) (die n : Nat) : Nat := if d.baseRuns die then 0 else d.shadowPlane n

/-- A die has failed at start (R138): the first reason is recorded. -/
def Device.dieFailed (d : Device) (die reason : Nat) : Device :=
  let k := F.RS_DIE_FAIL_F1.key
  if bits (d.rd k) (4 * die - 1) (4 * die - 4) = 0 then d.wr k (putBits (d.rd k) (4 * die - 1) (4 * die - 4) reason)
  else d

/-- Is a die ready (R137)? -/
def Device.dieReady (d : Device) (die : Nat) : Bool := bit (d.get F.RS_STATUS_DIE_READY) (die - 1)
/-- Has a die failed at start (R138)? -/
def Device.dieHasFailed (d : Device) (die : Nat) : Bool :=
  bits (d.rd F.RS_DIE_FAIL_F1.key) (4 * die - 1) (4 * die - 4) != 0

/-- The job of a die ends, with an error code of Table 13.9 or without: planes still in STAGING become INVALID,
key slots are released, and the job's event is raised unless a fence or a reset ended it (R387, R388). The end of
a base load makes its die ready (R137) or fails it (R138). -/
def Device.jobEnd (d : Device) (die err : Nat) (quiet : Bool) : Device :=
  let u := U.GTH die
  let j := d.gjob die
  let base := d.baseRuns die
  let d := d.each j.staging (fun d n => d.setPlaneState n (d.jobPlane die n) Pl.INVALID)
  let d := d.setGjob die .none
  let d := d.setAll [(F.GTH_STATUS_ERR u, err), (F.GTH_STATUS_STATE u, 0), (F.GTH_STATUS_JOB u, 0), (F.GTH_CMD_GO u, 0)]
  let d := d.each j.held (fun d c => d.keyRelease c)
  if quiet then d
  else if err = 0 then
    let d := d.raise Ev.GATHER_DONE u 0
    if base then d.setFieldBit F.RS_STATUS_DIE_READY (die - 1) else d
  else
    let d := d.raise Ev.GATHER_ERROR u 0
    if base then d.dieFailed die 3 else d

/-! ## Starting a job (R384 to R386) -/

/-- Why a GO write of GTH_CMD is refused (Table 13.8). -/
def Device.gthRefusal (d : Device) (die op entry : Nat) (dir : Option (List DirEntry)) : Option Reason :=
  let e := dir.bind (fun l => l[entry]?)
  let targets : List Nat := match e with
    | some e => if e.kind = 1 ∧ e.zone < 64 then [dieZone die e.zone] else []
    | none => []
  if (op ≠ 3 ∧ d.jobRuns die) ∨ d.on (F.CMP_PT_CTL_OPEN (U.CMP die)) ∨ !d.past9 then some .busy
  else if op = 2 ∧ targets.any d.zoneBusy then some .busy
  else if d.fenced die then some .dieFenced
  else if op = 0 ∨ 3 < op ∨ (op = 2 ∧ dir.any (fun l => decide (l.length ≤ entry))) then
    some .reservedValue
  else if d.get F.LC_STATUS_STATE = 5 then some .lcForbids
  else none

/-- A job begins: its directory is read next. -/
def Device.jobBegin (d : Device) (die op entry source : Nat) : Device :=
  let u := U.GTH die
  let d := d.setGjob die { GatherJob.none with op := op, entry := entry }
  d.setAll [(F.GTH_CMD_GO u, 1), (F.GTH_STATUS_SOURCE u, source), (F.GTH_STATUS_JOB u, if op = 0 then 1 else 2),
    (F.GTH_STATUS_ERR u, 0), (F.GTH_STATUS_STATE u, 1), (F.GTH_STATUS_DIR_COPY u, 0), (F.GTH_ZONES_LO_ZONES u, 0),
    (F.GTH_ZONES_HI_ZONES u, 0), (F.GTH_DONE_LO_ZONES u, 0), (F.GTH_DONE_HI_ZONES u, 0), (F.GTH_SEG_COUNT u, 0),
    (F.GTH_SEG_INDEX u, 0), (F.GTH_BYTES_COUNT u, 0)]

/-- A job starts; one that is accepted during a refetch starts when that has ended (R431). -/
def Device.jobStart (d : Device) (die op entry source : Nat) : Device :=
  if (d.lehrOf die).refetch.isSome then
    (d.setGjob die { GatherJob.none with op := op, entry := entry, waits := some source }).set (F.GTH_CMD_GO (U.GTH die)) 1
  else d.jobBegin die op entry source

/-- The job that waited for a refetch begins. -/
def Device.jobWaited (d : Device) (die : Nat) : Device :=
  match (d.gjob die).waits with
  | some source => d.jobBegin die (d.gjob die).op (d.gjob die).entry source
  | none => d

/-- ABORT ends a running job with ABORTED (R388). -/
def Device.gthAbort (d : Device) (die : Nat) : Device :=
  if d.jobRuns die then d.jobEnd die Ge.ABORTED false else d

/-- A GO write of GTH_CMD (R385, R386, R388): a refused one changes nothing. -/
def Device.gthCommand (d : Device) (die op entry : Nat) (dir : Option (List DirEntry)) : Device :=
  if d.refusalsFull die then d
  else
    let u := U.GTH die
    match d.gthRefusal die op entry dir with
    | some why => d.refuseAt (F.GTH_REFUSE_REASON u) why (F.GTH_CMD_GO u)
    | none =>
      let d := d.setAll [(F.GTH_CMD_OP u, op), (F.GTH_CMD_ENTRY u, entry)]
      if op = 3 then d.gthAbort die else d.jobStart die op entry 0

/-! ## The directory and a header (R372 to R376) -/

/-- The targets of the job so far: GTH_ZONES. -/
def Device.jobZones (d : Device) (die mask : Nat) : Device :=
  let u := U.GTH die
  d.setAll [(F.GTH_ZONES_LO_ZONES u, mask % 2 ^ 32), (F.GTH_ZONES_HI_ZONES u, mask / 2 ^ 32)]

/-- The job has read its directory (R372, R373): the entries to load, or an error. -/
def Device.jobDirectory (d : Device) (die : Nat) (f : FlashDir) : Device :=
  let u := U.GTH die
  let j := d.gjob die
  let d := d.cmpSend die (d.dirReads die f)
  match dirRead f with
  | none => (d.set (F.GTH_STATUS_DIR_COPY u) 1).jobEnd die Ge.DIR_INVALID false
  | some (l, copy) =>
    let d := (d.setCmp die { d.cmpOf die with dir := some l }).set (F.GTH_STATUS_DIR_COPY u) (b2n copy)
    let es := jobEntries l j.op j.entry (d.get (F.GTH_KEY_KEY u))
    if es.isEmpty then d.jobEnd die Ge.NO_ENTRY false
    else
      let zones := (es.filter (fun (e : DirEntry) => e.kind == 1)).foldl (fun a (e : DirEntry) => setBit a e.zone) 0
      ((d.setGjob die { j with todo := es }).set (F.GTH_STATUS_STATE u) 2).jobZones die zones

/-- A header has been read for the job's current entry (R374 to R376). -/
def Device.jobHeader (d : Device) (die : Nat) (h : List Nat) (prefixes : List (BitVec 64))
    (images : List (Fin 64 × Image)) : Device :=
  let u := U.GTH die
  let j := d.gjob die
  match j.todo with
  | [] => d
  | e :: _ =>
    let d := (d.set (F.GTH_BYTES_COUNT u) (d.get (F.GTH_BYTES_COUNT u) + 256)).cmpSend die (d.cmpReads die e.offset 256)
    let slot := hdrSlot h
    if !hdrGood die e h prefixes then d.jobEnd die Ge.HDR_FORMAT false
    else if !d.sigGood h then (d.raise Ev.AUTH_FAIL u 0).jobEnd die Ge.SIG_FAIL false
    else if !(j.held.contains slot || d.mayHold slot) then d.jobEnd die Ge.KEY_UNUSABLE false
    else
      let d := if j.held.contains slot then d else d.keyHold slot
      let d := d.setGjob die { j with hdr := h, seg := 0, pos := e.offset + 256, written := [], named := [], held :=
          (if j.held.contains slot then j.held else j.held ++ [slot]), images := images.map (fun x => (x.1.val, x.2)) }
      let d := if e.kind = 0 then d.jobZones die (hdrMask h) else d
      d.setAll [(F.GTH_SEG_COUNT u, hdrSegs h), (F.GTH_SEG_INDEX u, 0)]

/-- The directory, where the job is to read it, and the next header (STREAM_HEADER_READ for a Gather job). -/
def Device.jobStream (d : Device) (die : Nat) (f : FlashDir) (h : List Nat) (prefixes : List (BitVec 64))
    (images : List (Fin 64 × Image)) : Device :=
  let d := d.cmpBegin die
  let st := d.get (F.GTH_STATUS_STATE (U.GTH die))
  let d := if st = 1 then d.jobDirectory die f else d
  if d.jobRuns die ∧ (d.gjob die).hdr.isEmpty then d.jobHeader die h prefixes images else d

/-! ## Segments and frames (R377 to R383) -/

/-- The nonce of segment `s` (R377). -/
def segNonce (h : List Nat) (s : Nat) : List Nat :=
  Crypto.toBytes 12 (Nat.xor (fieldOf h 0x10 12) s)

/-- A segment's plaintext and whether its tag verifies, under a key (R377). -/
def segOpen (key : Nat) (h seg : List Nat) (s : Nat) : List Nat × Bool :=
  let n := fieldOf seg 4 4
  Crypto.gcmOpen (keyBytes key) (segNonce h s) (h.take 0x80 ++ seg.take 8) (slice seg 8 n) (slice seg (8 + n) 16)

/-- Does a segment's prefix hold for segment `s` (R377)? -/
def prefixGood (seg : List Nat) (s : Nat) : Bool :=
  let n := fieldOf seg 4 4
  fieldOf seg 0 2 == s && fieldOf seg 2 2 == 0 && decide (168 ≤ n) && decide (n ≤ 65536) && decide (n % 8 = 0)

/-- The 20 words of a frame's 160 bytes. -/
def frameWords (b : List Nat) : List Nat := (chunks 8 20 b).map Crypto.num

/-- The frames of a plaintext, in order, and the frame address of a run that breaks R379, if one does (the frames
before it stand). `fuel` bounds the runs. -/
def parseRuns : Nat → List Nat → List (Nat × List Nat) × Option Nat
  | 0, _ => ([], none)
  | f + 1, b =>
    if b.isEmpty then ([], none)
    else
      let fa := fieldOf b 0 4
      let n := fieldOf b 4 2
      if n = 0 ∨ 409 < n ∨ fieldOf b 6 2 ≠ 0 ∨ b.length < 8 + 160 * n then ([], some fa)
      else
        let fr := (chunks 160 n (slice b 8 (160 * n))).zipIdx.map (fun x => (fa + x.2 * 2 ^ 14, frameWords x.1))
        let r := parseRuns f (b.drop (8 + 160 * n))
        (fr ++ r.1, r.2)

/-- Does a MEM_INIT frame hold R381? -/
def memInitGood (w : List Nat) : Bool :=
  let h := (w[0]?).getD 0
  decide (bits h 62 13 = 0) && decide (bits h 7 6 = 0) && decide ((w[19]?).getD 0 = 0)
    && (!bit h 63 || decide (bits h 5 0 < 48))

/-- The header CRC that a load records (R430). -/
def hdrCrc (h : List Nat) : Nat := crc32 ((h.take 0x80).map (BitVec.ofNat 8))

/-- Does the verification that runs still have its plane: VERIFYING, or PARISON where LHR_CMD asked (R435, R437)? -/
def Device.verifyHolds (d : Device) (die : Nat) : Bool :=
  match (d.lehrOf die).verify with
  | none => false
  | some (z, p, _, asked) => d.planeState (dieZone die z) p == (if asked then Pl.PARISON else Pl.VERIFYING)

/-- The running LHR_CMD ends: RESULT 1 DONE or 2 FAILED, with an error of Table 15.3. -/
def Device.lehrCmdEnd (d : Device) (die result err : Nat) : Device :=
  let u := U.GTH die
  (d.setLehr die { d.lehrOf die with cmd := .none }).setAll
    [(F.LHR_CMD_GO u, 0), (F.LHR_CMD_STATUS_RESULT u, result), (F.LHR_CMD_STATUS_ERR u, err)]

/-- A verification whose plane is gone is dropped; if LHR_CMD asked for it, the command fails with ABORTED. -/
def Device.verifyDrop (d : Device) (die : Nat) : Device :=
  let l := d.lehrOf die
  match l.verify with
  | none => d
  | some (_, _, _, asked) =>
    if d.verifyHolds die then d
    else
      let d := d.setLehr die { l with verify := none, busy := l.busy.filter (fun b => !b.2) }
      if asked then d.lehrCmdEnd die 2 8 else d

/-- The first frame of a target zone: its plane enters STAGING, so that a verification of what it held ends, and its records
are written (R17, R393). The plane of a base load stays INVALID until its release (Table 14.1). -/
def Device.stageBegin (d : Device) (die n : Nat) : Device :=
  let j := d.gjob die
  let h := j.hdr
  let p := d.jobPlane die n
  let d := if d.baseRuns die then d else (d.setPlaneState n p Pl.STAGING).verifyDrop die
  let d := d.recordPlane n p (fieldOf h 0x20 4) (fieldOf h 0x1F 1 == 1) (lookupD Image.blank (n % 64) j.images)
    (if fieldOf h 6 1 = 0 then 1 else 2) (hdrCrc h)
  d.setGjob die { j with staging := j.staging ++ [n] }

/-- A packet of `units` units goes from stop 96 of a die to a zone stop of that die, inside the step that it belongs to
(assumption log 12): counter-clockwise its units pass position 64 (R272, Table 09.10). -/
def Device.ownSend (d : Device) (die z units : Nat) : Device :=
  if goCcw die (dieRingPos 96) (dieRingPos z) then d.countPass die 64 units true else d

/-- The answer comes back to stop 96: clockwise its units pass position 64. -/
def Device.ownAnswer (d : Device) (die z units : Nat) : Device :=
  if goCcw die (dieRingPos z) (dieRingPos 96) then d else d.countPass die 64 units false

/-- A frame is sent as one CFG packet of ten data units, and answered (R382). -/
def Device.ownWrite (d : Device) (die z : Nat) : Device := (d.ownSend die z 11).ownAnswer die z 1

/-- A frame is read by one RD, answered with twelve data units (R424). -/
def Device.ownRead (d : Device) (die z : Nat) : Device := (d.ownSend die z 1).ownAnswer die z 13

/-- One frame is committed (R380 to R383): the error code that ends the job, or 0. -/
def Device.commitFrame (d : Device) (s : Stores) (die fa : Nat) (w : List Nat) : (Device × Stores) × Nat :=
  let u := U.GTH die
  let j := d.gjob die
  let z := faZone fa
  let n := dieZone die z
  let key := z * 65536 + fa / 1024 % 65536
  let h := (w[0]?).getD 0
  let nm := z * 65536 + bits h 5 0 * 256 + bits h 12 8
  let used := decide (faType fa = 4) && bit h 63
  let bad (e : Nat) : (Device × Stores) × Nat := ((d.set (F.GTH_ERR_FRAME_FA u) fa, s), e)
  if !faGood fa ∨ faPlane fa ≠ 0 ∨ !bit (hdrMask j.hdr) z then bad Ge.FRAME_FORMAT
  else if faType fa = 4 ∧ (!memInitGood w ∨ (used ∧ j.named.contains nm)) then bad Ge.FRAME_FORMAT
  else if j.written.contains key then ((d, s), Ge.INCOMPLETE)
  else if !j.staging.contains n ∧ !d.baseRuns die ∧ d.zoneBusy n then ((d, s), Ge.TARGET_BUSY)
  else
    let d := if j.staging.contains n then d else d.stageBegin die n
    let j := d.gjob die
    let d := d.setGjob die { j with written := key :: j.written, named := if used then nm :: j.named else j.named }
    ((d.ownWrite die z, s.setFrame (slotKey n (d.jobPlane die n) (faType fa) (faIndex fa)) (frameStore w)), 0)

/-- Frames are committed in order, up to the first that ends the job. -/
def Device.commitFrames : List (Nat × List Nat) → Device → Stores → Nat → (Device × Stores) × Nat
  | [], d, s, _ => ((d, s), 0)
  | x :: r, d, s, die =>
    let a := d.commitFrame s die x.1 x.2
    if a.2 = 0 then Device.commitFrames r a.1.1 a.1.2 die else a

/-- Every frame of types 0, 1, 2, 3 and 5 of a zone has been written (R383). -/
def GatherJob.covers (j : GatherJob) (z : Nat) : Bool :=
  [0, 1, 2, 3, 5].all (fun t => (List.range (frameCount t)).all (fun i => j.written.contains (z * 65536 + i * 16 + t)))

/-- The MEM_INIT slots of a zone that an image did not write. -/
def GatherJob.unwritten (j : GatherJob) (z : Nat) : List Nat :=
  (List.range 256).filter (fun i => !j.written.contains (z * 65536 + i * 16 + 4))

/-- The MEM_INIT slots that an image did not write become zero frames (R383). -/
def Stores.zeroFill (s : Stores) (j : GatherJob) (n p : Nat) : Stores :=
  (j.unwritten (n % 64)).foldl (fun s i => s.setFrame (slotKey n p 4 i) (frameStore (List.replicate 20 0))) s

/-- The retention group of a memory is selected (R488): group memory ÷ 16 of the zone. -/
def Device.retained (d : Device) (n mem : Nat) : Bool :=
  let g := mem / 16
  bit (d.get (if g = 0 then F.PW_RET_BM0_ZONES (n / 32) else if g = 1 then F.PW_RET_BM1_ZONES (n / 32)
    else F.PW_RET_BM2_ZONES (n / 32))) (n % 32)

/-- The memories of a loaded zone at a base load (R381, R384, R490): retained memories are not written. -/
def Device.baseInit (d : Device) (s : Stores) (n : Nat) : Stores :=
  let t := d.memInit s n 0
  { t with bm := ((List.range 48).filter (d.retained n)).foldl (fun m k =>
      s.bm.foldl (fun m e => if bmAddr n k 0 ≤ e.1 ∧ e.1 < bmAddr n (k + 1) 0 then m.write e.1 e.2 else m)
        (m.zero (bmAddr n k 0) (bmAddr n (k + 1) 0))) t.bm }

/-- The end of an image (R383 to R385): coverage, zero frames, VERIFYING for a staged plane, and the next entry or
the end of the job. -/
def Device.imageEnd (d : Device) (s : Stores) (die : Nat) : Device × Stores :=
  let u := U.GTH die
  let j := d.gjob die
  let zs := maskZones (hdrMask j.hdr)
  if !zs.all j.covers then (d.jobEnd die Ge.INCOMPLETE false, s)
  else
    let base := d.baseRuns die
    let s := zs.foldl (fun s z => s.zeroFill j (dieZone die z) (d.jobPlane die (dieZone die z))) s
    let d := d.each zs (fun d z => d.each (j.unwritten z) (fun d _ => d.ownWrite die z))
    let s := if base then zs.foldl (fun s z => d.baseInit s (dieZone die z)) s else s
    let d := if base then d.each zs (fun d z => d.modZone (dieZone die z) (fun z => { z with loaded := true }))
      else d.each zs (fun d z => d.setPlaneState (dieZone die z) (d.shadowPlane (dieZone die z)) Pl.VERIFYING)
    let done := zs.foldl setBit (d.get (F.GTH_DONE_LO_ZONES u) + d.get (F.GTH_DONE_HI_ZONES u) * 2 ^ 32)
    let d := d.setAll [(F.GTH_DONE_LO_ZONES u, done % 2 ^ 32), (F.GTH_DONE_HI_ZONES u, done / 2 ^ 32)]
    let d := d.setGjob die { j with todo := j.todo.drop 1, hdr := [], staging := [] }
    if j.todo.length ≤ 1 then (d.jobEnd die Ge.NONE false, s) else (d, s)

/-- A buffered segment is judged and its frames committed (R377 to R383, R389). -/
def Device.segment (d : Device) (s : Stores) (die : Nat) (seg : List Nat) (bad : Bool) : Device × Stores :=
  let u := U.GTH die
  let j := d.gjob die
  let d := (d.cmpBegin die).cmpSend die (d.cmpReads die j.pos seg.length)
  if !d.jobRuns die ∨ j.hdr.isEmpty then (d, s)
  else
    let d := d.setGjob die { j with pos := j.pos + seg.length }
    let d := d.setAll [(F.GTH_BYTES_COUNT u, d.get (F.GTH_BYTES_COUNT u) + seg.length), (F.GTH_SEG_INDEX u, j.seg)]
    if !prefixGood seg j.seg then (d.jobEnd die Ge.HDR_FORMAT false, s)
    else if bad then (d.jobEnd die Ge.BUFFER false, s)
    else
      let o := segOpen (d.slot (hdrSlot j.hdr)).key j.hdr seg j.seg
      if !o.2 then
        (((d.inc (F.GTH_AUTH_CNT_COUNT u)).raise Ev.AUTH_FAIL u 0).jobEnd die Ge.AUTH_FAIL false, s)
      else
        let runs := parseRuns (o.1.length / 168 + 1) o.1
        let r := Device.commitFrames runs.1 d s die
        if r.2 ≠ 0 then (r.1.1.jobEnd die r.2 false, r.1.2)
        else match runs.2 with
          | some fa => ((r.1.1.set (F.GTH_ERR_FRAME_FA u) fa).jobEnd die Ge.FRAME_FORMAT false, r.1.2)
          | none =>
            let d := r.1.1.setGjob die { r.1.1.gjob die with seg := j.seg + 1 }
            if j.seg + 1 = hdrSegs j.hdr then d.imageEnd r.1.2 die else (d, r.1.2)

/-! ## The port (R368 to R370, R390, R391) -/

/-- Is the flash busy for a REINIT or a session: a job or an open session (R390, Table 13.11)? -/
def Device.cmpInUse (d : Device) (die : Nat) : Bool :=
  d.jobRuns die || (d.lehrOf die).refetch.isSome || d.on (F.CMP_PT_CTL_OPEN (U.CMP die))

/-- What the port sends for steps 1 to 3 of its initialisation (R369). -/
def initHead : List CmpXfer :=
  [.reset, .send false [0x66] 0 [] 0, .send false [0x99] 0 [] 0, .send false [0x0B, 0, 0, 0] 8 [] 64]

/-- The mode switch that a header asks for (R369, step 4). -/
def initSwitch (b : List Nat) : List CmpXfer :=
  let n := min (fieldOf b 9 1) 4
  (if fieldOf b 15 1 = 1 then [.send false [0x06] 0 [] 0] else [])
    ++ [.send false (fieldOf b 8 1 :: slice b (14 - n) n) 0 [fieldOf b 14 1] 0]

/-- The port initialises (R369, R370): `dir` is the primary copy as read in 1-1-1, `again` the header as read in
8D-8D-8D (none where the switch is not made, or no strobe came for that read and its retry: R368). The CRC of the header
covers the entries, which `dir` holds (assumption log 140). -/
def Device.cmpInit (d : Device) (die : Nat) (dir : List Nat) (again : Option (List Nat)) : Device :=
  let u := U.CMP die
  let d := d.cmpBegin die
  if !dirSound dir ∨ fieldOf dir 8 1 = 0 then (d.cmpSend die initHead).set (F.CMP_STATUS_MODE u) 2
  else
    let d := d.setCmp die { d.cmpOf die with rdOp := fieldOf dir 0x10 1, rdDummy := fieldOf dir 0x11 1 }
    let rd := (d.cmpOf die).readXfer true 0 64
    let d := d.cmpSend die (initHead ++ initSwitch dir ++ (if again.isNone then [rd, rd] else [rd]))
    if again = some (dir.take 64) then d.set (F.CMP_STATUS_MODE u) 1
    else
      let d := if again.isNone then d.inc (F.CMP_ERR_CNT_COUNT u) else d
      (d.set (F.CMP_STATUS_MODE u) 2).raise Ev.CMP_FLASH_ERROR u 0

/-- CMP_CMD.REINIT (Table 13.11). -/
def Device.cmpReinit (d : Device) (die : Nat) (dir : List Nat) (again : Option (List Nat)) : Device :=
  let u := U.CMP die
  if d.refusalsFull die || d.fenced die then d
  else if d.cmpInUse die then d.refuseAt (F.CMP_REFUSE_REASON u) .busy (F.CMP_CMD_REINIT u)
  else (d.cmpInit die dir again).set (F.CMP_CMD_REINIT u) 0

/-- CMP_REINIT (R369, R370). -/
def execCmpReinit (die : Die) (dir : List Byte) (again : Option (List Byte)) (s : State) :
    Host.Outcome State Fault Refusal :=
  .next (s.on (fun d => d.cmpReinit die.no (byteVals dir) (again.map byteVals)))

/-- A write of CMP_PT_CTL.OPEN (R390, R391). -/
def Device.ptOpen (d : Device) (die : Nat) (on : Bool) : Device :=
  let u := U.CMP die
  if d.refusalsFull die || d.fenced die then d
  else if on then
    if d.jobRuns die || (d.lehrOf die).refetch.isSome || !d.past9 then
      d.refuseAt (F.CMP_REFUSE_REASON u) .busy (F.CMP_PT_CTL_OPEN u)
    else if d.get F.LC_STATUS_STATE = 5 then d.refuseAt (F.CMP_REFUSE_REASON u) .lcForbids (F.CMP_PT_CTL_OPEN u)
    else d.set (F.CMP_PT_CTL_OPEN u) 1
  else d.set (F.CMP_PT_CTL_OPEN u) 0

/-- CMP_PT_OPEN (R390, R391). -/
def execCmpPtOpen (die : Die) (on : Bool) (s : State) : Host.Outcome State Fault Refusal :=
  .next (s.on (fun d => d.ptOpen die.no on))

/-- Byte `i` of CMP_PT_DATA: byte 4i of a word is in bits 31:24. -/
def Device.ptDataByte (d : Device) (u i : Nat) : Nat :=
  bits (d.rd (F.CMP_PT_DATA_DATA u (i / 4)).key) (31 - 8 * (i % 4)) (24 - 8 * (i % 4))

/-- The address bytes that ADDR_LEN selects: its codes 0, 2 and 3 are 0, 3 and 4 bytes (assumption log 141). -/
def ptAddrBytes (v : Nat) : Nat := if v < 2 then 0 else v + 1

/-- What a pass-through command puts on the bus, from the fields of CMP_PT_CMD (R365, R390). -/
def Device.ptXfer (d : Device) (die : Nat) : CmpXfer :=
  let u := U.CMP die
  let octal := d.get (F.CMP_STATUS_MODE u) == 1
  let op := d.get (F.CMP_PT_CMD_OPCODE u)
  let len := d.get (F.CMP_PT_CMD_LEN u)
  let n := if octal then 4 else ptAddrBytes (d.get (F.CMP_PT_CMD_ADDR_LEN u))
  let addr := Crypto.toBytes n (d.get (F.CMP_PT_ADDR_ADDR u) % 256 ^ n)
  .send octal ((if octal then [op, 255 - op] else [op]) ++ addr) (d.get (F.CMP_PT_CMD_DUMMY u))
    (if d.on (F.CMP_PT_CMD_READ u) then [] else (List.range len).map (d.ptDataByte u))
    (if d.on (F.CMP_PT_CMD_READ u) then len else 0)

/-- CMP_PT_CMD.GO (R390): one command is sent with the fields as they are stored. -/
def Device.ptGo (d : Device) (die : Nat) : Device :=
  let u := U.CMP die
  if d.on (F.CMP_PT_CMD_GO u) then d.refuseAt (F.CMP_REFUSE_REASON u) .busy (F.CMP_PT_CMD_GO u)
  else if !d.on (F.CMP_PT_CTL_OPEN u) then d.refuseAt (F.CMP_REFUSE_REASON u) .reservedValue (F.CMP_PT_CMD_GO u)
  else
    (d.setCmp die { d.cmpOf die with
      run := some (d.on (F.CMP_PT_CMD_READ u), d.get (F.CMP_PT_CMD_LEN u)), failed := false, bus := [d.ptXfer die] }).set
        (F.CMP_PT_CMD_GO u) 1

/-- A field of CMP_PT_CMD is stored where its value is one that Table 13.11 lists, else refused and kept (R13, R655). -/
def Device.ptField (d : Device) (u : Nat) (f : Field) (v : Nat) (ok : Bool) : Device :=
  if ok then d.set f v else d.refuseAt (F.CMP_REFUSE_REASON u) .reservedValue f

/-- A write of CMP_PT_CMD with GO (R390, R655): each field is stored or refused, then GO is judged. -/
def Device.ptCmd (d : Device) (die : Nat) (read : Bool) (dummy addrLen len op : Nat) : Device :=
  let u := U.CMP die
  if d.refusalsFull die || d.fenced die then d
  else
    let d := d.setAll [(F.CMP_PT_CMD_READ u, b2n read), (F.CMP_PT_CMD_OPCODE u, op)]
    let d := d.ptField u (F.CMP_PT_CMD_DUMMY u) dummy (decide (dummy ≤ 30))
    let d := d.ptField u (F.CMP_PT_CMD_ADDR_LEN u) addrLen (decide (addrLen ≠ 1))
    (d.ptField u (F.CMP_PT_CMD_LEN u) len (decide (len ≤ 256))).ptGo die

/-- CMP_PT_CMD (R390). -/
def execCmpPtCmd (die : Die) (read : Bool) (dummy : BitVec 5) (addrLen : BitVec 2) (len : BitVec 9) (op : BitVec 8)
    (s : State) : Host.Outcome State Fault Refusal :=
  .next (s.on (fun d => d.ptCmd die.no read dummy.toNat addrLen.toNat len.toNat op.toNat))

/-- Byte `i` of CMP_PT_DATA takes a value: byte 4i of a word is in bits 31:24. -/
def Device.ptByte (d : Device) (u i v : Nat) : Device :=
  let k := (F.CMP_PT_DATA_DATA u (i / 4)).key
  d.wr k (putBits (d.rd k) (31 - 8 * (i % 4)) (24 - 8 * (i % 4)) v)

/-- A pass-through command completes (R390): a read fills LEN bytes of CMP_PT_DATA. -/
def Device.ptDone (d : Device) (die : Nat) (data : List Nat) : Device :=
  let u := U.CMP die
  match (d.cmpOf die).run with
  | none => d
  | some (read, len) =>
    let d := (d.setCmp die { d.cmpOf die with run := none }).set (F.CMP_PT_CMD_GO u) 0
    if read then (data.take len).zipIdx.foldl (fun d x => d.ptByte u x.2 x.1) d else d

/-- CMP_PT_CMD_DONE (R390): `data` is what the flash returned. -/
def execCmpPtCmdDone (die : Die) (data : List Byte) (s : State) : Host.Outcome State Fault Refusal :=
  .next (s.on (fun d => d.ptDone die.no (byteVals data)))

end Sys2Proof.Machine
end

