-- ==== Sys2Proof/Machine/Lehr.lean ====
section
/-! DEFINITION. The Lehr (chapter 15): the scan, frame judgement and what follows it, the bad list, holds,
verification, refetch and readback. A frame is read and written back inside the steps that ask for it (assumption log
12). -/

namespace Sys2Proof.Machine

/-! ## Holds (R432, R433) -/

/-- Set a zone's bit in LHR_HELD. -/
def Device.setLehrHeld (d : Device) (n : Nat) (on : Bool) : Device :=
  let u := U.GTH (zoneDie n)
  let f := if n % 64 < 32 then F.LHR_HELD_LO_ZONES u else F.LHR_HELD_HI_ZONES u
  d.set f (putBit (d.get f) (n % 32) on)

/-- The Lehr holds a zone: its clock stops after its next edge (R432). A clock that already stands keeps its
cause until that ends. -/
def Device.lehrHold (d : Device) (n : Nat) : Device :=
  let st := d.zcState n
  let d := d.setLehrHeld n true
  if st = Zc.STOPPED ∨ st = Zc.GATED ∨ st = Zc.HELD then d
  else
    let toRef := if st = Zc.SWITCHING then (d.zone n).clk.toRef else st == Zc.REF
    let div := if st = Zc.SWITCHING then (d.zone n).clk.toDiv else d.get (F.ZN_CLK_STATUS_DIV_NOW (zoneUnit n))
    d.holdZone n .lehr toRef div

/-- End a Lehr hold (R433): the zone restarts, or waits for what else holds it. -/
def Device.lehrRelease (d : Device) (n : Nat) : Device :=
  if !d.lehrHeld n then d
  else
    let d := d.setLehrHeld n false
    if d.zcState n = Zc.HELD ∧ (d.zone n).clk.held = some .lehr then d.unhold n true else d

/-! ## The bad list (R427 to R429) -/

/-- The entries of a die's bad list that hold a frame: place, frame address, state. -/
def Device.badList (d : Device) (die : Nat) : List (Nat × Nat × Nat) :=
  (List.range 8).filterMap (fun k =>
    let st := d.get (F.LHR_BAD_STATE (U.GTH die) k)
    if st = 0 then none else some (k, d.get (F.LHR_BAD_FA (U.GTH die) k) * 1024, st))

/-- The place of a frame in the list. -/
def Device.badPlace (d : Device) (die fa : Nat) : Option Nat :=
  ((d.badList die).find? (fun e => e.2.1 == fa)).map (·.1)

/-- Set an entry's state. -/
def Device.setBad (d : Device) (die k st : Nat) : Device := d.set (F.LHR_BAD_STATE (U.GTH die) k) st
/-- Clear an entry. -/
def Device.clearBad (d : Device) (die k : Nat) : Device := d.wr (F.LHR_BAD_STATE (U.GTH die) k).key 0
/-- Clear the entry of a frame, if it has one (R428). -/
def Device.clearBadFrame (d : Device) (die fa : Nat) : Device :=
  match d.badPlace die fa with
  | some k => d.clearBad die k
  | none => d

/-- Does zone `z` of a die have a list entry? -/
def Device.zoneHasBad (d : Device) (die z : Nat) : Bool := (d.badList die).any (fun e => faZone e.2.1 == z)
/-- Does a plane of a zone have a list entry? -/
def Device.planeHasBad (d : Device) (die z p : Nat) : Bool :=
  (d.badList die).any (fun e => faZone e.2.1 == z && faPlane e.2.1 == p)
/-- A plane stops being ACTIVE: its entries are cleared (R428). -/
def Device.clearBadPlane (d : Device) (die z p : Nat) : Device :=
  (d.badList die).foldl (fun d e => if faZone e.2.1 = z ∧ faPlane e.2.1 = p then d.clearBad die e.1 else d) d

/-- A zone's LHR_POLICY (Table 15.2). -/
def Device.lehrPolicy (d : Device) (die z : Nat) : Nat :=
  bits (d.get (F.LHR_POLICY_POLICY (U.GTH die) (z / 16))) (2 * (z % 16) + 1) (2 * (z % 16))

/-- The event and record of an uncorrectable frame (R427). -/
def Device.reportBad (d : Device) (die fa : Nat) : Device :=
  let u := U.GTH die
  let d := d.raise Ev.SCRUB_UNCORRECTABLE u 0
  d.record { d.mkRecord 0x10 u (U.ZN die (faZone fa)) with addr := fa }

/-- An uncorrectable frame of an active plane (R427, R429). -/
def Device.badFrame (d : Device) (die fa : Nat) : Device :=
  if (d.badPlace die fa).isSome then d
  else
    let u := U.GTH die
    let d := (d.inc (F.LHR_UNCORR_CNT_COUNT u)).reportBad die fa
    match (List.range 8).find? (fun k => d.get (F.LHR_BAD_STATE u k) == 0) with
    | none => d.set (F.LHR_STATUS_BAD_OVF u) 1
    | some k =>
      let p := d.lehrPolicy die (faZone fa)
      let d := d.setAll [(F.LHR_BAD_FA u k, fa / 1024), (F.LHR_BAD_STATE u k, if p = 1 then 2 else if p = 2 then 5 else 1)]
      if p = 2 then d.lehrHold (dieZone die (faZone fa)) else d

/-! ## Checking a frame (R425, R426) -/

/-- The slot of a frame address on a die. -/
def faSlot (die fa : Nat) : Nat := slotKey (dieZone die (faZone fa)) (faPlane fa) (faType fa) (faIndex fa)

/-- Write a corrected frame back (R426). -/
def Device.writeBack (d : Device) (s : Stores) (die fa : Nat) : Device × Stores :=
  let u := U.GTH die
  let d := ((d.inc (F.LHR_CORR_CNT_COUNT u)).set (F.LHR_CORR_LAST_FA u) fa).raise Ev.SCRUB_CORRECTED u 0
  (d.ownWrite die (faZone fa), s.setFrame (faSlot die fa) (frameStore (s.frame (faSlot die fa)).data))

/-- A frame of an active plane has been read: judged and acted on (R425 to R429). -/
def Device.scrubJudge (d : Device) (s : Stores) (die fa : Nat) : Device × Stores :=
  match (s.frame (faSlot die fa)).judge with
  | .good => (d.clearBadFrame die fa, s)
  | .corrected => let r := d.writeBack s die fa; (r.1.clearBadFrame die fa, r.2)
  | .uncorrectable =>
    if d.planeState (dieZone die (faZone fa)) (faPlane fa) = Pl.ACTIVE then (d.badFrame die fa, s) else (d, s)

/-! ## The scan (R421 to R423) -/

/-- Has scrubbing started: the die has had its first GRR (R421)? -/
def Device.scrubs (d : Device) (die : Nat) : Bool := d.rst.released.contains die && d.on (F.LHR_CTL_EN (U.GTH die))

/-- From a place of the scan, the next frame's place, and whether a swapping zone was passed over (R421, R423). -/
def Device.nextScan (d : Device) (die : Nat) : Nat → Nat → Nat → Bool → Option (Nat × Nat) × Bool
  | 0, _, _, part => (none, part)
  | f + 1, z, o, part =>
    let n := dieZone die z
    if 64 ≤ z then (none, part)
    else if !d.zoneActive n then Device.nextScan d die f (z + 1) 0 part
    else if d.on (F.ZN_SWAP_STATUS_SWAPPING (zoneUnit n)) then Device.nextScan d die f (z + 1) 0 (part || decide (o < 2048))
    else if 2048 ≤ o then Device.nextScan d die f (z + 1) 0 part
    else (some (z, o), part)

/-- A pass ends and the next begins (R421). -/
def Device.passEnd (d : Device) (die : Nat) : Device :=
  let u := U.GTH die
  let l := d.lehrOf die
  let d := (d.bump (F.LHR_PASS_CNT_COUNT u)).set (F.LHR_PASS_TIME_US u) ((d.clk.refCycles - l.began) / 40)
  (d.setLehr die { l with zone := 0, ord := 0, began := d.clk.refCycles }).raise Ev.SCRUB_PASS u 0

/-- End the pass where the scan has no frame left and none is in progress. -/
def Device.passCheck (d : Device) (die : Nat) : Device :=
  let l := d.lehrOf die
  let r := d.nextScan die 65 l.zone l.ord false
  let d := if r.2 then d.set (F.LHR_STATUS_PASS_PARTIAL (U.GTH die)) 1 else d
  if d.scrubs die ∧ r.1 = none ∧ l.busy.all (·.2) ∧ (dieZones die).any d.zoneActive then d.passEnd die else d

/-- The frame address of ordinal `o` of a plane (R421). -/
def ordFa (z p o : Nat) : Nat := faOf z p (ordFrame o).1 (ordFrame o).2

/-- The next frame of the scan starts. -/
def Device.scrubSlot (d : Device) (die : Nat) : Device :=
  if !d.scrubs die then d
  else
    let d := d.passCheck die
    let l := d.lehrOf die
    match (d.nextScan die 65 l.zone l.ord false).1 with
    | none => d
    | some (z, o) =>
      let fa := ordFa z (d.activePlane (dieZone die z)) o
      (d.setLehr die { l with zone := z, ord := o + 1, busy := l.busy ++ [(fa, false)] }).ownSend die z 1

/-- A Lehr slot recurs: the next frame check starts, of the verification that runs or of the scan (R421, R422,
R436); while two frames are in progress it is owed. No frame starts in a zone that swaps (R423). -/
def Device.lehrSlot (d : Device) (die : Nat) : Device :=
  let d := d.verifyDrop die
  let l := d.lehrOf die
  if d.fenced die then d
  else if 2 ≤ l.busy.length then d.setLehr die { l with owed := true }
  else match l.verify with
    | some (z, p, o, asked) =>
      if d.jobRuns die then d.scrubSlot die
      else if d.on (F.ZN_SWAP_STATUS_SWAPPING (zoneUnit (dieZone die z))) then d
      else if o < 2048 then
        (d.setLehr die { l with verify := some (z, p, o + 1, asked), busy := l.busy ++ [(ordFa z p o, true)] }).ownSend die z 1
      else d
    | none => d.scrubSlot die

/-- LEHR_SLOT (R421 to R423, R436). -/
def execLehrSlot (die : Die) (s : State) : Host.Outcome State Fault Refusal := .next (s.on (fun d => d.lehrSlot die.no))

/-! ## Verification (R435 to R437) -/

/-- The plane under verification has failed (R435, R437). -/
def Device.verifyFail (d : Device) (die z p fa : Nat) (asked : Bool) : Device :=
  let l := d.lehrOf die
  let d := d.setLehr die { l with verify := none, busy := l.busy.filter (fun b => !b.2) }
  let d := (d.setPlaneState (dieZone die z) p Pl.INVALID).reportBad die fa
  if asked then d.lehrCmdEnd die 2 0 else d

/-- The plane under verification has passed its last frame (R395, R435). -/
def Device.verifyPass (d : Device) (die z p : Nat) (asked : Bool) : Device :=
  let d := d.setLehr die { d.lehrOf die with verify := none }
  if asked then d.lehrCmdEnd die 1 0
  else (d.setPlaneState (dieZone die z) p Pl.PARISON).raise Ev.PARISON_READY (U.ZN die z) 0

/-- A frame of the plane under verification has been read (R435). -/
def Device.verifyJudge (d : Device) (s : Stores) (die fa : Nat) : Device × Stores :=
  match (d.lehrOf die).verify with
  | none => (d, s)
  | some (z, p, o, asked) =>
    if !d.verifyHolds die then (d.verifyDrop die, s)
    else
      let j := (s.frame (faSlot die fa)).judge
      if j = .uncorrectable then (d.verifyFail die z p fa asked, s)
      else
        let r := if j = .corrected then d.writeBack s die fa else (d, s)
        let last := decide (2048 ≤ o) && (r.1.lehrOf die).busy.all (fun b => !b.2)
        (if last then r.1.verifyPass die z p asked else r.1, r.2)

/-- The oldest frame in progress is judged. The zone is that of a VERIFYING plane that failed its check. -/
def Device.judgeOldest (d : Device) (s : Stores) (die : Nat) : (Device × Stores) × Option Nat :=
  let l := d.lehrOf die
  match l.busy with
  | [] => ((d, s), none)
  | (fa, verify) :: rest =>
    let d := (d.setLehr die { l with busy := rest }).ownAnswer die (faZone fa) 13
    if verify then
      let n := dieZone die (faZone fa)
      let was := d.planeState n (faPlane fa)
      let r := d.verifyJudge s die fa
      let failed := was = Pl.VERIFYING ∧ r.1.planeState n (faPlane fa) = Pl.INVALID
      (r, if failed then some n else none)
    else
      let r := d.scrubJudge s die fa
      ((r.1.passCheck die, r.2), none)

/-- The oldest frame in progress ends, and the start that a slot left owed follows (R422). -/
def Device.lehrJudge (d : Device) (s : Stores) (die : Nat) : (Device × Stores) × Option Nat :=
  let r := d.judgeOldest s die
  let l := r.1.1.lehrOf die
  if l.owed then (((r.1.1.setLehr die { l with owed := false }).lehrSlot die, r.1.2), r.2) else r

/-- LEHR_VERIFY_START (R436, R437): with the Gather idle, the first zone with a VERIFYING plane, or the plane that
LHR_CMD VERIFY named. -/
def Device.verifyStart (d : Device) (die : Nat) : Device :=
  let d := d.verifyDrop die
  let l := d.lehrOf die
  let zs := (List.range 64).filter (fun z => d.shadowState (dieZone die z) == Pl.VERIFYING)
  if d.jobRuns die ∨ l.verify.isSome ∨ d.fenced die then d
  else match zs with
    | z :: _ => d.setLehr die { l with verify := some (z, d.shadowPlane (dieZone die z), 0, false) }
    | [] => match l.cmd with
      | some (1, z, _) =>
        (d.setLehr die { l with verify := some (z, d.shadowPlane (dieZone die z), 0, true) }).verifyDrop die
      | _ => d

/-- LEHR_VERIFY_START (R436, R437). -/
def execLehrVerifyStart (die : Die) (s : State) : Host.Outcome State Fault Refusal :=
  .next (s.on (fun d => d.verifyStart die.no))

/-! ## Refetch (R430, R431, R434) -/

/-- A refetch ends with an error of Table 15.3 (R431). Values 4 and 6 raise AUTH_FAIL and KEY_LOST; the latter was
raised by the key store as the slot was erased. -/
def Device.refetchFail (d : Device) (die err : Nat) : Device :=
  let u := U.GTH die
  let l := d.lehrOf die
  match l.refetch with
  | none => d
  | some r =>
    let d := d.setLehr die { l with refetch := none }
    let d := match r.slot with | some c => d.keyRelease c | none => d
    let d := if err = 4 then d.raise Ev.AUTH_FAIL u 0 else d
    let d := d.set (F.LHR_CMD_STATUS_ERR u) err
    let d := if r.cmd then d.lehrCmdEnd die 2 err else d
    let d := match d.badPlace die r.fa with
      | none => d
      | some k =>
        if d.on (F.LHR_CTL_ON_FAIL u) then (d.setBad die k 5).lehrHold (dieZone die (faZone r.fa)) else d.setBad die k 4
    d.jobWaited die

/-- A refetch has its frame committed and checked (R430). -/
def Device.refetchOk (d : Device) (die : Nat) : Device :=
  let u := U.GTH die
  let l := d.lehrOf die
  match l.refetch with
  | none => d
  | some r =>
    let d := d.setLehr die { l with refetch := none }
    let d := match r.slot with | some c => d.keyRelease c | none => d
    let d := ((d.clearBadFrame die r.fa).inc (F.LHR_REFETCH_CNT_COUNT u)).set (F.LHR_CMD_STATUS_ERR u) 0
    (if r.cmd then d.lehrCmdEnd die 1 0 else d).jobWaited die

/-- LEHR_REFETCH_START (R430, R431): with the Gather idle, the frame of LHR_CMD REFETCH or the first PENDING
entry. -/
def Device.refetchStart (d : Device) (die : Nat) : Device :=
  let l := d.lehrOf die
  let begin_ (fa : Nat) (cmd : Bool) : Device :=
    let d := d.setLehr die { l with refetch := some { fa := fa, cmd := cmd, hdr := [], slot := none, lost := false, pos := 0 } }
    match d.badPlace die fa with | some k => d.setBad die k 3 | none => d
  if d.jobRuns die ∨ l.refetch.isSome ∨ d.fenced die then d
  else match (d.badList die).find? (fun e => e.2.2 == 2) with
    | some e => begin_ e.2.1 false
    | none => match l.cmd with
      | some (2, _, fa) => begin_ fa true
      | _ => d

/-- LEHR_REFETCH_START (R430, R431). -/
def execLehrRefetchStart (die : Die) (s : State) : Host.Outcome State Fault Refusal :=
  .next (s.on (fun d => d.refetchStart die.no))

/-- The record of the plane that a refetch repairs. -/
def Device.planeRec (d : Device) (n p : Nat) : PlaneRec := if p = 0 then (d.zone n).rec0 else (d.zone n).rec1

/-- The directory and header of a refetch have been read (R430, steps 1 to 3, R376). -/
def Device.refetchStream (d : Device) (die : Nat) (f : FlashDir) (h : List Nat) : Device :=
  let l := d.lehrOf die
  match l.refetch with
  | none => d
  | some r =>
    let d := (d.cmpBegin die).cmpSend die (d.dirReads die f)
    let n := dieZone die (faZone r.fa)
    let p := faPlane r.fa
    let rec_ := d.planeRec n p
    if d.planeState n p ≠ Pl.ACTIVE then d.refetchFail die 8
    else match dirRead f with
      | none => d.refetchFail die 2
      | some (es, _) =>
        let d := d.setCmp die { d.cmpOf die with dir := some es }
        let found := if rec_.kind = 1 then (jobEntries es 0 0 0).head?
          else (zoneEntries es (d.planeKey n p)).find? (fun e => e.zone == faZone r.fa)
        match found with
        | none => d.refetchFail die 3
        | some e =>
          let d := d.cmpSend die (d.cmpReads die e.offset 256)
          if hdrCrc h ≠ rec_.crc then d.refetchFail die 4
          else if !d.mayHold (hdrSlot h) then d.refetchFail die 5
          else (d.keyHold (hdrSlot h)).setLehr die { d.lehrOf die with
            refetch := some { r with hdr := h, slot := some (hdrSlot h), pos := e.offset + 256 } }

/-- The frame that a refetch looks for, in the segments read in order: `none` where a segment fails, else the
words if they were met. -/
def findFrame (key fa : Nat) (h : List Nat) : List (List Nat) → Nat → Option (Option (List Nat))
  | [], s => if s = hdrSegs h then some none else none
  | seg :: rest, s =>
    let o := segOpen key h seg s
    if !prefixGood seg s ∨ !o.2 then none
    else
      let runs := (parseRuns (o.1.length / 168 + 1) o.1).1
      match runs.find? (fun x => x.1 == fa) with
      | some x => some (some x.2)
      | none => findFrame key fa h rest (s + 1)

/-- The segments of a refetch have been read (R430, steps 4 and 5). A stream that does not hold the frame, unless it
is a MEM_INIT frame, is not the image that the plane was loaded from (error 4). -/
def Device.refetchDone (d : Device) (s : Stores) (die : Nat) (segs : List (List Nat)) : Device × Stores :=
  let l := d.lehrOf die
  match l.refetch with
  | none => (d, s)
  | some r =>
    let d := (d.cmpBegin die).cmpSend die (d.cmpReads die r.pos (segs.foldl (fun a x => a + x.length) 0))
    let n := dieZone die (faZone r.fa)
    if r.hdr.isEmpty then (d, s)
    else if d.planeState n (faPlane r.fa) ≠ Pl.ACTIVE then (d.refetchFail die 8, s)
    else
      let inStream := faOf (faZone r.fa) 0 (faType r.fa) (faIndex r.fa)
      let put (w : List Nat) : Device × Stores :=
        let s := s.setFrame (faSlot die r.fa) (frameStore w)
        let d := (d.ownWrite die (faZone r.fa)).ownRead die (faZone r.fa)
        (if (s.frame (faSlot die r.fa)).judge = .uncorrectable then d.refetchFail die 7 else d.refetchOk die, s)
      match findFrame (d.slot (r.slot.getD 0)).key inStream r.hdr segs 0 with
      | some (some w) => put w
      | some none => if faType r.fa = 4 then put (List.replicate 20 0) else (d.refetchFail die 4, s)
      | none => ((d.inc (F.GTH_AUTH_CNT_COUNT (U.GTH die))).refetchFail die 4, s)

/-- LEHR_REFETCH_DONE (R430, R431): `segments` are the segments read, in order from segment 0. -/
def execLehrRefetchDone (die : Die) (segments : List (List Byte)) (s : State) : Host.Outcome State Fault Refusal :=
  .next (s.onBoth (fun d m => d.refetchDone m die.no (segments.map byteVals)))

/-- The refetch of a plane that is no longer ACTIVE is cancelled (R434). -/
def Device.refetchCancel (d : Device) (die : Nat) : Device :=
  match (d.lehrOf die).refetch with
  | none => d
  | some r => if d.planeState (dieZone die (faZone r.fa)) (faPlane r.fa) = Pl.ACTIVE then d else d.refetchFail die 8

/-! ## LHR_CMD (R433, R437 to R439) -/

/-- Why a GO of LHR_CMD is refused (R433, R437 to R439). -/
def Device.lhrRefusal (d : Device) (die op zone : Nat) (force : Bool) : Option Reason :=
  let u := U.GTH die
  let fa := d.get (F.LHR_CMD_FA_FA u)
  let n := dieZone die (if op = 2 then faZone fa else zone)
  if d.on (F.LHR_CMD_GO u) then some .busy
  else if op = 0 ∨ 4 < op ∨ ((op = 2 ∨ op = 4) ∧ !faGood fa) then some .reservedValue
  else if d.fenced die then some .dieFenced
  else if (op = 2 ∨ op = 3) ∧ !d.zoneActive n then some .parisonInvalid
  else if op = 1 ∧ d.shadowState n ≠ Pl.PARISON then some .parisonInvalid
  else if op = 3 ∧ !force ∧ d.zoneHasBad die zone then some .busy
  else if op = 4 ∧ !d.right 0 then some (if d.get F.LC_STATUS_STATE = 3 then .certRequired else .lcForbids)
  else none

/-- The judgement masks of a frame's words: those corrected and those uncorrectable. -/
def wordMask (f : Frame) (j : Judged) : Nat :=
  (List.range 20).foldl (fun a k => if (eccDecode (f.word k)).2 = j then a + 2 ^ k else a) 0

/-- READBACK (R438): the raw frame at LHR_CMD_FA fills the readback registers. -/
def Device.readback (d : Device) (s : Stores) (die : Nat) : Device :=
  let u := U.GTH die
  let fa := d.get (F.LHR_CMD_FA_FA u)
  let f := s.frame (faSlot die fa)
  let d := (d.ownRead die (faZone fa)).each (List.range 20) (fun d k =>
    d.setAll [(F.LHR_RB_DATA_DATA u (2 * k), cwData (f.word k) % 2 ^ 32),
      (F.LHR_RB_DATA_DATA u (2 * k + 1), cwData (f.word k) / 2 ^ 32)])
  let d := d.each (List.range 5) (fun d i => d.set (F.LHR_RB_CHK_CHK u i)
    ((List.range 4).foldl (fun a b => a * 256 + cwCheck (f.word (4 * i + b))) 0))
  d.setAll [(F.LHR_RB_CRC_COMPUTED u, crc16 (frameBytes f.data)), (F.LHR_RB_CRC_STORED u, f.crc.toNat),
    (F.LHR_RB_CORR_WORDS u, wordMask f .corrected), (F.LHR_RB_UNCORR_WORDS u, wordMask f .uncorrectable)]

/-- A GO of LHR_CMD (R437 to R439): its fields are stored (R655); an accepted VERIFY or REFETCH runs with them as they are
now, and is taken up by the Lehr later; RELEASE and READBACK are done at once. -/
def Device.lhrCommand (d : Device) (s : Stores) (die op zone : Nat) (force : Bool) : Device :=
  let u := U.GTH die
  if d.refusalsFull die then d
  else
    let why := d.lhrRefusal die op zone force
    let d := d.setAll [(F.LHR_CMD_OP u, op), (F.LHR_CMD_ZONE u, zone), (F.LHR_CMD_FORCE u, b2n force)]
    match why with
    | some why => d.refuseAt (F.LHR_REFUSE_REASON u) why (F.LHR_CMD_GO u)
    | none =>
      if op = 3 then (d.lehrRelease (dieZone die zone)).lehrCmdEnd die 1 0
      else if op = 4 then (d.readback s die).lehrCmdEnd die 1 0
      else
        (d.setLehr die { d.lehrOf die with cmd := some (op, zone, d.get (F.LHR_CMD_FA_FA u)) }).setAll
          [(F.LHR_CMD_GO u, 1), (F.LHR_CMD_STATUS_RESULT u, 0), (F.LHR_CMD_STATUS_ERR u, 0)]

/-- LHR_CMD_VERIFY (R437, R439). -/
def execLhrCmdVerify (die : Die) (zone : Fin 64) (s : State) : Host.Outcome State Fault Refusal :=
  .next (s.on (fun d => d.lhrCommand s.mem die.no 1 zone.val false))
/-- LHR_CMD_REFETCH (R431, R439): the frame of LHR_CMD_FA. -/
def execLhrCmdRefetch (die : Die) (s : State) : Host.Outcome State Fault Refusal :=
  .next (s.on (fun d => d.lhrCommand s.mem die.no 2 (d.get (F.LHR_CMD_ZONE (U.GTH die.no))) false))
/-- LHR_CMD_RELEASE (R433, R439). -/
def execLhrCmdRelease (die : Die) (zone : Fin 64) (force : Bool) (s : State) : Host.Outcome State Fault Refusal :=
  .next (s.on (fun d => d.lhrCommand s.mem die.no 3 zone.val force))
/-- LHR_CMD_READBACK (R438, R439): the frame of LHR_CMD_FA. -/
def execLhrCmdReadback (die : Die) (s : State) : Host.Outcome State Fault Refusal :=
  .next (s.on (fun d => d.lhrCommand s.mem die.no 4 (d.get (F.LHR_CMD_ZONE (U.GTH die.no))) false))

end Sys2Proof.Machine
end

