-- ==== Sys2Proof/Machine/Gaffer.lean ====
section
/-! DEFINITION. The Gaffer (R412 to R420) and the swap (R396 to R411). -/

namespace Sys2Proof.Machine

/-! ## Small readings -/

/-- The zones of eight set registers (GAF_SETk or GAF_CO_SETk): bit j of register k is zone 32k + j. -/
def Device.setOf (d : Device) (f : Nat → Field) : List Nat :=
  zoneNumbers.filter (fun n => bit (d.get (f (n / 32))) (n % 32))

/-- Write GAF_CO_SET. -/
def Device.writeCoSet (d : Device) (l : List Nat) : Device :=
  d.each (List.range 8) (fun d k =>
    d.set (F.GAF_CO_SET_ZONES k) ((List.range 32).foldl (fun a j => if l.contains (32 * k + j) then a + 2 ^ j else a) 0))

/-- The key of the changeover. -/
def Device.coKey (d : Device) : Nat := d.get F.GAF_KEY_KEY
/-- The zones of the changeover set. -/
def Device.coSet (d : Device) : List Nat := d.setOf F.GAF_CO_SET_ZONES

/-- The changeover's state, and GAF_STATUS.STATE with it: SWAPPING while a swap runs. -/
def Device.setCo (d : Device) (st : Nat) : Device :=
  let d := { d with gaf := { d.gaf with co := st } }
  if d.gaf.swapSet.isEmpty then d.set F.GAF_STATUS_STATE st else d

/-- Does a zone's active plane hold a key? -/
def Device.runsKey (d : Device) (n key : Nat) : Bool := d.zoneActive n && d.planeKey n (d.activePlane n) == key
/-- Does a zone's shadow plane hold a key in one of some states? -/
def Device.shadowHas (d : Device) (n key : Nat) (sts : List Nat) : Bool :=
  sts.contains (d.shadowState n) && d.planeKey n (d.shadowPlane n) == key

/-! ## The end of a changeover (R417, Table 14.5) -/

/-- What an abort with a cause does to the planes of the changeover (Table 14.5). -/
def abortStates (cause : Nat) : List Nat :=
  if cause = 1 then [Pl.STAGING, Pl.VERIFYING, Pl.PARISON]
  else if cause = 8 then [Pl.STAGING, Pl.VERIFYING]
  else if cause = 6 ∨ cause = 7 ∨ cause = 11 then [Pl.STAGING]
  else []

/-- The changeover is over: the Gaffer holds none. -/
def Device.coEnd (d : Device) : Device :=
  { d with gaf := { d.gaf with cur := none, stage := [], run := [], retry := [] } }.setCo 0

/-- Only a new insertion is aborted: causes OVERLAP and QUEUE_FULL, and REMOVED of a pending one (R416, R417). -/
def Device.abortNew (d : Device) (cause : Nat) : Device :=
  (d.set F.GAF_STATUS_CAUSE cause).raise Ev.GAF_ABORT U.GAF 0

/-- The changeover is aborted (R417): its running jobs end with ABORT, its planes as Table 14.5 states. -/
def Device.gafAbort (d : Device) (cause : Nat) : Device :=
  let key := d.coKey
  let d := d.each fabricDies (fun d k =>
    if Tab.get (fun _ => 0) d.gaf.run k ≠ 0 ∧ d.on (F.GTH_STATUS_SOURCE (U.GTH k)) then d.gthAbort k else d)
  let d := d.each (if d.gaf.co = 1 then [] else d.coSet) (fun d n =>
    if d.shadowHas n key (abortStates cause) then d.setPlaneState n (d.shadowPlane n) Pl.INVALID else d)
  let d := d.each fabricDies (fun d k => d.verifyDrop k)
  (d.coEnd.set F.GAF_STATUS_CAUSE cause).raise Ev.GAF_ABORT U.GAF 0

/-! ## Insertions (R412, R413, R416, R601) -/

/-- A changeover begins its LOOKUP (R413). -/
def Device.lookupStart (d : Device) (i : Insertion) : Device :=
  let d := { d with gaf := { d.gaf with cur := some i } }
  (d.setAll [(F.GAF_KEY_KEY, i.key), (F.GAF_STATUS_PORT, i.port)]).setCo 1

/-- GAF_LOOKUP_START (R413, R416, R504): a pending insertion starts once no changeover runs and the device is in
RUN. -/
def Device.lookupNext (d : Device) : Device :=
  match d.gaf.pend with
  | none => d
  | some i =>
    if d.gaf.co = 0 ∧ d.get F.PW_STATUS_STATE = 0 ∧ d.get F.PW_STATUS_PHASE = 0 then
      let d := { d with gaf := { d.gaf with pend := none } }
      (d.setAll [(F.GAF_STATUS_PENDING, 0), (F.GAF_STATUS_PEND_PORT, 0), (F.GAF_PEND_KEY_KEY, 0)]).lookupStart i
    else d

/-- GAF_LOOKUP_START (R413, R416). -/
def execGafLookupStart (s : State) : Host.Outcome State Fault Refusal :=
  .next (s.on (fun d => d.onMck Device.lookupNext))

/-- The candidates of an insertion (R413): die, zone number and entry of every ACTIVE ZONE entry for its key in the
directories of the dies that its die mask names and that are not fenced. -/
def Device.candidates (d : Device) (i : Insertion) : List (Nat × Nat × Nat) :=
  (fabricDies.filter (fun k => bit i.dies (k - 1) && !d.fenced k)).flatMap (fun k =>
    match (d.cmpOf k).dir with
    | none => []
    | some l => (zoneEntries l i.key).map (fun e => (k, dieZone k e.zone, l.findIdx (· == e))))

/-- Do the target zones of an insertion overlap those of the changeover in progress (R22)? They are what its own lookup
gives, in the directories as they were last read (R416; assumption log 13). -/
def Device.overlapsCo (d : Device) (i : Insertion) : Bool :=
  decide (1 < d.gaf.co) && (d.candidates i).any (fun c => d.coSet.contains c.2.1)

/-- Hold an insertion as pending, or abort it where one is held already (R416). -/
def Device.gafPend (d : Device) (i : Insertion) : Device :=
  if d.gaf.pend.isSome then d.abortNew 9
  else
    { d with gaf := { d.gaf with pend := some i } }.setAll
      [(F.GAF_STATUS_PENDING, 1), (F.GAF_STATUS_PEND_PORT, i.port), (F.GAF_PEND_KEY_KEY, i.key)]

/-- An insertion is handed to the Gaffer (R22, R412, R416). -/
def Device.gafInsert (d : Device) (i : Insertion) : Device :=
  if !(d.on F.GAF_CTL_EN && bit (d.get F.GAF_CTL_PORTS) i.port) then d
  else if d.gaf.co = 0 then
    if d.get F.PW_STATUS_STATE = 0 ∧ d.get F.PW_STATUS_PHASE = 0 ∧ d.gaf.pend = none then d.lookupStart i
    else d.gafPend i
  else if i.key = d.coKey then d
  else if d.overlapsCo i then d.abortNew 2
  else d.gafPend i

/-- The part of a port is removed (R26, R417, R601): the changeover that its insertion started aborts unless its
swap is confirmed; a pending insertion of the port is dropped. -/
def Device.gafRemoved (d : Device) (port : Nat) : Device :=
  let mine (o : Option Insertion) : Bool := match o with | some i => i.port == port | none => false
  let d := if mine d.gaf.cur ∧ d.gaf.co ≠ 0 ∧ !(d.gaf.swapCo && !d.gaf.swapSet.isEmpty) then d.gafAbort 1 else d
  if mine d.gaf.pend then
    let d := { d with gaf := { d.gaf with pend := none } }
    (d.setAll [(F.GAF_STATUS_PENDING, 0), (F.GAF_STATUS_PEND_PORT, 0), (F.GAF_PEND_KEY_KEY, 0)]).abortNew 1
  else d

/-- The Gaffer takes something that happened elsewhere. -/
def Device.gafTake (d : Device) : GafLate → Device
  | .insert i => d.gafInsert i
  | .gone port => d.gafRemoved port
  | .abort cause => if d.gaf.co = 0 then d else d.gafAbort cause

/-- The Gaffer runs on MCK: while MCK is stopped what happens elsewhere waits (R79). -/
def Device.gafTell (d : Device) (w : GafLate) : Device :=
  if d.board.mck then d.gafTake w else { d with gaf := { d.gaf with late := d.gaf.late ++ [w] } }

/-- What waited for MCK, in order. -/
def Device.gafLate (d : Device) : Device :=
  d.gaf.late.foldl Device.gafTake { d with gaf := { d.gaf with late := [] } }

/-! ## Staging (R413 to R415) -/

/-- A die's next STAGE_ENTRY (R414): started, refused with BUSY and to be retried, or the changeover aborts. -/
def Device.gafTry (d : Device) (die : Nat) : Device :=
  match Tab.get (fun _ => []) d.gaf.stage die with
  | [] => d
  | (n, e) :: rest =>
    if Tab.get (fun _ => 0) d.gaf.run die ≠ 0 then d
    else match d.gthRefusal die 2 e (d.cmpOf die).dir with
      | none =>
        let g := { d.gaf with stage := Tab.set (fun _ => []) d.gaf.stage die rest,
                              run := Tab.set (fun _ => 0) d.gaf.run die (n + 1),
                              retry := Tab.set (fun _ => 0) d.gaf.retry die 0 }
        ({ d with gaf := g }.setAll [(F.GTH_CMD_OP (U.GTH die), 2), (F.GTH_CMD_ENTRY (U.GTH die), e)]).jobStart die 2 e 1
      | some .busy =>
        let d := d.refuseAt (F.GTH_REFUSE_REASON (U.GTH die)) .busy (F.GTH_CMD_GO (U.GTH die))
        if Tab.get (fun _ => 0) d.gaf.retry die = 0 then
          { d with gaf := { d.gaf with retry := Tab.set (fun _ => 0) d.gaf.retry die (d.get F.GAF_RETRY_TICKS + 1) } }
        else d
      | some .dieFenced => d.gafAbort 11
      | some _ => d.gafAbort 5

/-- GAF_STAGE_RETRY (R414): at a management tick every refused STAGE_ENTRY is tried again. -/
def Device.stageRetry (d : Device) : Device :=
  d.each fabricDies (fun d k =>
    let left := Tab.get (fun _ => 0) d.gaf.retry k
    if left = 0 ∨ d.gaf.co ≠ 2 then d
    else if left = 1 then d.gafAbort 7
    else { d with gaf := { d.gaf with retry := Tab.set (fun _ => 0) d.gaf.retry k (left - 1) } }.gafTry k)

/-- GAF_STAGE_RETRY (R414). -/
def execGafStageRetry (s : State) : Host.Outcome State Fault Refusal :=
  .next (s.on (fun d => d.onMck Device.stageRetry))

/-- A die's staging job of the changeover has ended: the next entry, or STAGE_ERROR (R414, Table 14.5). -/
def Device.gafJobs (d : Device) : Device :=
  d.each fabricDies (fun d k =>
    if d.gaf.co ≠ 2 ∨ Tab.get (fun _ => 0) d.gaf.run k = 0 ∨ d.jobRuns k then d
    else if d.get (F.GTH_STATUS_ERR (U.GTH k)) = 0 then
      { d with gaf := { d.gaf with run := Tab.set (fun _ => 0) d.gaf.run k 0 } }.gafTry k
    else d.gafAbort 5)

/-- READY, and PLANE_LOST from READY (R415). -/
def Device.gafReady (d : Device) : Device :=
  let all := d.coSet.all (fun n => d.shadowHas n d.coKey [Pl.PARISON])
  if d.gaf.co = 2 ∧ all then (d.setCo 3).raise Ev.GAF_READY U.GAF 0
  else if d.gaf.co = 3 ∧ !all ∧ !(d.gaf.swapCo && !d.gaf.swapSet.isEmpty) then d.gafAbort 10
  else d

/-- What the Gaffer does, while MCK runs, after a command that may have ended a job or changed a plane. -/
def Device.gafSettle (d : Device) : Device := d.onMck (fun d => d.gafJobs.gafReady)

/-- The directories of the dies have been read (R413): candidates, the changeover set, and what follows. -/
def Device.lookupDone (d : Device) (dirs : List FlashDir) : Device :=
  match d.gaf.cur with
  | none => d
  | some i =>
    if d.gaf.co ≠ 1 then d
    else
      let dies := fabricDies.filter (fun k => bit i.dies (k - 1) && !d.fenced k)
      let d := dies.foldl (fun d k =>
        let d := (d.cmpBegin k).cmpSend k (((dirs[k - 1]?).map (d.dirReads k)).getD [])
        d.setCmp k { d.cmpOf k with dir := (dirs[k - 1]?).bind (fun f => (dirRead f).map (·.1)) }) d
      let cand := d.candidates i
      let set := (cand.map (·.2.1)).filter (fun n => !d.runsKey n i.key)
      if cand.any (fun c => !bit i.zones c.2.1) then d.gafAbort 4
      else if cand.isEmpty then d.gafAbort 3
      else if set.isEmpty then ((d.writeCoSet []).coEnd).raise Ev.GAF_READY U.GAF 0
      else
        let d := d.writeCoSet set
        let todo (k : Nat) : List (Nat × Nat) := ((cand.filter (fun c => c.1 == k && set.contains c.2.1
          && !d.shadowHas c.2.1 i.key [Pl.STAGING, Pl.VERIFYING, Pl.PARISON])).map (fun c => (c.2.1, c.2.2)))
        let g := { d.gaf with stage := fabricDies.foldl (fun t k => Tab.set (fun _ => []) t k (todo k)) [] }
        let d := { d with gaf := g }.setCo 2
        let d := match d.gaf.pend with
          | some p => if d.overlapsCo p then
              ({ d with gaf := { d.gaf with pend := none } }.setAll [(F.GAF_STATUS_PENDING, 0),
                (F.GAF_STATUS_PEND_PORT, 0), (F.GAF_PEND_KEY_KEY, 0)]).abortNew 2 else d
          | none => d
        (d.each fabricDies (fun d k => if d.gaf.co = 2 then d.gafTry k else d)).gafReady

/-- GAF_LOOKUP_DONE (R413, R372): what each die's flash directory reads as. -/
def execGafLookupDone (d1 d2 d3 d4 : FlashDir) (s : State) : Host.Outcome State Fault Refusal :=
  .next (s.on (fun d => d.onMck (fun d => d.lookupDone [d1, d2, d3, d4])))

/-! ## Swap requests (R396 to R398, Table 14.2) -/

/-- The neighbour of a zone across boundary `k` of R397, if it lies on the die. -/
def neighbour (n k : Nat) : Option Nat :=
  let r := n % 64 / 8
  let c := n % 8
  if k = 0 then (if r = 0 then none else some (n - 8))
  else if k = 1 then (if c = 7 then none else some (n + 1))
  else if k = 2 then (if r = 7 then none else some (n + 8))
  else (if c = 0 then none else some (n - 1))

/-- Does the perimeter check fail at a zone of the set (R398)? -/
def Device.splitAt (d : Device) (s : Stores) (set : List Nat) (n : Nat) : Bool :=
  [0, 1, 2, 3].any (fun k =>
    match neighbour n k with
    | none => false
    | some m =>
      if set.contains m then false
      else
        let theirs := if d.zoneActive m then s.boundary m (d.activePlane m) ((k + 2) % 4) else List.replicate 64 0
        s.boundary n (d.shadowPlane n) k != mirrored theirs)

/-- Does a zone count as one on the reference: it runs there, or it has no clock yet and its incoming plane selects
it? -/
def Device.onRef (d : Device) (n : Nat) : Bool :=
  if d.zcState n = Zc.STOPPED then (d.planeImage n (d.shadowPlane n)).refClk else d.zcState n == Zc.REF
/-- A zone's divider for the alignment of S. -/
def Device.swapDiv (d : Device) (n : Nat) : Nat :=
  if d.zcState n = Zc.STOPPED then (d.planeImage n (d.shadowPlane n)).div
  else d.get (F.ZN_CLK_STATUS_DIV_NOW (zoneUnit n))

/-- The least common multiple of the dividers of the root zones of a set. -/
def Device.setLcm (d : Device) (set : List Nat) : Nat :=
  (set.filter (fun n => !d.onRef n)).foldl (fun a n => Nat.lcm a (max 1 (d.swapDiv n))) 1

/-- Is a zone not aligned for a swap: ALIGNED = 0 on the root, or running on the reference although its image selects
the root (R136, R185, R399)? -/
def Device.unaligned (d : Device) (n : Nat) : Bool :=
  if d.zcState n = Zc.STOPPED then false
  else if d.zcState n = Zc.REF then (d.zone n).noAlign
  else !d.on (F.ZN_CLK_STATUS_ALIGNED (zoneUnit n))

/-- Table 14.2: why a swap is refused, and the zone found at fault. -/
def Device.swapRefusal (d : Device) (s : Stores) (set : List Nat) (host : Bool) : Option (Reason × Nat) :=
  let co := if host ∧ (d.gaf.co = 2 ∨ d.gaf.co = 3) then d.coSet else []
  let busy (n : Nat) : Bool := !d.gaf.swapSet.isEmpty || d.get (F.ZN_RESET_STATUS_STEP (zoneUnit n)) != 0
    || d.zcState n == Zc.SWITCHING || d.zcState n == Zc.GATED || (d.target (zoneStop n)).iso != 0 || co.contains n
  let lc := d.get F.LC_STATUS_STATE
  let first (p : Nat → Bool) : Option Nat := set.find? p
  match set with
  | [] => some (.reservedValue, 0)
  | z :: _ =>
    if lc = 5 ∨ lc = 7 then some (.lcForbids, z)
    else match first (fun n => d.fenced (zoneDie n)) with
      | some n => some (.dieFenced, n)
      | none => match first busy with
        | some n => some (.busy, n)
        | none => match first (fun n => d.shadowState n != Pl.PARISON) with
          | some n => some (.parisonInvalid, n)
          | none => match first (fun n => d.unaligned n || d.onRef n != d.onRef z) with
            | some n => some (.alignmentLost, n)
            | none => match first (fun n => !d.loopLocked n) with
              | some n => some (.loopUnlocked, n)
              | none =>
                if 2 ^ 20 < d.setLcm set then some (.divRange, z)
                else match first (d.splitAt s set) with
                  | some n => some (.swapSetSplit, n)
                  | none => none

/-- A swap request is refused (R396). -/
def Device.swapRefused (d : Device) (why : Reason) (unit : Nat) : Device :=
  let d := d.setAll [(F.GAF_SWAP_STATUS_UNIT, unit), (F.GAF_SWAP_STATUS_REASON, why.code), (F.GAF_SWAP_STATUS_RESULT, 2)]
  (d.refuseAt F.GAF_REFUSE_REASON why F.GAF_CMD_GO).raise Ev.SWAP_REFUSED U.GAF 0

/-- Step 1 of a swap (R400): every zone drains. -/
def Device.swapStart (d : Device) (set : List Nat) (co : Bool) : Device :=
  let g := { d.gaf with swapSet := set, swap := set, swapCo := co, swapAny := false, edge := none, passed := false,
                        forced := [] }
  let d := { d with gaf := g }
  let d := d.setAll [(F.GAF_STATUS_STATE, 4), (F.GAF_CMD_GO, 1), (F.GAF_SWAP_STATUS_RESULT, 0)]
  d.each set (fun d n => (d.drain n true).setAll
    [(F.ZN_SWAP_STATUS_SWAPPING (zoneUnit n), 1), (F.ZN_SWAP_STATUS_STEP (zoneUnit n), 1)])

/-- A swap request for a set: judged and started (R396, R400). -/
def Device.swapRequest (d : Device) (s : Stores) (set : List Nat) (co : Bool) : Device :=
  match d.swapRefusal s set (!co) with
  | some (why, n) => d.swapRefused why (if set.isEmpty then 0 else zoneUnit n)
  | none => d.swapStart set co

/-- CONFIRM, by the host or by autoswap (R418, R419). -/
def Device.gafConfirm (d : Device) (s : Stores) : Device :=
  if d.get F.GAF_STATUS_STATE ≠ 3 then
    d.swapRefused .parisonInvalid
      (match d.coSet.find? (fun n => !d.shadowHas n d.coKey [Pl.PARISON]) with | some n => zoneUnit n | none => 0)
  else d.swapRequest s d.coSet true

/-- GAF_CMD with GO, for any OP (R396, R418). -/
def Device.gafCommand (d : Device) (s : Stores) (op : Nat) : Device :=
  let d := d.set F.GAF_CMD_OP op
  if op = 1 then d.gafConfirm s
  else if op = 2 then d.swapRequest s (d.setOf F.GAF_SET_ZONES) false
  else if op = 3 then (if d.gaf.co ≠ 0 ∧ !(d.gaf.swapCo && !d.gaf.swapSet.isEmpty) then d.gafAbort 8 else d)
  else d.swapRefused .reservedValue 0

/-- GAF_CONFIRM (R418, R396). -/
def execGafConfirm (s : State) : Host.Outcome State Fault Refusal :=
  .next (s.on (fun d => d.onMck (fun d => d.gafCommand s.mem 1)))
/-- GAF_SWAP (R396, R398, R400). -/
def execGafSwap (s : State) : Host.Outcome State Fault Refusal :=
  .next (s.on (fun d => d.onMck (fun d => d.gafCommand s.mem 2)))
/-- GAF_CANCEL (R417, R418). -/
def execGafCancel (s : State) : Host.Outcome State Fault Refusal :=
  .next (s.on (fun d => d.onMck (fun d => d.gafCommand s.mem 3)))

/-- A rising edge of standstill acts as CONFIRM while READY, with GAF_AUTOSWAP on (R23, R419). -/
def Device.autoswap (d : Device) (s : Stores) : Device :=
  if d.on F.GAF_STATUS_AUTOSWAP ∧ d.get F.GAF_STATUS_STATE = 3 ∧ d.board.mck then d.gafConfirm s else d

/-! ## The swap's steps (R399 to R411) -/

/-- The swap has ended: the Gaffer's STATE is the changeover's again. -/
def Device.swapOver (d : Device) : Device :=
  let g := { d.gaf with swapSet := [], swap := [], swapCo := false, swapAny := false, edge := none, passed := false,
                        forced := [] }
  ({ d with gaf := g }.set F.GAF_CMD_GO 0).setCo d.gaf.co

/-- A swap is abandoned before S (R401): every stop is released and no plane changes. -/
def Device.swapAbandon (d : Device) (why : Reason) (n : Nat) : Device :=
  let d := d.each d.gaf.swapSet (fun d m =>
    let d := if (d.target (zoneStop m)).iso = 2 then d.isoRelease (zoneStop m) else d.drain m false
    d.setAll [(F.ZN_SWAP_STATUS_SWAPPING (zoneUnit m), 0), (F.ZN_SWAP_STATUS_STEP (zoneUnit m), 0),
      (F.ZN_SWAP_STATUS_ABANDONED (zoneUnit m), 1)])
  let d := d.setAll [(F.GAF_SWAP_STATUS_UNIT, zoneUnit n), (F.GAF_SWAP_STATUS_REASON, why.code),
    (F.GAF_SWAP_STATUS_RESULT, 3)]
  (d.swapOver.refuseAt F.GAF_REFUSE_REASON why F.GAF_CMD_GO).raise Ev.SWAP_REFUSED U.GAF 0

/-- Has S passed for the swap that runs (R401, R402)? -/
def Device.pastS (d : Device) : Bool :=
  d.gaf.passed || (d.gaf.edge.isSome && decide (d.gaf.edge.getD 0 ≤ d.clk.mt))

/-- A loop has left LOCKED: a swap before S of one of its zones is abandoned (R401). -/
def Device.swapLoopCheck (d : Device) : Device :=
  if d.pastS then d
  else match d.gaf.swapSet.find? (fun n => !d.loopLocked n) with
    | some n => d.swapAbandon .loopUnlocked n
    | none => d

/-- Have all zones of the set reported their isolation? -/
def Device.swapReported (d : Device) : Bool :=
  !d.gaf.swapSet.isEmpty && d.gaf.swapSet.all (fun n => d.get (F.ZN_SWAP_STATUS_STEP (zoneUnit n)) == 2)

/-- The switch edge for a set whose last report has come now (R399). -/
def Device.switchEdge (d : Device) (set : List Nat) : Nat :=
  if set.any (fun n => !d.onRef n) then alignedFrom d.clk.epoch (d.setLcm set) (d.clk.mt + 1024)
  else d.clk.mt + roundUp 1024 (max 1 d.clk.mult)

/-- Step 3 (R399, R403): with every report in and MCK running, S is fixed; for a set on the reference the reference
must run. -/
def Device.swapFix (d : Device) : Device :=
  let set := d.gaf.swapSet
  if !d.swapReported ∨ d.gaf.edge.isSome ∨ !d.board.mck ∨ (set.all d.onRef ∧ d.clk.osc ≠ Osc.STABLE) then d
  else
    let e := d.switchEdge set
    { d with gaf := { d.gaf with edge := some e } }.setAll
      [(F.GAF_SWITCH_LO_S, e % 2 ^ 32), (F.GAF_SWITCH_HI_S, e / 2 ^ 32)]

/-- Step 2 (R400): a drained zone is isolated and reports. -/
def Device.swapIsolate (d : Device) (n : Nat) : Device :=
  ((d.isolate (zoneStop n) 2).set (F.ZN_SWAP_STATUS_STEP (zoneUnit n)) 2).swapFix

/-- Is a zone at a step of a swap, on a die that is not fenced? -/
def Device.atStep (d : Device) (n step : Nat) : Bool :=
  d.gaf.swap.contains n && d.get (F.ZN_SWAP_STATUS_STEP (zoneUnit n)) == step && !d.fenced (zoneDie n)

/-- Has the Lehr no frame of a zone in progress (R423)? -/
def Device.lehrClear (d : Device) (n : Nat) : Bool :=
  (d.lehrOf (zoneDie n)).busy.all (fun b => faZone b.1 != n % 64)

/-- A drained zone reports its isolation once the Lehr has no frame of it in progress; a forced one needs no more (R400,
R401, R423). -/
def Device.swapDrained (d : Device) (n : Nat) : Device :=
  if d.atStep n 1 && (d.zoneDrained n || d.gaf.forced.contains n) && d.lehrClear n then d.swapIsolate n else d

/-- The zones whose forced drain only waited for a frame of the Lehr (R401, R423). -/
def Device.swapForced (d : Device) : Device := d.each d.gaf.forced Device.swapDrained

/-- SWAP_ZONE_DRAINED (R400, R423, R399). -/
def execSwapZoneDrained (z : ZoneId) (s : State) : Host.Outcome State Fault Refusal :=
  .next (s.on (fun d => d.swapDrained z.no))

/-- The requests of a zone's port, and of the link port that it anchors, are abandoned (R310, R357, R407). -/
def Device.abandonZone (d : Device) (n : Nat) : Device :=
  let d := d.abandonPort (zoneStop n)
  if d.anchored n then d.abandonPort (640 + zoneDie n) else d

/-- The drain limit is reached (R401): the swap is abandoned, or the drain forced. -/
def Device.swapLimit (d : Device) (n : Nat) : Device :=
  if !d.atStep n 1 then d
  else if d.on F.GAF_CTL_FORCE then
    ({ d with gaf := { d.gaf with forced := d.gaf.forced ++ [n] } }.abandonZone n).swapDrained n
  else d.swapAbandon .notDrained n

/-- SWAP_DRAIN_LIMIT (R401). -/
def execSwapDrainLimit (z : ZoneId) (s : State) : Host.Outcome State Fault Refusal :=
  .next (s.on (fun d => d.swapLimit z.no))

/-- The zone's clock follows the new plane (R407): unchanged, or a stop-switch-restart with t_s = S. -/
def Device.swapClock (d : Device) (n e : Nat) : Device :=
  let i := d.image n
  let st := d.zcState n
  if st = Zc.STOPPED then d.startClock n
  else if i.refClk then
    if st = Zc.REF then d
    else
      let d := d.modClk n (fun c => { c with heldRef := false })
      let g := d.refGap n
      (d.tick.zoneOnRef n).writeGap n 1 g (g - 1)
  else if st = Zc.REF ∨ d.get (F.ZN_CLK_STATUS_DIV_NOW (zoneUnit n)) ≠ i.div then
    let tr := alignedFrom d.clk.epoch i.div (e + 8)
    let g := tr - e
    (d.zoneOnRoot n i.div tr).writeGap n 0 g (roundUp g i.div / i.div - 1)
  else d.modClk n (fun c => { c with lastEdge := e })

/-- RAW and ARM of the zone's ECC test block clear without DONE (R340). -/
def Device.eccClear (d : Device) (u : Nat) : Device :=
  let d := d.wr (eccBlock u + 4) (clearBit (d.rd (eccBlock u + 4)) 0)
  d.wr (eccBlock u + 0x1C) (clearBit (d.rd (eccBlock u + 0x1C)) 0)

/-- Steps 4 and 5 of one zone at S = `e` (R404 to R407, R410, R434), after the freeze. -/
def Device.swapExchange (d : Device) (n e : Nat) : Device :=
  let u := zoneUnit n
  let die := zoneDie n
  let old := d.activePlane n
  let had := d.zoneActive n
  let bad := d.planeHasBad die (n % 64) old
  let d := ((d.setStage n .none).abandonZone n).eccClear u
  let d := d.makeActive n (1 - old)
  let d := d.setPlaneState n old (if had && !bad then Pl.PARISON else Pl.INVALID)
  let d := ((d.clearBadPlane die (n % 64) old).refetchCancel die).swapClock n e
  (d.modZone n (fun z => { z with relEdges := 0 })).set (F.ZN_SWAP_STATUS_STEP u) 3

/-- SWAP_SWITCH_EDGE (R402, R404 to R407): at S every zone of the set that is not fenced and whose clock is not held
freezes and exchanges its planes. A zone whose clock is held follows when its clock runs. -/
def Device.swapEdge (d : Device) : Device :=
  match d.gaf.edge with
  | none => d
  | some e =>
    let go := d.gaf.swap.filter (fun n => d.atStep n 2 && (d.clockRuns n || decide (d.zcState n = Zc.STOPPED)))
    let d := { d with gaf := { d.gaf with passed := true } }
    let d := d.each go (fun d n => d.freeze n)
    let d := d.each go (fun d n => d.each (List.range 16) (fun d ep => d.freezeOut d.gaf.swapSet n ep))
    d.each go (fun d n => d.swapExchange n e)

/-- SWAP_SWITCH_EDGE (R404). -/
def execSwapSwitchEdge (s : State) : Host.Outcome State Fault Refusal := .next (s.on Device.swapEdge)

/-- Is a zone past S with an initialising incoming plane (R408)? -/
def Device.initialises (d : Device) (n : Nat) : Bool := d.planeInit n (d.activePlane n)

/-- The release of step 7 begins: STEP = RELEASE, and GOE (Table 14.3, R149). -/
def Device.swapGoe (d : Device) (n : Nat) : Device :=
  ((d.bankGoe n).setStage n .goe).set (F.ZN_SWAP_STATUS_STEP (zoneUnit n)) 5

/-- SWAP_MEM_INIT_DONE (R408): step 6 has zeroed the memories and written the named rows, and the release begins. -/
def Device.swapInit (d : Device) (s : Stores) (n : Nat) : Device × Stores :=
  if (d.atStep n 4 || d.atStep n 3 && d.initialises n) && d.clockRuns n then
    (d.swapGoe n, d.memInit s n (d.activePlane n))
  else (d, s)

/-- What a rising edge of a swapping zone's clock does to its steps (Table 14.3): the first edge on the new plane ends
step 5, and begins step 6 or 7; in step 7 GWE comes 8 edges after GOE (R147). -/
def Device.swapZoneEdge (d : Device) (n : Nat) : Device :=
  if d.atStep n 3 then
    if d.initialises n then d.set (F.ZN_SWAP_STATUS_STEP (zoneUnit n)) 4 else d.swapGoe n
  else if d.atStep n 5 then
    let k := (d.zone n).relEdges + 1
    let d := d.modZone n (fun z => { z with relEdges := k })
    if k = 8 then d.setStage n .gwe else d
  else d

/-- SWAP_MEM_INIT_DONE (R408). -/
def execSwapMemInitDone (z : ZoneId) (s : State) : Host.Outcome State Fault Refusal :=
  .next (s.onBoth (fun d m => d.swapInit m z.no))

/-- The last zone that can complete has completed (R410, R420): SWAP_DONE, SWAPS, and the changeover's end. -/
def Device.swapComplete (d : Device) : Device :=
  if !d.gaf.swap.isEmpty ∨ d.gaf.swapSet.isEmpty then d
  else if !d.gaf.swapAny then d.swapOver
  else
    let co := d.gaf.swapCo
    let d := (d.set F.GAF_SWAP_STATUS_RESULT 1).swapOver
    let d := if co then d.coEnd else d
    (d.lifeAdd 2 1).raise Ev.SWAP_DONE U.GAF 0

/-- Steps 7 and 8 (R400, R405, R410): the zone-local release has ended with GRR and the stop is released. -/
def Device.swapReleased (d : Device) (n : Nat) : Device :=
  if !((d.atStep n 5 || d.atStep n 3 && !d.initialises n) && d.clockRuns n) then d
  else
    let u := zoneUnit n
    let d := if (d.zone n).stage = .none then d.bankGoe n else d
    let d := (d.setStage n .grr).isoRelease (zoneStop n)
    let d := d.modZone n (fun z => { z with frozen := false })
    let d := d.setAll [(F.ZN_SWAP_STATUS_STEP u, 0), (F.ZN_SWAP_STATUS_SWAPPING u, 0), (F.ZN_SWAP_STATUS_DONE u, 1)]
    { d with gaf := { d.gaf with swap := d.gaf.swap.filter (· != n), swapAny := true } }.swapComplete

/-- SWAP_ZONE_RELEASED (R410). -/
def execSwapZoneReleased (z : ZoneId) (s : State) : Host.Outcome State Fault Refusal :=
  .next (s.on (fun d => d.swapReleased z.no))

/-- The zones of a fenced die leave the swap: before S it is abandoned, after S they complete no further step
(R401, R402). Called as the die is fenced. -/
def Device.swapFenced (d : Device) (die : Nat) : Device :=
  match d.gaf.swapSet.find? (fun n => zoneDie n = die) with
  | none => d
  | some n =>
    if d.pastS then
      { d with gaf := { d.gaf with swap := d.gaf.swap.filter (fun m => zoneDie m != die) } }.swapComplete
    else d.swapAbandon .dieFenced n

end Sys2Proof.Machine
end

