-- ==== Sys2Proof/Machine/Identity.lean ====
section
/-! DEFINITION. Format-part identity ports (chapter 23): presence, descriptor reads, the machine-cycle counter, memory
writes, commands. The memory lies outside the device: what it answers arrives as operands. -/

namespace Sys2Proof.Machine

/-- A port's own state. -/
def Device.idPort (d : Device) (k : Nat) : IdPort := Tab.get (fun _ => IdPort.idle) d.ident k
/-- The device with a port's own state replaced. -/
def Device.setId (d : Device) (k : Nat) (p : IdPort) : Device :=
  { d with ident := Tab.set (fun _ => IdPort.idle) d.ident k p }
/-- IDR_PORTk_STATUS.STATE (Table 23.1). -/
def Device.idState (d : Device) (k : Nat) : Nat := d.get (F.IDR_PORT_STATUS_STATE k)
/-- Set a port's state; CACHE_VALID reads 1 only in READY (R593). -/
def Device.setIdState (d : Device) (k st : Nat) : Device :=
  d.setAll [(F.IDR_PORT_STATUS_STATE k, st), (F.IDR_PORT_STATUS_CACHE_VALID k, b2n (st == 4))]
/-- The state of a port, behind REMOVING. -/
def Device.idCur (d : Device) (k : Nat) : Nat := if d.idState k = 6 then (d.idPort k).back else d.idState k
/-- Set the state of a port, behind REMOVING. -/
def Device.setIdCur (d : Device) (k st : Nat) : Device :=
  if d.idState k = 6 then d.setId k { d.idPort k with back := st } else d.setIdState k st

/-- A report (R606, Table 23.4). -/
def Device.idReport (d : Device) (k kind reason : Nat) : Device :=
  (d.set (F.IDR_PORT_STATUS_REASON k) reason).raise (Ev.IDENT_PORT k) U.IDR (reason * 256 + kind * 16 + k)

/-- Do the bus engines and debounce timers work: the reference is STABLE (R584, R587)? -/
def Device.idRuns (d : Device) : Bool := d.pSvc && d.clk.osc == Osc.STABLE

/-! ## The descriptor (R592, R594, R595) -/

/-- The `n` bytes from offset `o` of the 256 bytes of a memory, most significant first. -/
def memField (m o n : Nat) : Nat := m / 2 ^ (8 * (256 - o - n)) % 2 ^ (8 * n)

/-- The reason of the first failing row of Table 23.2, 0 where the descriptor is accepted. -/
def descBad (m : Nat) : Nat :=
  let dies := memField m 6 1
  let cls := memField m 5 1
  if memField m 0 4 ≠ 0x5A465044 then 4
  else if memField m 4 1 ≠ 1 then 5
  else if memField m 0x7C 4 ≠ crc32 (beBytes 0x7C (memField m 0 0x7C)) then 6
  else if !(cls == 0xFF || (decide (1 ≤ cls) && decide (cls ≤ 5))) || dies == 0 || decide (16 ≤ dies)
      || decide (memField m 7 1 ≠ 0) || decide (memField m 0x10 4 = 0) || decide (memField m 0x14 4 ≠ 0)
      || (List.range 4).any (fun i => !bit dies i && decide (memField m (0x18 + 8 * i) 8 ≠ 0))
      || decide (memField m 0x78 4 ≠ 0) then 7
  else 0

/-- The bytes of a counter cell as one number (R106, R595). -/
def cellBytes (seq val : Nat) : Nat :=
  (seq % 2 ^ 24 * 2 ^ 32 + val % 2 ^ 32) * 256 + crc8 (beBytes 3 seq ++ beBytes 4 val)

/-- The valid counter cells of a memory: number, sequence, value (R106, R595). -/
def idCells (m : Nat) : List (Nat × Nat × Nat) :=
  (List.range 16).filterMap (fun c =>
    let w := memField m (0x80 + 8 * c) 8
    let s := w / 2 ^ 40
    let v := w / 256 % 2 ^ 32
    if w = 2 ^ 64 - 1 ∨ cellBytes s v ≠ w then none else some (c, s, v))

/-- The cells that satisfy R107. -/
def idTop (l : List (Nat × Nat × Nat)) : List (Nat × Nat × Nat) :=
  l.filter (fun e => l.all (fun o => decide ((e.2.1 + 2 ^ 24 - o.2.1) % 2 ^ 24 < 2 ^ 23)))

/-- Of several cells the one with the larger value (R598). -/
def largerCell (a : Option (Nat × Nat × Nat)) (e : Nat × Nat × Nat) : Option (Nat × Nat × Nat) :=
  match a with
  | none => some e
  | some o => if o.2.2 < e.2.2 then some e else some o

/-- The counter as the memory read holds it (R595, R598). -/
def Device.idCount (d : Device) (k m : Nat) : Device :=
  let top := idTop (idCells m)
  let d := if top.any (fun a => top.any (fun b => a.2.2 != b.2.2)) then d.set (F.IDR_PORT_STATUS_CNT_AMBIG k) 1 else d
  match top.foldl largerCell none with
  | some (c, s, v) => d.setAll [(F.IDR_PORT_STATUS_CNT_BAD k, 0), (F.IDR_PORT_SEQ_SEQ k, s), (F.IDR_PORT_COUNT_VALUE k, v),
      (F.IDR_PORT_STATUS_NEXT_CELL k, (c + 1) % 16)]
  | none => d.setAll [(F.IDR_PORT_STATUS_CNT_BAD k, 1), (F.IDR_PORT_SEQ_SEQ k, 0), (F.IDR_PORT_COUNT_VALUE k, 0),
      (F.IDR_PORT_STATUS_NEXT_CELL k, 0)]

/-- The 256 bytes in a port's cache as one number (R593). -/
def Device.idCache (d : Device) (k : Nat) : Nat :=
  (List.range 64).foldl (fun a i => a * 2 ^ 32 + d.get (F.IDR_DESC_BYTES (64 * k + i))) 0

/-- The handoff to the Gaffer from the cached descriptor (R594). -/
def Device.idHand (d : Device) (k : Nat) : Device :=
  let m := d.idCache k
  let mask (i : Nat) : Nat := memField m (0x18 + 8 * i) 8
  let i : Insertion :=
    { port := k, key := memField m 0x10 4, dies := memField m 6 1,
      zones := mask 0 + mask 1 * 2 ^ 64 + mask 2 * 2 ^ 128 + mask 3 * 2 ^ 192 }
  d.gafTell (.insert i)

/-! ## Reading (R590, R591, R593) -/

/-- Start a descriptor read where one may start (R584, R590). -/
def Device.idReadGo (d : Device) (k : Nat) : Device :=
  let p := d.idPort k
  if p.tx = 0 ∧ p.raw ∧ d.idRuns ∧ d.idCur k = 3 then d.setId k { p with tx := 1, due := false } else d

/-- A read of the descriptor from its first attempt: for an insertion, or a REREAD. -/
def Device.idRead (d : Device) (k : Nat) (fresh : Bool) : Device :=
  let d := d.setIdCur k 3
  (d.setId k { d.idPort k with again := false, due := false, fresh := fresh }).idReadGo k

/-- IDR_CMD no longer runs on port `k`. -/
def Device.idCmdEnd (d : Device) (k : Nat) : Device :=
  let p := d.idPort k
  if p.cmd then (d.setId k { p with cmd := false }).set F.IDR_CMD_GO 0 else d

/-- A descriptor read ends in READY or BAD (R591, R592, R594, R599). A READY that is reached while presence reads
inactive is handed over when presence returns. -/
def Device.idReadEnd (d : Device) (k reason : Nat) : Device :=
  let fresh := (d.idPort k).fresh
  let d := (d.setIdCur k (if reason = 0 then 4 else 5)).idReport k (if reason = 0 then 2 else 3) reason
  let d := d.idCmdEnd k
  if reason ≠ 0 then d
  else
    let d := (d.setId k { d.idPort k with fails := 0 }).set (F.IDR_PORT_STATUS_WR_STOPPED k) 0
    if !fresh then d
    else if d.idState k = 6 then d.setId k { d.idPort k with hand := true }
    else d.idHand k

/-- A bus reason ends a descriptor read: repeated once, DEB_MS later, then BAD (R591). -/
def Device.idReadFail (d : Device) (k reason : Nat) : Device :=
  let d := (d.setId k { d.idPort k with tx := 0 }).inc (F.IDR_PORT_ERR_CNT_COUNT k)
  if (d.idPort k).again then d.idReadEnd k reason
  else d.setId k { d.idPort k with again := true, due := true }

/-- A descriptor read ends (R591 to R595): `reason` 0, or the bus reason that ended it. -/
def Device.idReadDone (d : Device) (k reason m : Nat) : Device :=
  if (d.idPort k).tx ≠ 1 then d
  else if reason ≠ 0 then d.idReadFail k reason
  else
    let d := d.setId k { d.idPort k with tx := 0 }
    let d := d.each (List.range 64) (fun d i => d.set (F.IDR_DESC_BYTES (64 * k + i)) (memField m (4 * i) 4))
    (d.idCount k m).idReadEnd k (descBad m)

/-! ## Presence (R588, R589, R601) -/

/-- Presence reads active (R588). -/
def Device.idPresent (d : Device) (k : Nat) : Bool :=
  (d.sigPins (0x40 + k)).length == 1 && d.sigLevel (0x40 + k) == d.on (F.IDR_PORT_CFG_PRES_POL k)

/-- The presence input of a port is looked at: a change moves the port and restarts the debounce (R589, Table 23.1). A part
that was in the socket before the reference failed is one whose removal counts (R26, R587). -/
def Device.idPresence (d : Device) (k : Nat) : Device :=
  let p := d.idPort k
  let now := d.idPresent k
  let st := d.idState k
  if st = 0 ∨ now = p.raw ∨ !d.pSvc then d
  else
    let d := d.setId k { p with raw := now }
    if now then
      if st = 1 then (d.setId k { d.idPort k with deb := p.deb && !p.kept }).setIdState k 2
      else if st = 6 then
        let d := (d.setIdState k p.back).setId k { d.idPort k with back := 0, hand := false }
        if p.back = 4 ∧ p.hand then d.idHand k
        else if p.back = 3 ∧ p.tx = 0 ∧ !p.due then d.idRead k p.fresh
        else d
      else d
    else if st = 2 then (d.setId k { d.idPort k with deb := p.kept }).setIdState k 1
    else if st = 3 ∨ st = 4 ∨ st = 5 then (d.setId k { d.idPort k with back := st }).setIdState k 6
    else d

/-- A number added to one of 32 bits; the manual gives no value for a sum beyond 32 bits, so that is free. -/
def Device.sum32 (d : Device) (a b : Nat) : Nat :=
  if a + b < 2 ^ 32 then a + b else (Config.freeDword d.free).toNat % 2 ^ 32

/-- The removal of a part (R601): the transaction ends, PENDING goes to LOST, REMOVED is reported. With EN cleared the
Gaffer is not told (R605). -/
def Device.idRemoval (d : Device) (k st : Nat) (tell : Bool) : Device :=
  let p := d.idPort k
  let lost := min (2 ^ 32 - 1) (d.get (F.IDR_PORT_LOST_DELTA k) + d.get (F.IDR_PORT_PENDING_DELTA k))
  let d := (d.idCmdEnd k).setAll [(F.IDR_PORT_LOST_DELTA k, lost), (F.IDR_PORT_PENDING_DELTA k, 0)]
  let d := (d.setId k { IdPort.idle with raw := p.raw && st != 0 }).setIdState k st
  let d := if p.deb then d.idReport k 4 0 else d
  if tell then d.gafTell (.gone k) else d

/-- A change of presence has held for DEB_MS (R589). -/
def Device.idDebounced (d : Device) (k : Nat) : Device :=
  let p := d.idPort k
  if p.raw = p.deb ∨ !d.idRuns then d
  else if p.raw then
    let d := d.setId k { p with deb := true, kept := false }
    if d.idState k = 2 then
      let d := (d.idReport k 1 0).setAll [(F.IDR_PORT_STATUS_WR_STOPPED k, 0)]
      (d.setId k { d.idPort k with fails := 0, redo := none }).idRead k true
    else d
  else if d.idState k = 6 ∨ p.kept then d.idRemoval k 1 true
  else d.setId k { p with deb := false }

/-- The reference fails: SCL and SDA are released and every transaction is abandoned (R587). -/
def Device.idOscFail (d : Device) : Device :=
  d.each (List.range 8) (fun d k =>
    let d := d.idCmdEnd k
    let p := d.idPort k
    d.setId k { p with tx := 0, due := false, wr := none })

/-- The reference is back after OSC_RESTART: every enabled port whose presence reads active is handled as a new
insertion (R587). -/
def Device.idOscBack (d : Device) : Device :=
  d.each (List.range 8) (fun d k =>
    let st := d.idState k
    if st = 0 then d
    else
      let p := d.idPort k
      let d := d.setId k { p with raw := d.idPresent k, kept := p.deb || p.kept }
      if (d.idPort k).raw then (d.setId k { d.idPort k with deb := false, back := 0, hand := false }).setIdState k 2
      else if st = 2 then (d.setId k { d.idPort k with deb := (d.idPort k).kept }).setIdState k 1
      else if st = 3 ∨ st = 4 ∨ st = 5 then (d.setId k { d.idPort k with back := st }).setIdState k 6
      else d)

/-! ## Writing (R596 to R600) -/

/-- Put a write on the bus where one may start (R584, R590). -/
def Device.idWriteGo (d : Device) (k : Nat) (w : IdWrite) : Device :=
  let p := d.idPort k
  d.setId k { p with wr := some w, tx := if p.tx = 0 ∧ p.raw ∧ d.idRuns then 2 else p.tx }

/-- The next counter cell write starts where there is something to write (R597 to R599), or a cell of CNT_INIT that
waited for presence. With no current cell the manual gives no sequence to follow: a free one (assumption logs 3, 8). -/
def Device.idCellStart (d : Device) (k : Nat) : Device :=
  let p := d.idPort k
  if p.tx ≠ 0 ∨ !p.raw ∨ !d.idRuns ∨ d.idState k ≠ 4 then d
  else match p.wr with
    | some w => d.idWriteGo k w
    | none =>
      let pend := d.get (F.IDR_PORT_PENDING_DELTA k)
      let cell := d.get (F.IDR_PORT_STATUS_NEXT_CELL k)
      if pend = 0 ∨ d.on (F.IDR_PORT_STATUS_WR_STOPPED k) then d
      else match p.redo with
        | some w => (d.set (F.IDR_PORT_PENDING_DELTA k) (pend - w.delta)).idWriteGo k { w with cell := cell }
        | none =>
          let seq := if d.on (F.IDR_PORT_STATUS_CNT_BAD k) then d.freeBelow (2 ^ 24)
            else (d.get (F.IDR_PORT_SEQ_SEQ k) + 1) % 2 ^ 24
          (d.tick.set (F.IDR_PORT_PENDING_DELTA k) 0).idWriteGo k
            { kind := 0, cell := cell, seq := seq, val := (d.get (F.IDR_PORT_COUNT_VALUE k) + pend) % 2 ^ 32, delta := pend }

/-- A write fails with a reason (R598, R599). -/
def Device.idWriteFail (d : Device) (k reason : Nat) : Device :=
  let p := d.idPort k
  match p.wr with
  | none => d
  | some w =>
    let n := p.fails + 1
    let d := (d.setId k { p with tx := 0, wr := none, fails := n }).inc (F.IDR_PORT_ERR_CNT_COUNT k)
    let d := if w.kind = 0 then
        let d := d.tick.set (F.IDR_PORT_PENDING_DELTA k) (d.sum32 (d.get (F.IDR_PORT_PENDING_DELTA k)) w.delta)
        (d.setId k { d.idPort k with redo := some w }).set (F.IDR_PORT_STATUS_NEXT_CELL k) ((w.cell + 1) % 16)
      else d.idCmdEnd k
    let d := if 4 ≤ n then d.set (F.IDR_PORT_STATUS_WR_STOPPED k) 1 else d
    d.idReport k 6 reason

/-- A write succeeds (R597, R600, R604, R606). -/
def Device.idWriteOk (d : Device) (k : Nat) (w : IdWrite) : Device :=
  let d := d.setId k { d.idPort k with tx := 0, wr := none, fails := 0 }
  if w.kind = 2 then (d.idCmdEnd k).idReport k 5 0
  else
    let d := d.inc (F.IDR_PORT_WR_CNT_COUNT k)
    if w.kind = 0 then
      let d := d.setAll [(F.IDR_PORT_STATUS_CNT_BAD k, 0), (F.IDR_PORT_SEQ_SEQ k, w.seq), (F.IDR_PORT_COUNT_VALUE k, w.val),
        (F.IDR_PORT_STATUS_NEXT_CELL k, (w.cell + 1) % 16)]
      (d.setId k { d.idPort k with redo := none }).idReport k 5 0
    else if w.cell = 0 then
      let d := d.setAll [(F.IDR_PORT_STATUS_CNT_BAD k, 0), (F.IDR_PORT_SEQ_SEQ k, 0), (F.IDR_PORT_COUNT_VALUE k, w.delta),
        (F.IDR_PORT_STATUS_NEXT_CELL k, 1), (F.IDR_PORT_PENDING_DELTA k, 0)]
      ((d.setId k { d.idPort k with redo := none }).idCmdEnd k).idReport k 5 0
    else (d.idReport k 5 0).idWriteGo k { w with cell := (w.cell + 1) % 16 }

/-- The bytes that a write puts into the memory, as one number, and how many they are. -/
def IdWrite.bytes (w : IdWrite) : Nat × Nat :=
  if w.kind = 0 then (cellBytes w.seq w.val, 8)
  else if w.kind = 1 then (if w.cell = 0 then cellBytes 0 w.delta else 2 ^ 64 - 1, 8)
  else (w.val, w.seq)

/-- A read-back has ended (R596, R598): with a bus reason, or with bytes that equal what was written or do not. -/
def Device.idVerify (d : Device) (k reason data : Nat) : Device :=
  let p := d.idPort k
  match p.wr with
  | none => d
  | some w =>
    if p.tx < 2 then d
    else if reason ≠ 0 then d.idWriteFail k reason
    else if p.tx ≠ 4 then d
    else if data % 2 ^ (8 * w.bytes.2) = w.bytes.1 then d.idWriteOk k w
    else d.idWriteFail k 8

/-- An acknowledge poll (R596, R598): the memory acknowledges, or not, and WR_MS have passed, or not. -/
def Device.idPoll (d : Device) (k : Nat) (ack expired : Bool) : Device :=
  let p := d.idPort k
  if !(p.tx == 2 || p.tx == 3) || !d.idRuns then d
  else if ack then d.setId k { p with tx := 4 }
  else if expired then d.idWriteFail k 9
  else d.setId k { p with tx := 3 }

/-- SCL has stayed low for longer than 25 ms: the transaction ends with BUS_STRETCH (R585). -/
def Device.idStretch (d : Device) (k : Nat) : Device :=
  let p := d.idPort k
  if p.tx = 1 then d.idReadFail k 2 else if p.tx ≠ 0 then d.idWriteFail k 2 else d

/-! ## Commands of the host (R604, R605) -/

/-- The page size that PAGE names, 0 for the reserved code. -/
def pageSize (n : Nat) : Nat := if n = 0 then 8 else if n = 1 then 16 else if n = 2 then 32 else 0

/-- Table 23.3: why GO is refused, the first reason in table order. An ADD between two polls is taken (R597). -/
def Device.idRefusal (d : Device) (op k len addr : Nat) : Option Reason :=
  let pg := pageSize (d.get (F.IDR_PORT_CFG_PAGE k))
  let p := d.idPort k
  let st := d.idState k
  if op = 0 ∨ 4 < op then some .reservedValue
  else if op = 3 ∧ (len = 0 ∨ 32 < len ∨ 0x80 < addr + len ∨ pg = 0 ∨ addr / pg ≠ (addr + len - 1) / pg) then
    some .reservedValue
  else if (op = 2 ∨ op = 3) ∧ d.lcDead then some .lcForbids
  else if d.on F.IDR_CMD_GO ∨ !(p.tx == 0 || (op == 1 && p.tx == 3)) then some .busy
  else if (op ≤ 2 ∧ st ≠ 4) ∨ (3 ≤ op ∧ (st ≤ 2 ∨ st = 6)) then some .descriptorInvalid
  else none

/-- The bytes of IDR_BUF, the first `n` as one number. -/
def Device.idBuf (d : Device) (n : Nat) : Nat :=
  (List.range 8).foldl (fun a i => a * 2 ^ 32 + d.get (F.IDR_BUF_DATA i)) 0 / 2 ^ (8 * (32 - n))

/-- A write of IDR_CMD with GO (R597, R600, R604). -/
def Device.idCommand (d : Device) (op k len addr : Nat) : Device :=
  let d := d.setAll [(F.IDR_CMD_OP, op), (F.IDR_CMD_PORT, k), (F.IDR_CMD_LEN, len), (F.IDR_CMD_ADDR, addr)]
  match d.idRefusal op k len addr with
  | some why => d.refuse F.IDR_REFUSE_REASON.key why k
  | none =>
    let delta := d.get F.IDR_DELTA_DELTA
    if op = 1 then
      d.tick.set (F.IDR_PORT_PENDING_DELTA k) (d.sum32 (d.get (F.IDR_PORT_PENDING_DELTA k)) delta)
    else
      let d := (d.set F.IDR_CMD_GO 1).setId k { d.idPort k with cmd := true }
      if op = 2 then d.idWriteGo k { kind := 1, cell := 1, seq := 0, val := 0, delta := delta }
      else if op = 3 then d.idWriteGo k { kind := 2, cell := addr, seq := len, val := d.idBuf len, delta := 0 }
      else d.idRead k false

/-- EN of port `k` is written to 1 (R605, R629, Table 23.1). -/
def Device.idEnable (d : Device) (k : Nat) : Device :=
  let a := d.get (F.IDR_PORT_CFG_ADDR k)
  let w := d.get (F.IDR_PORT_CFG_WR_MS k)
  if d.on (F.IDR_PORT_CFG_EN k) then d
  else if d.clk.osc ≠ Osc.STABLE then d.refuse F.IDR_REFUSE_REASON.key .noTimebase k
  else if a < 8 ∨ 0x78 ≤ a ∨ d.get (F.IDR_PORT_CFG_PAGE k) = 3 ∨ d.get (F.IDR_PORT_CFG_DEB_MS k) = 0 ∨ w = 0 ∨ 50 < w then
    d.refuse F.IDR_REFUSE_REASON.key .reservedValue k
  else
    let d := (d.set (F.IDR_PORT_CFG_EN k) 1).ioxSettle
    let now := d.idPresent k
    (d.setId k { IdPort.idle with raw := now }).setIdState k (if now then 2 else 1)

/-- EN of port `k` is written to 0: a removal of which the Gaffer is not told (R605). -/
def Device.idDisable (d : Device) (k : Nat) : Device :=
  if d.on (F.IDR_PORT_CFG_EN k) then ((d.set (F.IDR_PORT_CFG_EN k) 0).idRemoval k 0 false).ioxSettle else d

/-! ## Commands -/

/-- PRESENCE_CHANGE (R588, R589): the pad that EVIk is routed from takes this level. -/
def execPresenceChange (port : Fin 8) (level : Bool) (s : State) : Host.Outcome State Fault Refusal :=
  .next (s.on (fun d =>
    let d := d.drivePad (0x40 + port.val) level
    (if d.pSvc then d.eviSample port.val else d).idPresence port.val))

/-- PRESENCE_DEBOUNCED (R589, R601). -/
def execPresenceDebounced (port : Fin 8) (s : State) : Host.Outcome State Fault Refusal :=
  .next (s.on (fun d => d.idDebounced port.val))

/-- DESCRIPTOR_READ_DONE (R582, R586, R591 to R594): the bus reason (0 none, 1 BUS_NACK, 2 BUS_STRETCH, 3 BUS_STUCK)
and the 256 bytes read, the first one most significant. -/
def execDescriptorReadDone (port : Fin 8) (reason : Fin 4) (bytes : BitVec 2048) (s : State) :
    Host.Outcome State Fault Refusal :=
  .next (s.on (fun d => d.idReadDone port.val reason.val bytes.toNat))

/-- DESCRIPTOR_READ_RETRY (R591). -/
def execDescriptorReadRetry (port : Fin 8) (s : State) : Host.Outcome State Fault Refusal :=
  .next (s.on (fun d => if (d.idPort port.val).due then d.idReadGo port.val else d))

/-- BUS_STRETCH_TIMEOUT (R585). -/
def execBusStretchTimeout (port : Fin 8) (s : State) : Host.Outcome State Fault Refusal :=
  .next (s.on (fun d => d.idStretch port.val))

/-- IDR_ADD (R597, R604). -/
def execIdrAdd (port : Fin 8) (s : State) : Host.Outcome State Fault Refusal :=
  .next (s.on (fun d => d.onMck (fun d => d.idCommand 1 port.val (d.get F.IDR_CMD_LEN) (d.get F.IDR_CMD_ADDR))))
/-- IDR_CNT_INIT (R600, R604). -/
def execIdrCntInit (port : Fin 8) (s : State) : Host.Outcome State Fault Refusal :=
  .next (s.on (fun d => d.onMck (fun d => d.idCommand 2 port.val (d.get F.IDR_CMD_LEN) (d.get F.IDR_CMD_ADDR))))
/-- IDR_WRITE (R604). -/
def execIdrWrite (port : Fin 8) (len : BitVec 6) (addr : BitVec 8) (s : State) : Host.Outcome State Fault Refusal :=
  .next (s.on (fun d => d.onMck (fun d => d.idCommand 3 port.val len.toNat addr.toNat)))
/-- IDR_REREAD (R604). -/
def execIdrReread (port : Fin 8) (s : State) : Host.Outcome State Fault Refusal :=
  .next (s.on (fun d => d.onMck (fun d => d.idCommand 4 port.val (d.get F.IDR_CMD_LEN) (d.get F.IDR_CMD_ADDR))))

/-- IDR_PORT_ENABLE (R605): a write of EN that leaves the other fields as they are. -/
def execIdrPortEnable (port : Fin 8) (en : Bool) (s : State) : Host.Outcome State Fault Refusal :=
  .next (s.on (fun d => d.onMck (fun d => if en then d.idEnable port.val else d.idDisable port.val)))

/-- COUNTER_CELL_WRITE_START (R597 to R600). -/
def execCounterCellWriteStart (port : Fin 8) (s : State) : Host.Outcome State Fault Refusal :=
  .next (s.on (fun d => d.idCellStart port.val))

/-- EEPROM_POLL (R596, R598): whether the memory acknowledges, and whether WR_MS have passed. -/
def execEepromPoll (port : Fin 8) (ack expired : Bool) (s : State) : Host.Outcome State Fault Refusal :=
  .next (s.on (fun d => d.idPoll port.val ack expired))

/-- CELL_WRITE_VERIFY (R596, R598): the bus reason that ended the write or its read-back (0 none), and the bytes read
back as one number. -/
def execCellWriteVerify (port : Fin 8) (reason : Fin 4) (data : BitVec 256) (s : State) :
    Host.Outcome State Fault Refusal :=
  .next (s.on (fun d => d.idVerify port.val reason.val data.toNat))

end Sys2Proof.Machine
end

