-- ==== Sys2Proof/Machine/Lanes.lean ====
section
/-! DEFINITION. Serial lanes (chapter 24): quad loops, the PCS with its block lock and scramblers, buffers and
tokens, PRBS, loopback, the sweep helper, the enable check. Quad number k is (d − 1) × 6 + q; a lane is (quad
number, lane 0 to 3). -/

namespace Sys2Proof.Machine

/-- The die of a quad. -/
def quadDie (k : Nat) : Nat := k / 6 + 1
/-- The unit of a quad. -/
def quadUnit (k : Nat) : Nat := U.LQ (quadDie k) (k % 6)
/-- The edge zone of a quad (R607). -/
def quadZone (k : Nat) : Nat :=
  (quadDie k - 1) * 64 + 8 * (k % 6 + 1) + (if quadDie k = 1 ∨ quadDie k = 3 then 0 else 7)

/-- A lane's own state. -/
def Device.lane (d : Device) (k l : Nat) : LaneState := Tab.get (fun _ => LaneState.idle) d.lanes (k * 4 + l)
/-- The device with a lane's state replaced. -/
def Device.setLane (d : Device) (k l : Nat) (x : LaneState) : Device :=
  { d with lanes := Tab.set (fun _ => LaneState.idle) d.lanes (k * 4 + l) x }

/-- The device with a lane's buffers, locks and streams new; a sweep that runs goes on (R624). -/
def Device.freshLane (d : Device) (k l : Nat) : Device :=
  let x := d.lane k l
  d.setLane k l { LaneState.idle with sweepPeak := x.sweepPeak, sweepStep := x.sweepStep, sweepErr := x.sweepErr }

/-- A quad event (Table 24.4). -/
def Device.quadEvent (d : Device) (k kind l : Nat) : Device :=
  d.raise (Ev.LANE_QUAD k) (quadUnit k) (kind * 16 + l)

/-- Is a lane enabled? -/
def Device.laneOn (d : Device) (k l : Nat) : Bool := d.on (F.LQ_LANE_CTL_EN (quadUnit k) l)
/-- LQ_QLOOP.STATE: 0 OFF, 1 ACQUIRING, 2 LOCKED, 3 LOST. -/
def Device.quadState (d : Device) (k : Nat) : Nat := d.get (F.LQ_QLOOP_STATE (quadUnit k))
/-- The lanes of a quad. -/
def quadLanes : List Nat := [0, 1, 2, 3]

/-- May a quad loop run: the reference STABLE, VLANE good, its die not fenced, not SLUMBER or DORMANT (R610, R612)? -/
def Device.quadMayRun (d : Device) (k : Nat) : Bool :=
  d.refStable && d.board.vlane && !d.fenced (quadDie k) && decide (d.get F.PW_STATUS_STATE < 3)

/-! ## Block lock (R616) -/

/-- Block lock is held in HUNT anew; losing it raises BLOCK_UNLOCK. -/
def Device.laneUnlock (d : Device) (k l : Nat) : Device :=
  let u := quadUnit k
  let had := d.on (F.LQ_LANE_STATUS_BLOCK_LOCK u l)
  let d := d.setLane k l { d.lane k l with good := 0, seen := 0, bad := 0 }
  if had then
    (d.setAll [(F.LQ_LANE_STATUS_BLOCK_LOCK u l, 0), (F.LQ_LANE_STATUS_LOCK_LOST u l, 1)]).quadEvent k 4 l
  else d

/-- A lane's receiver loses its CDR lock and with it block lock (R610, R614). -/
def Device.cdrLost (d : Device) (k l : Nat) : Device :=
  (d.set (F.LQ_LANE_STATUS_CDR_LOCK (quadUnit k) l) 0).laneUnlock k l

/-! ## Quad loops (R608 to R610) -/

/-- The divider D that LQ_LANEl_STATUS.DIV shows. -/
def Device.laneDiv (d : Device) (k l : Nat) : Nat := 2 ^ d.get (F.LQ_LANE_STATUS_DIV (quadUnit k) l)
/-- A lane's RATE. -/
def Device.laneRate (d : Device) (k l : Nat) : Nat := d.get (F.LQ_LANE_RATE_KBPS (quadUnit k) l)

/-- Another enabled lane of a quad. -/
def Device.otherLane (d : Device) (k l : Nat) : Option Nat := quadLanes.find? (fun m => m != l && d.laneOn k m)

/-- The code of D for a lane (R609): the loop's own where it runs, else the smallest with RATE × D ≥ 12,500,000. -/
def Device.divFor (d : Device) (k l : Nat) : Option Nat :=
  let r := d.laneRate k l
  match d.otherLane k l with
  | some m => [0, 1, 2, 3, 4].find? (fun c => r * 2 ^ c == d.laneRate k m * d.laneDiv k m)
  | none => [0, 1, 2, 3, 4].find? (fun c => decide (12500000 ≤ r * 2 ^ c))

/-- QINT and QFRAC as one number: f_Q in units of 2^-20 of 40 MHz, rounded to the nearest (R608, R609). -/
def quadFreq (rate c : Nat) : Nat := (rate * 2 ^ c * 2 ^ 20 + 40000) / 80000

/-- A loop starts to acquire where it may, else it reads LOST. -/
def Device.quadStart (d : Device) (k : Nat) : Device :=
  d.set (F.LQ_QLOOP_STATE (quadUnit k)) (if d.quadMayRun k then 1 else 3)

/-- A loop is lost (R610): its enabled lanes lose CDR and block lock. -/
def Device.quadLost (d : Device) (k : Nat) : Device :=
  if d.quadState k = 1 ∨ d.quadState k = 2 then
    let d := d.set (F.LQ_QLOOP_STATE (quadUnit k)) 3
    (d.each (quadLanes.filter (d.laneOn k)) (fun d l => d.cdrLost k l)).quadEvent k 2 0
  else d

/-- A lost loop reacquires once the cause has cleared (R610). -/
def Device.quadRetry (d : Device) (k : Nat) : Device := if d.quadState k = 3 then d.quadStart k else d

/-- SLUMBER turns a quad loop off, its registers kept (Table 18.1). -/
def Device.quadOff (d : Device) (k : Nat) : Device :=
  let d := d.set (F.LQ_QLOOP_STATE (quadUnit k)) 0
  d.each (quadLanes.filter (d.laneOn k)) (fun d l => d.cdrLost k l)

/-- A loop that has enabled lanes restarts after SLUMBER (R501). -/
def Device.quadRestart (d : Device) (k : Nat) : Device :=
  if quadLanes.any (d.laneOn k) && d.quadState k == 0 then d.quadStart k else d

/-- QUAD_LOOP_LOCK (R610): an acquiring loop locks; its transmitters leave electrical idle. -/
def Device.quadLock (d : Device) (k : Nat) : Device :=
  if d.quadState k = 1 ∧ d.quadMayRun k then (d.set (F.LQ_QLOOP_STATE (quadUnit k)) 2).quadEvent k 1 0 else d

/-- QUAD_LOOP_LOCK (R610). -/
def execQuadLoopLock (quad : Fin 24) (s : State) : Host.Outcome State Fault Refusal :=
  .next (s.on (fun d => d.quadLock quad.val))

/-! ## Enabling and disabling (R625, R626) -/

/-- Table 24.3: why EN is refused. -/
def Device.laneRefusal (d : Device) (k l : Nat) : Option Reason :=
  let u := quadUnit k
  let r := d.laneRate k l
  let g := d.get (F.LQ_LANE_LOCK_LOCK_GOOD u l)
  let b := d.get (F.LQ_LANE_LOCK_LOCK_BAD u l)
  if d.fenced (quadDie k) then some .dieFenced
  else if d.get (F.LQ_LANE_CTL_LOOP u l) = 3 ∨ 2 ≤ d.get (F.LQ_LANE_CTL_MODE u l)
      ∨ 5 ≤ d.get (F.LQ_LANE_PRBS_GEN u l) ∨ 5 ≤ d.get (F.LQ_LANE_PRBS_CHK u l)
      ∨ g < 16 ∨ 1024 < g ∨ b < 1 ∨ 64 < b then some .reservedValue
  else if r < 1250000 ∨ 25781250 < r ∨ (!d.on (F.LQ_LANE_CTL_WIDTH u l) ∧ 19800000 < r) then
    some .laneRateUnsupported
  else if (d.divFor k l).isNone then some .quadLoopConflict
  else if !d.refStable then some .noTimebase
  else none

/-- A write of EN = 1 (R609, R625, R629). -/
def Device.laneEnable (d : Device) (k l : Nat) : Device :=
  let u := quadUnit k
  if d.laneOn k l then d
  else match d.laneRefusal k l with
  | some why => d.refuse (F.LQ_REFUSE_REASON u).key why l
  | none =>
    let c := (d.divFor k l).getD 0
    let alone := (d.otherLane k l).isNone
    let d := (d.setAll [(F.LQ_LANE_CTL_EN u l, 1), (F.LQ_LANE_STATUS_DIV u l, c)]).freshLane k l
    if alone then
      let q := quadFreq (d.laneRate k l) c
      (d.setAll [(F.LQ_QSTATUS_QINT u, q / 2 ^ 20), (F.LQ_QSTATUS_QFRAC u, q % 2 ^ 20)]).quadStart k
    else d

/-- LANE_ENABLE (R625): a write of EN = 1 that leaves the other fields as they are. It waits while the die's refusal
queue is full (R632). -/
def execLaneEnable (quad : Fin 24) (lane : Fin 4) (s : State) : Host.Outcome State Fault Refusal :=
  .next (s.on (fun d => if d.refusalsFull (quadDie quad.val) then d else d.laneEnable quad.val lane.val))

/-- A lane is disabled: its buffers and locks are gone; the loop stops with the last lane (R610). -/
def Device.laneDisable (d : Device) (k l : Nat) : Device :=
  let u := quadUnit k
  if d.laneOn k l then
    let d := d.setAll [(F.LQ_LANE_CTL_EN u l, 0), (F.LQ_LANE_STATUS_CDR_LOCK u l, 0),
      (F.LQ_LANE_STATUS_BLOCK_LOCK u l, 0), (F.LQ_LANE_STATUS_PRBS_LOCK u l, 0)]
    let d := d.freshLane k l
    if quadLanes.any (d.laneOn k) then d else d.set (F.LQ_QLOOP_STATE u) 0
  else d

/-- LANE_DISABLE (R610). -/
def execLaneDisable (quad : Fin 24) (lane : Fin 4) (s : State) : Host.Outcome State Fault Refusal :=
  .next (s.on (fun d => if d.refusalsFull (quadDie quad.val) then d else d.laneDisable quad.val lane.val))

/-- Does a lane take part: enabled, its loop LOCKED? -/
def Device.laneRuns (d : Device) (k l : Nat) : Bool := d.laneOn k l && d.quadState k == 2 && d.quadMayRun k

/-- The CDR locks (R614); block lock starts to hunt. -/
def Device.cdrLock (d : Device) (k l : Nat) : Device :=
  let u := quadUnit k
  if d.laneRuns k l then
    (d.setAll [(F.LQ_LANE_STATUS_RX_IDLE u l, 0), (F.LQ_LANE_STATUS_CDR_LOCK u l, 1)]).setLane k l
      { d.lane k l with good := 0, seen := 0, bad := 0 }
  else d

/-- CDR_LOCK (R614, R616). -/
def execCdrLock (quad : Fin 24) (lane : Fin 4) (s : State) : Host.Outcome State Fault Refusal :=
  .next (s.on (fun d => d.cdrLock quad.val lane.val))

/-- CDR_LOCK_LOST (R614): the received signal has gone. In NEAR loopback the receive pins are ignored (R623). -/
def execCdrLockLost (quad : Fin 24) (lane : Fin 4) (s : State) : Host.Outcome State Fault Refusal :=
  .next (s.on (fun d =>
    if d.laneOn quad.val lane.val && d.get (F.LQ_LANE_CTL_LOOP (quadUnit quad.val) lane.val) != 1 then
      (d.set (F.LQ_LANE_STATUS_RX_IDLE (quadUnit quad.val) lane.val) 1).cdrLost quad.val lane.val
    else d))

/-! ## Scrambling (R615) -/

/-- Scramble `n` bits of `v`, bit 0 first: each sent bit is the data bit XOR the bits sent 39 and 58 before. -/
def scramble : Nat → Nat → Nat → Nat × Nat
  | 0, st, _ => (0, st)
  | n + 1, st, v =>
    let o := (v + st / 2 ^ 38 + st / 2 ^ 57) % 2
    let r := scramble n ((st * 2 + o) % 2 ^ 58) (v / 2)
    (o + 2 * r.1, r.2)

/-- Descramble: the same taps on the received bits. -/
def descramble : Nat → Nat → Nat → Nat × Nat
  | 0, st, _ => (0, st)
  | n + 1, st, v =>
    let o := (v + st / 2 ^ 38 + st / 2 ^ 57) % 2
    let r := descramble n ((st * 2 + v % 2) % 2 ^ 58) (v / 2)
    (o + 2 * r.1, r.2)

/-! ## Receive (R616 to R620) -/

/-- A token of a received block (R617, Table 24.2). -/
def laneToken (data : Nat) (half ctrl err first : Bool) : BitVec 36 :=
  BitVec.ofNat 36 (data % 2 ^ 32 + b2n half * 2 ^ 32 + b2n ctrl * 2 ^ 33 + b2n err * 2 ^ 34 + b2n first * 2 ^ 35)

/-- Does the edge zone connect an inbound endpoint to its lane (R607)? While its channels are frozen, either plane may have
(Table 14.4). -/
def Device.laneJoined (d : Device) (n ep : Nat) : Bool :=
  d.chanSrc n ep == some .lane
    || (d.zone n).frozen && ((d.zone n).img0.ins.contains (ep, .lane) || (d.zone n).img1.ins.contains (ep, .lane))

/-- Does the edge zone's endpoint take a token: connected, and room in it (R618, R621) or its discard (R404, R405)? -/
def Device.laneMayLand (d : Device) (k ep : Nat) : Bool :=
  let n := quadZone k
  d.laneJoined n ep && ((d.zone n).frozen || !(d.inEp n ep).stale.isEmpty || d.inRoom n ep)

/-- What an uncorrectable word of a lane's buffer raises and records (R620, R627). -/
def Device.laneUnc (d : Device) (k l : Nat) : Device :=
  let u := quadUnit k
  let d := (d.set (F.LQ_LANE_STATUS_ECC_UNC u l) 1).raise Ev.ECC_UNCORRECTABLE u 0
  let d := d.record (d.mkRecord 0x09 u noPeer)
  if (d.lane k l).unc then d else (d.setLane k l { d.lane k l with unc := true }).quadEvent k 7 l

/-- The oldest received block leaves for the zone, if both its tokens can (R618, R620). -/
def Device.laneDeliver1 (d : Device) (s : Stores) (k l : Nat) : Option (Device × Stores) :=
  match (d.lane k l).rx with
  | [] => none
  | b :: rest =>
    let wide := d.on (F.LQ_LANE_CTL_WIDTH (quadUnit k) l)
    let e0 := 2 * l
    let e1 := if wide then 2 * l + 1 else 2 * l
    let j := eccDecode b.word
    let bad := decide (j.2 = .uncorrectable)
    let first := (d.lane k l).first
    let tok (h : Bool) : BitVec 36 := laneToken (if h then j.1 / 2 ^ 32 else j.1) h b.ctrl (b.err || bad) first
    if d.laneMayLand k e0 then
      match d.landAt s (quadZone k) e0 (tok false) false with
      | (d1, s1) =>
        if d1.laneMayLand k e1 then
          match d1.landAt s1 (quadZone k) e1 (tok true) false with
          | (d2, s2) =>
            let x := d2.lane k l
            let d2 := d2.setLane k l { x with rx := rest, first := false, overflow := false, unc := x.unc && bad }
            some (if bad then d2.laneUnc k l else d2, s2)
        else none
    else none

/-- Received blocks leave for the zone while they can. -/
def Device.laneDeliver : Nat → Device → Stores → Nat → Nat → Device × Stores
  | 0, d, s, _, _ => (d, s)
  | f + 1, d, s, k, l =>
    match d.laneDeliver1 s k l with
    | some (e, t) => Device.laneDeliver f e t k l
    | none => (d, s)

/-- A header is valid: 01 or 10 (R616). -/
def headerValid (h : Nat) : Bool := h == 1 || h == 2

/-- An invalid header or a wrong bit counts in a running sweep (R624). -/
def Device.sweepCount (d : Device) (k l n : Nat) : Device :=
  if d.on (F.LQ_LANE_SWEEP_CTL_GO (quadUnit k) l) then
    d.setLane k l { d.lane k l with sweepErr := (d.lane k l).sweepErr + n }
  else d

/-- A received block is buffered, or dropped (R620). -/
def Device.laneBuffer (d : Device) (k l : Nat) (b : LaneBlock) : Device :=
  let u := quadUnit k
  let x := d.lane k l
  if x.rx.length < 32 then d.setLane k l { x with rx := x.rx ++ [b] }
  else
    let d := (d.inc (F.LQ_LANE_DROP_CNT_COUNT u l)).set (F.LQ_LANE_STATUS_RX_OVF u l) 1
    let d := d.setLane k l { x with first := true, overflow := true }
    if x.overflow then d else d.quadEvent k 5 l

/-- A received header and payload, after RX_POL, in PCS mode (R615, R616, R620). `upset` and `hit` are what upsets
change in the buffered word and whether they hit its header. -/
def Device.lanePcs (d : Device) (s : Stores) (k l hdr payload : Nat) (upset : Code72) (hit : Bool) :
    Device × Stores :=
  let u := quadUnit k
  let x := d.lane k l
  let r := descramble 64 x.rxScr payload
  let data := if d.on (F.LQ_LANE_CTL_SCR_BYPASS u l) then payload % 2 ^ 64 else r.1
  let d := d.setLane k l { x with rxScr := r.2 }
  let ok := headerValid hdr
  if !d.on (F.LQ_LANE_STATUS_BLOCK_LOCK u l) then
    if !ok then
      (((d.inc (F.LQ_LANE_SLIP_CNT_COUNT u l)).setLane k l { d.lane k l with good := 0 }).sweepCount k l 1, s)
    else if x.good + 1 < d.get (F.LQ_LANE_LOCK_LOCK_GOOD u l) then
      (d.setLane k l { d.lane k l with good := x.good + 1 }, s)
    else
      (((d.set (F.LQ_LANE_STATUS_BLOCK_LOCK u l) 1).setLane k l
        { d.lane k l with good := 0, seen := 0, bad := 0, first := true }).quadEvent k 3 l, s)
  else
    let wrong := !ok || hit
    let d := if wrong then (d.inc (F.LQ_LANE_ERR_CNT_COUNT u l)).sweepCount k l 1 else d
    let bad := x.bad + b2n wrong
    if d.get (F.LQ_LANE_LOCK_LOCK_BAD u l) ≤ bad then
      ((d.inc (F.LQ_LANE_SLIP_CNT_COUNT u l)).laneUnlock k l, s)
    else
      let last := x.seen + 1 = 64
      let d := d.setLane k l { d.lane k l with seen := if last then 0 else x.seen + 1, bad := if last then 0 else bad }
      let ctrl := if ok then hdr == 2 else d.freeBool
      let d := if ok then d else d.tick
      Device.laneDeliver 33 (d.laneBuffer k l { word := eccEncode data ^^^ upset, ctrl := ctrl, err := wrong }) s k l

/-! ## PRBS (R622) -/

/-- The taps of a pattern code. -/
def prbsTaps (c : Nat) : Nat × Nat :=
  if c = 1 then (7, 6) else if c = 2 then (15, 14) else if c = 3 then (23, 18) else (31, 28)

/-- The next bit of a pattern from the bits before it (bit 0 the newest). -/
def prbsNext (c st : Nat) : Nat := (st / 2 ^ ((prbsTaps c).1 - 1) + st / 2 ^ ((prbsTaps c).2 - 1)) % 2

/-- `n` bits of a pattern, bit 0 the first, and the bits after it. -/
def prbsRun (c : Nat) : Nat → Nat → Nat × Nat
  | 0, st => (0, st)
  | n + 1, st =>
    let b := prbsNext c st
    let r := prbsRun c n ((st * 2 + b) % 2 ^ 31)
    (b + 2 * r.1, r.2)

/-- The checker takes one received bit (R622): before PRBS_LOCK it seeds itself from the bits; after it, each wrong
bit counts, and 64 in a window of 1,024 bits drop it. -/
def Device.prbsBit (d : Device) (k l b : Nat) : Device :=
  let u := quadUnit k
  let c := d.get (F.LQ_LANE_PRBS_CHK u l)
  let x := d.lane k l
  let e := prbsNext c x.chk
  let agrees := b == e
  if d.on (F.LQ_LANE_STATUS_PRBS_LOCK u l) then
    let d := if agrees then d else (d.inc (F.LQ_LANE_PRBS_ERR_COUNT u l)).sweepCount k l 1
    let w := x.wrong + b2n (!agrees)
    let x : LaneState := { d.lane k l with chk := (x.chk * 2 + e) % 2 ^ 31 }
    if 64 ≤ w then
      (d.set (F.LQ_LANE_STATUS_PRBS_LOCK u l) 0).setLane k l { x with agree := 0, window := 0, wrong := 0 }
    else if x.window + 1 = 1024 then d.setLane k l { x with window := 0, wrong := 0 }
    else d.setLane k l { x with window := x.window + 1, wrong := w }
  else
    let n := if agrees then x.agree + 1 else 0
    let d := d.setLane k l { x with chk := (x.chk * 2 + b) % 2 ^ 31, agree := n, window := 0, wrong := 0 }
    if 128 ≤ n then d.set (F.LQ_LANE_STATUS_PRBS_LOCK u l) 1 else d

/-- The checker takes `n` received bits, bit 0 first. -/
def Device.prbsBits (d : Device) (k l : Nat) : Nat → Nat → Device
  | 0, _ => d
  | n + 1, v => (d.prbsBit k l (v % 2)).prbsBits k l n (v / 2)

/-- The bits of a stream inverted where a polarity bit is 1. -/
def invertBits (on : Bool) (w v : Nat) : Nat := if on then 2 ^ w - 1 - v % 2 ^ w else v % 2 ^ w

/-- Does the receive side of a lane see bits: enabled, loop locked, CDR locked? -/
def Device.laneHears (d : Device) (k l : Nat) : Bool :=
  d.laneRuns k l && d.on (F.LQ_LANE_STATUS_CDR_LOCK (quadUnit k) l)

/-- Does the transmitter send electrical idle (R121, R612, Table 05.3)? A lane that software enables between step 4 and GOE
transmits (assumption log 134). -/
def Device.txIdle (d : Device) (k l : Nat) : Bool :=
  let u := quadUnit k
  !d.laneRuns k l || !d.on (F.LQ_LANE_CTL_TX_EN u l) || !d.board.vlanet || d.fenced (quadDie k)
    || d.rst.brdFence.contains (quadDie k) || d.board.rstLow || !d.board.vccint
    || d.get (F.LQ_LANE_CTL_LOOP u l) == 1
    || (d.get (F.LQ_LANE_CTL_MODE u l) == 1 && d.get (F.LQ_LANE_PRBS_GEN u l) == 0)

/-- A 66-bit block reaches the receive side: header and payload as recovered by the CDR. In FAR loopback it also
leaves through the transmitter, whose TX_POL inverts it (R623, Table 24.1). -/
def Device.laneRx (d : Device) (s : Stores) (k l hdr payload : Nat) (upset : Code72) (hit : Bool) : Device × Stores :=
  let u := quadUnit k
  if !d.laneHears k l then (d, s)
  else
    let pol := d.on (F.LQ_LANE_CTL_RX_POL u l)
    let h := invertBits pol 2 hdr
    let p := invertBits pol 64 payload
    let d := d.when (d.get (F.LQ_LANE_CTL_LOOP u l) == 2 && !d.txIdle k l) (fun d =>
      let out := d.on (F.LQ_LANE_CTL_TX_POL u l)
      d.setLane k l { d.lane k l with sent := some (invertBits out 2 hdr, invertBits out 64 payload) })
    if d.get (F.LQ_LANE_CTL_MODE u l) = 1 then
      (if d.get (F.LQ_LANE_PRBS_CHK u l) = 0 then d else (d.prbsBits k l 2 h).prbsBits k l 64 p, s)
    else d.lanePcs s k l h p upset hit

/-- LANE_RX_BLOCK (R616 to R620): a block arrives on the receive pins, its header's first bit in bit 1, its payload's
first bit in bit 0. In NEAR loopback the pins are ignored (R623). -/
def execLaneRxBlock (quad : Fin 24) (lane : Fin 4) (hdr : BitVec 2) (payload : BitVec 64) (upset : BitVec 72)
    (hit : Bool) (s : State) : Host.Outcome State Fault Refusal :=
  .next (s.onBoth (fun d m =>
    if d.get (F.LQ_LANE_CTL_LOOP (quadUnit quad.val) lane.val) = 1
        ∨ d.get (F.LQ_LANE_CTL_MODE (quadUnit quad.val) lane.val) = 1 then (d, m)
    else d.laneRx m quad.val lane.val hdr.toNat payload.toNat upset hit))

/-- PRBS_CHECK (R622): 64 received bits, bit 0 first, reach the checker. -/
def execPrbsCheck (quad : Fin 24) (lane : Fin 4) (rx : BitVec 64) (s : State) : Host.Outcome State Fault Refusal :=
  .next (s.on (fun d =>
    let u := quadUnit quad.val
    if d.laneHears quad.val lane.val && d.get (F.LQ_LANE_CTL_MODE u lane.val) == 1
        && d.get (F.LQ_LANE_PRBS_CHK u lane.val) != 0 && d.get (F.LQ_LANE_CTL_LOOP u lane.val) != 1 then
      d.prbsBits quad.val lane.val 64 (invertBits (d.on (F.LQ_LANE_CTL_RX_POL u lane.val)) 64 rx.toNat)
    else d))

/-! ## Transmit (R612, R617 to R620) -/

/-- May the lane take a token from half `h` of its outbound endpoints (R618, R619, R622, R623)? -/
def Device.laneRoom (d : Device) (k l : Nat) (h : Bool) : Bool :=
  let u := quadUnit k
  let wide := d.on (F.LQ_LANE_CTL_WIDTH u l)
  let x := d.lane k l
  d.laneOn k l && d.get (F.LQ_LANE_CTL_MODE u l) == 0 && (wide || !h)
    && (d.get (F.LQ_LANE_CTL_LOOP u l) == 2
      || (decide (x.tx.length < 8) && (!wide || (if h then x.half0.isSome else x.half0.isNone))))

/-- A transmit token arrives (R619): in FAR loopback it is discarded (R623). -/
def Device.laneTake (d : Device) (k l : Nat) (tok : BitVec 36) : Device :=
  let u := quadUnit k
  let x := d.lane k l
  let t := tok.toNat
  if d.get (F.LQ_LANE_CTL_LOOP u l) = 2 then d
  else if !bit t 32 then
    (d.setLane k l { x with half0 := some tok }).when x.half0.isSome (·.inc (F.LQ_LANE_TX_PAIR_ERR_COUNT u l))
  else match x.half0 with
  | none => d.inc (F.LQ_LANE_TX_PAIR_ERR_COUNT u l)
  | some t0 =>
    let b : LaneBlock :=
      { word := eccEncode (t0.toNat % 2 ^ 32 + t % 2 ^ 32 * 2 ^ 32), ctrl := bit t0.toNat 33,
        err := bit t0.toNat 34 || bit t 34 }
    d.setLane k l { x with half0 := none, tx := x.tx ++ [b] }

/-- The idle control block and the error control block (R619, R620): type 0x1E with eight 7-bit characters. -/
def idleBlock : Nat := 0x1E
@[inherit_doc idleBlock] def errorBlock : Nat :=
  0x1E + ((List.range 8).foldl (fun a i => a + 0x1E * 2 ^ (8 + 7 * i)) 0)

/-- The next block of a lane: header and payload before scrambling, from the buffer, or an idle block (R619, R620).
`upset` is what upsets changed in the buffered word. -/
def Device.laneNext (d : Device) (k l : Nat) (upset : Code72) : Device × Nat × Nat :=
  let u := quadUnit k
  let x := d.lane k l
  match x.tx with
  | [] => ((d.inc (F.LQ_LANE_UNDER_CNT_COUNT u l)).set (F.LQ_LANE_STATUS_TX_UNDER u l) 1, 2, idleBlock)
  | b :: rest =>
    let j := eccDecode (b.word ^^^ upset)
    let d := d.setLane k l { x with tx := rest, unc := x.unc && decide (j.2 = .uncorrectable) }
    if j.2 = .uncorrectable then
      let d := (d.laneUnc k l).raise Ev.POISON_CONSUMED u 0
      (d.record (d.mkRecord 0x0A u noPeer), 2, errorBlock)
    else if b.err then (d, 2, errorBlock)
    else (d, if b.ctrl then 2 else 1, j.1)

/-- A block slot (R615, R619, R622, R623). -/
def Device.laneSlot (d : Device) (s : Stores) (k l : Nat) (upset : Code72) : Device × Stores :=
  let u := quadUnit k
  let loop := d.get (F.LQ_LANE_CTL_LOOP u l)
  let near := loop == 1 && d.laneRuns k l
  let quiet := d.get (F.LQ_LANE_CTL_MODE u l) == 1 && d.get (F.LQ_LANE_PRBS_GEN u l) == 0
  if loop = 2 ∨ quiet ∨ (d.txIdle k l ∧ !near) then (d, s)
  else
    let raw : Device × Nat × Nat :=
      if d.get (F.LQ_LANE_CTL_MODE u l) = 1 then
        let r := prbsRun (d.get (F.LQ_LANE_PRBS_GEN u l)) 66 (d.lane k l).gen
        (d.setLane k l { d.lane k l with gen := r.2 }, r.1 % 4, r.1 / 4)
      else
        match d.laneNext k l upset with
        | (d, h, p) =>
          let r := scramble 64 (d.lane k l).txScr p
          (d.setLane k l { d.lane k l with txScr := r.2 }, h,
            if d.on (F.LQ_LANE_CTL_SCR_BYPASS u l) then p else r.1)
    let pol := d.on (F.LQ_LANE_CTL_TX_POL u l)
    let h := invertBits pol 2 raw.2.1
    let p := invertBits pol 64 raw.2.2
    if near then raw.1.laneRx s k l h p 0 false
    else (raw.1.setLane k l { raw.1.lane k l with sent := some (h, p) }, s)

/-- LANE_TX_BLOCK_SLOT (R619, R620). -/
def execLaneTxBlockSlot (quad : Fin 24) (lane : Fin 4) (upset : BitVec 72) (s : State) :
    Host.Outcome State Fault Refusal :=
  .next (s.onBoth (fun d m => d.laneSlot m quad.val lane.val upset))

/-! ## The sweep (R624) -/

/-- SWEEP_CTL.GO: PEAK takes 0 and is to return. -/
def Device.sweepGo (d : Device) (k l : Nat) : Device :=
  let u := quadUnit k
  if d.on (F.LQ_LANE_SWEEP_CTL_GO u l) then d.refuse (F.LQ_REFUSE_REASON u).key .busy l
  else if !d.refStable then d.refuse (F.LQ_REFUSE_REASON u).key .noTimebase l
  else
    let d := d.setLane k l
      { d.lane k l with sweepPeak := d.get (F.LQ_LANE_RX_PEAK u l), sweepStep := 0, sweepErr := 0 }
    d.setAll [(F.LQ_LANE_SWEEP_CTL_GO u l, 1), (F.LQ_LANE_RX_PEAK u l, 0)]

/-- LANE_SWEEP_GO (R624): a write of GO that leaves US as it is. -/
def execLaneSweepGo (quad : Fin 24) (lane : Fin 4) (s : State) : Host.Outcome State Fault Refusal :=
  .next (s.on (fun d => if d.refusalsFull (quadDie quad.val) then d else d.sweepGo quad.val lane.val))

/-- LQ_LANEl_SWEEPj. -/
def sweepReg (u l j : Nat) : Field :=
  if l = 0 then F.LQ_LANE_SWEEP0_ERRORS u j else if l = 1 then F.LQ_LANE_SWEEP1_ERRORS u j
  else if l = 2 then F.LQ_LANE_SWEEP2_ERRORS u j else F.LQ_LANE_SWEEP3_ERRORS u j

/-- A measurement interval ends (R624). The errors of the 10 µs before the interval are not counted; how many of
those since the step began fell into them is open, so the count is a free value up to all of them. -/
def Device.sweepNext (d : Device) (k l : Nat) : Device :=
  let u := quadUnit k
  if !d.on (F.LQ_LANE_SWEEP_CTL_GO u l) then d
  else
    let x := d.lane k l
    let d := (d.tick.set (sweepReg u l x.sweepStep) (min (d.freeBelow (x.sweepErr + 1)) (2 ^ 32 - 1)))
    if x.sweepStep < 15 then
      (d.set (F.LQ_LANE_RX_PEAK u l) (x.sweepStep + 1)).setLane k l
        { x with sweepStep := x.sweepStep + 1, sweepErr := 0 }
    else
      ((d.setAll [(F.LQ_LANE_RX_PEAK u l, x.sweepPeak), (F.LQ_LANE_SWEEP_CTL_GO u l, 0)]).setLane k l
        { x with sweepStep := 0, sweepErr := 0 }).quadEvent k 6 l

/-- SWEEP_STEP (R624). -/
def execSweepStep (quad : Fin 24) (lane : Fin 4) (s : State) : Host.Outcome State Fault Refusal :=
  .next (s.on (fun d => d.sweepNext quad.val lane.val))

end Sys2Proof.Machine
end

