-- ==== Sys2Proof/Machine/Motion.lean ====
section
/-! DEFINITION. The motion front end (chapter 22, R554 to R569): encoder channels in quadrature and absolute mode, mark
channels with their predictor and log, standstill. -/

namespace Sys2Proof.Machine

/-! ## Encoder faults and Z (R555 to R558) -/

/-- A fault of kind 1 ILLEGAL, 2 ZMISS, 3 SSI_FRAME, 4 SSI_JUMP on channel `k` (R558). -/
def Device.encFault (d : Device) (k kind : Nat) : Device :=
  let seen := bit (d.get (F.MFE_ENC_STATUS_FAULT k)) (kind - 1)
  let d := (d.setFieldBit (F.MFE_ENC_STATUS_FAULT k) (kind - 1)).inc (F.MFE_ENC_STATUS_FAULT_CNT k)
  if seen then d else d.raise Ev.ENCODER_FAULT U.MFE (kind * 16 + k)

/-- Does Z count on channel `k` (R556)? -/
def Device.zCounts (d : Device) (k : Nat) : Bool :=
  let m := d.get (F.MFE_ENC_CFG_ZMODE k)
  d.on (F.MFE_ENC_CFG_EN k) && !d.on (F.MFE_ENC_CFG_MODE k) && (m == 1 || m == 2)

/-- ZMISS: the position has moved CPR + CPR ÷ 64 counts from the last Z (R556). -/
def Device.zMiss (d : Device) (k : Nat) : Device :=
  let c := d.get (F.MFE_ENC_CPR_CPR k)
  let e := d.encoder k
  if d.zCounts k && c != 0 && decide (c + c / 64 ≤ (posDiff e.pos e.zRef).natAbs) then
    (d.setEncoder k { e with zRef := e.pos }).encFault k 2
  else d

/-! ## The predictor (R560 to R566) -/

/-- A mark channel's own state. -/
def Device.mark (d : Device) (k : Nat) : MarkChannel := Tab.get (fun _ => MarkChannel.idle) d.marks k
/-- The device with a mark channel's own state replaced. -/
def Device.setMark (d : Device) (k : Nat) (m : MarkChannel) : Device :=
  { d with marks := Tab.set (fun _ => MarkChannel.idle) d.marks k m }

/-- The position that mark channel `k` reads (R559). -/
def Device.markPos (d : Device) (k : Nat) : Nat := (d.encoder (d.get (F.MFE_MK_CFG_ENC k))).pos

/-- Events 56 to 58 of a channel (R565, Table 22.2). -/
def Device.markEvent (d : Device) (k ev reason : Nat) : Device :=
  if d.on (F.MFE_MK_CFG_EVT_EN k) then
    d.raise ev U.MFE (d.get (F.MFE_MK_STATUS_SEQ k) * 65536 + reason * 16 + k)
  else d

/-- The number of the log entry of a prediction (R566). -/
def logEntry (k seq : Nat) : Nat := 16 * k + seq % 16

/-- PITCH and P_next from the history and P_last (R561). -/
def Device.markNext (d : Device) (k : Nat) : Device :=
  let m := d.mark k
  let h := d.get (F.MFE_MK_CFG_HIST k)
  let pitch := (m.hist.foldl (· + ·) 0 + Int.ofNat (h / 2)) / Int.ofNat h
  let p := posAdd m.pLast pitch
  (d.setMark k { m with pNext := p }).setAll [(F.MFE_MK_PITCH_PITCH k, unsigned 32 pitch), (F.MFE_MK_NEXT_NEXT k, p)]

/-- All the cam engines hear of something on the direct wires, in ascending order (R573, R577). -/
def camAll (f : Device × Stores → Nat → Device × Stores) (x : Device × Stores) : Device × Stores :=
  (List.range 16).foldl f x

/-- A prediction is issued (R561, R566). No edge has decided it yet, so its TS in the log is free. -/
def Device.markIssue (d : Device) (s : Stores) (k : Nat) : Device × Stores :=
  let d := d.bump (F.MFE_MK_STATUS_SEQ k)
  let q := d.get (F.MFE_MK_STATUS_SEQ k)
  let m := d.mark k
  let d := d.setMark k { m with issued := d.markPos k }
  let l := logEntry k q
  let d := d.tick.setAll [(F.MFE_MK_STATUS_OUTSTANDING k, 1), (F.MFE_MK_LOG0_SEQ l, q), (F.MFE_MK_LOG0_REASON l, 0),
    (F.MFE_MK_LOG0_STATE l, 1), (F.MFE_MK_LOG1_PNEXT l, m.pNext),
    (F.MFE_MK_LOG2_TS_LO l, (Config.freeDword d.free).toNat % 2 ^ 32),
    (F.MFE_MK_LOG3_TS_HI l, (Config.freeDword d.free).toNat / 2 ^ 32)]
  camAll (Device.camTrigger 1 k q m.pNext) (d.markEvent k Ev.MARK_PREDICT 0, s)

/-- The log entry of the prediction that ends (R566): STATE, REASON, and the TS of the deciding edge if there is one. -/
def Device.markLog (d : Device) (k st reason : Nat) (ts : Option Nat) : Device :=
  let l := logEntry k (d.get (F.MFE_MK_STATUS_SEQ k))
  let d := d.setAll [(F.MFE_MK_STATUS_OUTSTANDING k, 0), (F.MFE_MK_LOG0_STATE l, st), (F.MFE_MK_LOG0_REASON l, reason)]
  match ts with
  | some t => d.setAll [(F.MFE_MK_LOG2_TS_LO l, t), (F.MFE_MK_LOG3_TS_HI l, t / 2 ^ 32)]
  | none => d

/-- The outstanding prediction is cancelled: 1 MISSED, 2 EARLY, 3 REVERSED (Table 22.1, R564). -/
def Device.markCancel (d : Device) (s : Stores) (k reason : Nat) (edge : Option (Nat × Nat)) : Device × Stores :=
  let d := d.markLog k 3 reason (edge.map (·.2))
  let d := (d.inc (F.MFE_MK_CANCEL_CNT_COUNT k)).inc (F.MFE_MK_STATUS_MISSES k)
  let q := d.get (F.MFE_MK_STATUS_SEQ k)
  let x := camAll (Device.camOutcome false k q) (d.markEvent k Ev.MARK_CANCEL reason, s)
  let d := x.1
  let m := d.mark k
  if d.get (F.MFE_MK_CFG_MISS_LIMIT k) ≤ d.get (F.MFE_MK_STATUS_MISSES k) then
    ((d.setMark k { m with hist := [], prev := none }).set (F.MFE_MK_STATUS_STATE k) 0, x.2)
  else if reason = 3 then x
  else
    let last := match edge with | some e => e.1 | none => m.pNext
    ((d.setMark k { m with pLast := last }).markNext k, x.2)

/-- The channel follows the position: a prediction is issued, missed or reversed (R561, Table 22.1). Each turn that
issues is followed by a cancel, of which MISS_LIMIT (at most 15) end TRACK, so `fuel` 40 is enough. -/
def Device.markFollow : Nat → Device → Stores → Nat → Device × Stores
  | 0, d, s, _ => (d, s)
  | fuel + 1, d, s, k =>
    if !d.on (F.MFE_MK_CFG_EN k) || !d.on (F.MFE_MK_STATUS_STATE k) then (d, s)
    else
      let m := d.mark k
      let p := d.markPos k
      let w := Int.ofNat (d.get (F.MFE_MK_WINDOW_COUNTS k))
      if d.on (F.MFE_MK_STATUS_OUTSTANDING k) then
        if w < posDiff p m.pNext then
          let x := d.markCancel s k 1 none
          Device.markFollow fuel x.1 x.2 k
        else if posDiff p m.issued < -w then
          let x := d.markCancel s k 3 none
          Device.markFollow fuel x.1 x.2 k
        else (d, s)
      else if -(Int.ofNat (d.get (F.MFE_MK_LEAD_COUNTS k))) ≤ posDiff p m.pNext then
        let x := d.markIssue s k
        Device.markFollow fuel x.1 x.2 k
      else (d, s)

/-- The last HIST intervals with one more (R560). -/
def Device.histAdd (d : Device) (k : Nat) (h : List Int) (i : Int) : List Int :=
  let l := h ++ [i]
  l.drop (l.length - d.get (F.MFE_MK_CFG_HIST k))

/-- A reference for the next prediction from an edge: P_last, PITCH, P_next. -/
def Device.markFrom (d : Device) (k epos : Nat) (hist : List Int) : Device :=
  (d.setMark k { d.mark k with pLast := epos, hist := hist }).markNext k

/-- An accepted edge in ACQUIRE or TRACK (R560, R562). -/
def Device.markEdge (d : Device) (s : Stores) (k epos ts : Nat) : Device × Stores :=
  let m := d.mark k
  if !d.on (F.MFE_MK_STATUS_STATE k) then
    let h := match m.prev with | some p => d.histAdd k m.hist (posDiff epos p) | none => m.hist
    let d := d.setMark k { m with prev := some epos, hist := h }
    if d.get (F.MFE_MK_CFG_HIST k) ≤ h.length then
      Device.markFollow 40 ((d.set (F.MFE_MK_STATUS_STATE k) 1).markFrom k epos h) s k
    else (d, s)
  else
    let w := Int.ofNat (d.get (F.MFE_MK_WINDOW_COUNTS k))
    let x : Device × Stores :=
      if !d.on (F.MFE_MK_STATUS_OUTSTANDING k) then (d.markFrom k epos m.hist, s)
      else if posDiff epos m.pNext < -w then d.markCancel s k 2 (some (epos, ts))
      else
        let q := d.get (F.MFE_MK_STATUS_SEQ k)
        let d := ((d.markLog k 2 0 (some ts)).inc (F.MFE_MK_CONFIRM_CNT_COUNT k)).set (F.MFE_MK_STATUS_MISSES k) 0
        let x := camAll (fun x e => Device.camOutcome true k q (Device.camTrigger 2 k q epos x e) e)
          (d.markEvent k Ev.MARK_CONFIRM 0, s)
        (x.1.markFrom k epos (x.1.histAdd k m.hist (posDiff epos m.pLast)), x.2)
    Device.markFollow 40 x.1 x.2 k

/-- The machine time of an edge: within the accuracy of R559 and Table 21.4, two root cycles either way; on the
reference's grid while the root output is gated. -/
def Device.markTs (d : Device) : Nat :=
  if d.clk.rootGated then d.clk.mt else d.clk.mt + d.freeBelow 5 - 2

/-- MARKk is sampled: a change to the level that EDGE selects is an edge, accepted if the encoder has moved MASK
counts since the last accepted one (R559). -/
def Device.markSample (d : Device) (s : Stores) (k : Nat) : Device × Stores :=
  let v := d.sigLevel (0x20 + k)
  let m := d.mark k
  if v = m.level then (d, s)
  else
    let d := d.setMark k { m with level := v }
    let p := d.markPos k
    let far := match m.last with
      | some l => decide (d.get (F.MFE_MK_MASK_COUNTS k) ≤ (posDiff p l).natAbs)
      | none => true
    if d.on (F.MFE_MK_CFG_EN k) && v != d.on (F.MFE_MK_CFG_EDGE k) && far then
      let ts := d.markTs
      let d := d.tick.setMark k { d.mark k with last := some p }
      let d := d.setAll [(F.MFE_MK_TS_LO_TS k, ts), (F.MFE_MK_TS_HI_TS k, ts / 2 ^ 32), (F.MFE_MK_EPOS_EPOS k, p)]
      (if d.clk.rootGated then d.set (F.MFE_MK_STATUS_COARSE k) 1 else d).markEdge s k p ts
    else (d, s)

/-- EN of mark channel `k` is written to 1 (R560, R567, R629). -/
def Device.markEnable (d : Device) (k : Nat) : Device :=
  let f := F.MFE_MK_CFG_EN k
  let h := d.get (F.MFE_MK_CFG_HIST k)
  if d.on f then d
  else if h < 2 ∨ 16 < h ∨ d.get (F.MFE_MK_CFG_MISS_LIMIT k) = 0 then d.refuseAt F.MFE_REFUSE_REASON .reservedValue f
  else if d.get (F.MFE_MK_LEAD_COUNTS k) < d.get (F.MFE_MK_WINDOW_COUNTS k) then
    d.refuseAt F.MFE_REFUSE_REASON .thresholdOrder f
  else
    let d := (d.setAll [(f, 1), (F.MFE_MK_STATUS_STATE k, 0), (F.MFE_MK_STATUS_OUTSTANDING k, 0),
      (F.MFE_MK_STATUS_MISSES k, 0)]).ioxSettle
    d.setMark k { MarkChannel.idle with level := d.sigLevel (0x20 + k) }

/-- EN of mark channel `k` is written to 0: an outstanding prediction is dropped. -/
def Device.markDisable (d : Device) (k : Nat) : Device :=
  (d.setAll [(F.MFE_MK_CFG_EN k, 0), (F.MFE_MK_STATUS_OUTSTANDING k, 0)]).ioxSettle

/-! ## Encoder positions (R555, R569, R572) -/

/-- The movement of an encoder in the present window of standstill (R569). -/
def Encoder.moved (e : Encoder) (i : Int) : Encoder :=
  let c := e.cur + i
  { e with cur := c, low := if c < e.low then c else e.low, high := if e.high < c then c else e.high }

/-- Everything that follows a change of the position of channel `k`: the cam engines that it masters, then the mark
channels that it times (R561, R572, R577). -/
def Device.posFollow (d : Device) (s : Stores) (k : Nat) : Device × Stores :=
  let x := (List.range 16).foldl (fun x e =>
    if x.1.get (F.CAM_ENG_CTL_MASTER e) = k then Device.camEval 2 x.1 x.2 e else x) (d.zMiss k, s)
  (List.range 8).foldl (fun x m =>
    if x.1.get (F.MFE_MK_CFG_ENC m) = k then Device.markFollow 40 x.1 x.2 m else x) x

/-- The position of channel `k` moves by a signed number of counts. -/
def Device.encMove (d : Device) (s : Stores) (k : Nat) (i : Int) : Device × Stores :=
  let e := d.encoder k
  (d.setEncoder k { e.moved i with pos := posAdd e.pos i }).posFollow s k

/-- The place of the levels of A and B in the cycle in which A leads B: 00, 10, 11, 01. -/
def quadPhase (a b : Bool) : Nat := if a then (if b then 2 else 1) else (if b then 3 else 0)

/-- A and B of channel `k` are sampled (R554, R555). -/
def Device.encSample (d : Device) (s : Stores) (k : Nat) : Device × Stores :=
  let e := d.encoder k
  let a := d.sigLevel (1 + 3 * k)
  let b := d.sigLevel (2 + 3 * k)
  let d := d.setEncoder k { e with a := a, b := b }
  if !d.on (F.MFE_ENC_CFG_EN k) || d.on (F.MFE_ENC_CFG_MODE k) then (d, s)
  else if a != e.a && b != e.b then (d.encFault k 1, s)
  else if a = e.a ∧ b = e.b then (d, s)
  else
    let up := decide (quadPhase a b = (quadPhase e.a e.b + 1) % 4)
    d.encMove s k (if up != d.on (F.MFE_ENC_CFG_DIR k) then 1 else -1)

/-- A rising Z on channel `k` (R556). The latched position is that before it is set to 0. -/
def Device.zPulse (d : Device) (s : Stores) (k : Nat) : Device × Stores :=
  if d.zCounts k && (d.sigPins (3 + 3 * k)).length == 1 then
    let e := d.encoder k
    let d := d.set (F.MFE_ENC_ZPOS_POS k) e.pos
    if d.get (F.MFE_ENC_CFG_ZMODE k) = 2 ∧ e.zFirst then
      (d.setEncoder k { e with pos := 0, zRef := 0, zFirst := false }).posFollow s k
    else (d.setEncoder k { e with zRef := e.pos, zFirst := false }, s)
  else (d, s)

/-- The reserved encodings that an encoder's enable check refuses (R12, R556, R557). -/
def Device.encBad (d : Device) (k : Nat) : Bool :=
  let b := d.get (F.MFE_ENC_CFG_BITS k)
  let f := d.get (F.MFE_ENC_SSI_KHZ k)
  let p := d.get (F.MFE_ENC_SSI_POLL k)
  d.get (F.MFE_ENC_CFG_ZMODE k) == 3
    || (d.on (F.MFE_ENC_CFG_MODE k) && (decide (b < 10) || decide (48 < b) || decide (f < 100) || decide (10000 < f)
      || decide (p < 1) || decide (1000 < p)))

/-- EN of encoder channel `k` is written to 1 (R12, R555, R629). The value before the first SSI frame is not given, so
it is free (R557). -/
def Device.encEnable (d : Device) (s : Stores) (k : Nat) : Device × Stores :=
  let f := F.MFE_ENC_CFG_EN k
  if d.on f then (d, s)
  else if d.encBad k then (d.refuseAt F.MFE_REFUSE_REASON .reservedValue f, s)
  else
    let d := (d.set f 1).ioxSettle
    let e : Encoder := { d.encoder k with
      a := d.sigLevel (1 + 3 * k), b := d.sigLevel (2 + 3 * k), pos := 0, zRef := 0, zFirst := true,
      vPrev := d.freeBelow (2 ^ d.get (F.MFE_ENC_CFG_BITS k)), frame := none }
    (d.tick.setEncoder k e).posFollow s k

/-- EN of encoder channel `k` is written to 0. -/
def Device.encDisable (d : Device) (k : Nat) : Device :=
  let d := d.setEncoder k { d.encoder k with frame := none }
  (d.set (F.MFE_ENC_CFG_EN k) 0).ioxSettle

/-! ## Absolute mode (R557) -/

/-- A Gray-coded number of `n` bits decoded. -/
def grayDecode : Nat → Nat → Nat
  | 0, v => v
  | n + 1, v => Nat.xor v (grayDecode n (v / 2))

/-- A frame starts: `b` is the level on the pad of B before the first clock. -/
def Device.ssiPoll (d : Device) (k : Nat) (b : Bool) : Device :=
  if d.on (F.MFE_ENC_CFG_EN k) && d.on (F.MFE_ENC_CFG_MODE k) && (d.encoder k).frame.isNone
      && d.clk.osc == Osc.STABLE then
    let d := d.drivePad (2 + 3 * k) b
    d.setEncoder k { d.encoder k with frame := some (d.sigLevel (2 + 3 * k)) }
  else d

/-- A frame ends with the BITS bits read, the first one most significant; `b` is whether B read high again within
30 µs. -/
def Device.ssiEnd (d : Device) (s : Stores) (k raw : Nat) (b : Bool) : Device × Stores :=
  match (d.encoder k).frame with
  | none => (d, s)
  | some high =>
    let d := d.drivePad (2 + 3 * k) b
    let e := { d.encoder k with frame := none }
    let d := d.setEncoder k e
    if !(high && d.sigLevel (2 + 3 * k)) then (d.encFault k 3, s)
    else
      let w := d.get (F.MFE_ENC_CFG_BITS k)
      let v := raw % 2 ^ w
      let v := if d.on (F.MFE_ENC_CFG_GRAY k) then grayDecode w v % 2 ^ w else v
      let diff := signed w (v + (2 ^ w - e.vPrev % 2 ^ w))
      let d := d.setEncoder k { e with vPrev := v }
      (if 2 ^ (w - 2) < diff.natAbs then d.encFault k 4 else d).encMove s k diff

/-- A read of POS_LO captures POS_HI (R169, R558). -/
def Device.posLoRead (d : Device) (k : Nat) : Device :=
  let e := d.encoder k
  d.setEncoder k { e with capt := some (e.pos / 2 ^ 32) }

/-! ## Standstill (R569) -/

/-- The standstill signal from the windows that have ended. -/
def Device.stillNow (d : Device) : Bool :=
  let e := d.encoder (d.get F.MFE_STILL_CFG_ENC)
  let n := d.get F.MFE_STILL_CFG_DWELL
  d.on F.MFE_STILL_CFG_EN && d.clk.osc == Osc.STABLE && decide (n ≤ e.spans.length)
    && (e.spans.take n).all (fun x => decide (x ≤ d.get F.MFE_STILL_CFG_THRESH))

/-- The standstill signal follows its conditions; its rising edge reaches the Gaffer (R419). -/
def Device.stillUpdate (d : Device) (s : Stores) : Device :=
  let now := d.stillNow
  let was := d.on F.MFE_STATUS_STILL
  let d := d.set F.MFE_STATUS_STILL (b2n now)
  if now && !was then d.autoswap s else d

/-- A 1 ms window of reference time ends. -/
def Device.stillWindow (d : Device) (s : Stores) : Device :=
  if d.clk.osc = Osc.STABLE then
    let d := d.each (List.range 8) (fun d k =>
      let e := d.encoder k
      d.setEncoder k { e with cur := 0, low := 0, high := 0, spans := (e.high - e.low).toNat :: e.spans.take 254 })
    d.stillUpdate s
  else d

/-! ## Commands -/

/-- MFE_ENC_ENABLE (R555): a write of EN = 1 that leaves the other fields as they are. -/
def execMfeEncEnable (ch : Fin 8) (s : State) : Host.Outcome State Fault Refusal :=
  .next (s.onBoth (fun d m => if d.board.mck then d.encEnable m ch.val else (d, m)))

/-- ENCODER_TRANSITION (R554, R555): the pads that ENCk_A and ENCk_B are routed from take these levels, and they have
been stable long enough to count. -/
def execEncoderTransition (ch : Fin 8) (a b : Bool) (s : State) : Host.Outcome State Fault Refusal :=
  .next (s.onBoth (fun d m =>
    let d := (d.drivePad (1 + 3 * ch.val) a).drivePad (2 + 3 * ch.val) b
    if d.pSvc then d.encSample m ch.val else (d, m)))

/-- ENCODER_Z_PULSE (R556). -/
def execEncoderZPulse (ch : Fin 8) (s : State) : Host.Outcome State Fault Refusal :=
  .next (s.onBoth (fun d m => if d.pSvc then d.zPulse m ch.val else (d, m)))

/-- SSI_POLL (R557): `b` is the level on the pad of ENCk_B before the first clock. -/
def execSsiPoll (ch : Fin 8) (b : Bool) (s : State) : Host.Outcome State Fault Refusal :=
  .next (s.on (fun d => if d.pSvc then d.ssiPoll ch.val b else d))

/-- SSI_FRAME_END (R557): the bits read on ENCk_B, the last one in bit 0, and whether B read high again in time. -/
def execSsiFrameEnd (ch : Fin 8) (raw : BitVec 48) (b : Bool) (s : State) : Host.Outcome State Fault Refusal :=
  .next (s.onBoth (fun d m => if d.pSvc then d.ssiEnd m ch.val raw.toNat b else (d, m)))

/-- MFE_POS_LO_READ (R558). -/
def execMfePosLoRead (ch : Fin 8) (s : State) : Host.Outcome State Fault Refusal :=
  .next (s.on (fun d => d.posLoRead ch.val))

/-- MARK_EDGE (R559): the pad that MARKk is routed from takes this level. -/
def execMarkEdge (ch : Fin 8) (level : Bool) (s : State) : Host.Outcome State Fault Refusal :=
  .next (s.onBoth (fun d m =>
    let d := d.drivePad (0x20 + ch.val) level
    if d.pSvc then d.markSample m ch.val else (d, m)))

/-- MARK_CHANNEL_ENABLE (R567): a write of EN = 1 that leaves the other fields as they are. -/
def execMarkChannelEnable (ch : Fin 8) (s : State) : Host.Outcome State Fault Refusal :=
  .next (s.on (fun d => d.onMck (fun d => d.markEnable ch.val)))

/-- STANDSTILL_WINDOW (R569, R419). -/
def execStandstillWindow (s : State) : Host.Outcome State Fault Refusal :=
  .next (s.on (fun d => d.stillWindow s.mem))

end Sys2Proof.Machine
end

