-- ==== Sys2Proof/Machine/Fence.lean ====
section
/-! DEFINITION. What takes a fabric die out of service: its fence (R143, R144), and the reset of all fabric dies that a
BROWNOUT_INT reset, entry to DORMANT and every device reset share (Table 05.2, R118, R486). -/

namespace Sys2Proof.Machine

/-! ## Register resets (Table 05.2) -/

/-- The value of the register at `key` after a reset that keeps RWS fields: those fields from `v`, all others at
their reset values (R7). -/
def keepRws (key : Nat) (v : Word) : Word :=
  match regDesc key with
  | none => regReset key
  | some r => BitVec.ofNat 32 (r.fields.foldl
      (fun a f => if f.acc = .rws then putBits a f.hi f.lo (bits v.toNat f.hi f.lo) else a) (regReset key).toNat)

/-- The registers that `sel` names return to their reset values; with `rws` their RWS fields are kept. -/
def Device.regsReset (d : Device) (rws : Bool) (sel : Nat → Bool) : Device :=
  { d with regs := d.regs.filterMap (fun (e : Nat × Word) =>
      if sel e.1 then
        let v := if rws then keepRws e.1 e.2 else regReset e.1
        if v = regReset e.1 then none else some (e.1, v)
      else some e) }

/-- The device without the entries of a table whose keys a fabric die owns: those above `0`. -/
def clearDies {α : Type} (die : Nat → Nat) (t : Tab α) : Tab α := t.filter (fun e => die e.1 == 0)

/-! ## The fence of a die -/

/-- Record why a die failed (Table 05.5): the first reason stays, but a fence while running records its own. -/
def Device.setDieFail (d : Device) (die reason : Nat) : Device :=
  if reason = 5 then
    let k := F.RS_DIE_FAIL_F1.key
    d.wr k (putBits (d.rd k) (4 * die - 1) (4 * die - 4) reason)
  else d.dieFailed die reason

/-- The engines of a die's stop 96 and its port stop (R388, Table 15.3, R143): no event is raised. -/
def Device.enginesStop (d : Device) (die : Nat) : Device :=
  let d := if d.jobRuns die then d.jobEnd die Ge.ABORTED true else d
  let d := d.refetchFail die 8
  let d := match (d.lehrOf die).verify with
    | some (_, _, _, true) => d.lehrCmdEnd die 2 8
    | _ => d
  let d := (d.setLehr die .idle).setCmp die { d.cmpOf die with run := none, failed := false, bus := [] }
  d.setAll [(F.CMP_PT_CTL_OPEN (U.CMP die), 0), (F.CMP_PT_CMD_GO (U.CMP die), 0)]

/-- The changeover when a die of its set is fenced (Table 14.5, cause 11); one whose swap has passed S goes on
(R402). -/
def Device.gafFenced (d : Device) (die : Nat) : Device :=
  let d := d.swapFenced die
  if decide (2 ≤ d.gaf.co) && !(d.gaf.swapCo && !d.gaf.swapSet.isEmpty) && d.coSet.any (fun n => zoneDie n == die) then
    d.gafTell (.abort 11) else d

/-- Fence a die for a reason of Table 05.5 (R143, R144, R313, R659, R317, R357): its stops and bridge answer with
status 3, its sources are masked, its records are lost, its engines stop, and the swap and changeover that include
it end. Its banks and lanes go to their hold and idle states, which follow from DIE_FENCED (R131, R612). -/
def Device.fenceDie (d : Device) (die reason : Nat) : Device :=
  let d := d.setDieFail die reason
  if d.fenced die then d
  else
    let u := U.BR die
    let d := d.raise Ev.DIE_FENCED u 0
    let d := d.record { d.mkRecord 0x0E u noPeer with
      addr := bits (d.rd F.RS_DIE_FAIL_F1.key) (4 * die - 1) (4 * die - 4) }
    let d := (d.setFieldBit F.RS_STATUS_DIE_FENCED (die - 1)).clearFieldBit F.RS_STATUS_DIE_READY (die - 1)
    let d := if d.get (F.BR_STATUS_STATE u) = Br.FAILED then d else d.set (F.BR_STATUS_STATE u) Br.FENCED
    let d := d.answerForwarded die
    let d := d.each (dieStops die) (fun d k => d.isolate k 3)
    let cul := { d.cul with buffers := Tab.set (fun _ => []) d.cul.buffers die [] }
    let ref := { d.refusals with
      queues := Tab.set (fun _ => []) d.refusals.queues die [],
      checks := d.refusals.checks.filter (fun k => bankDie k != die) }
    let d := { d with cul := cul, refusals := ref }
    (((d.gafFenced die).enginesStop die).linkClear die true)

/-- The fence of a die ends as the die becomes ready after a BROWNOUT_INT reset (R143): its stops leave isolation
(R305). -/
def Device.unfence (d : Device) (die : Nat) : Device :=
  let d := d.clearFieldBit F.RS_STATUS_DIE_FENCED (die - 1)
  let d := d.set (F.PL_LINK_STATUS_STATE (U.PL (die - 1))) 0
  d.each (dieStops die) (fun d k => if (d.target k).iso = 3 then d.isoRelease k else d)

/-- What follows from a die's readiness or failure at start: under DIESET_POLICY = PRESENT a failed die is fenced as
soon as it fails (R141), and a fenced die that has become ready is fenced no longer (R143). -/
def Device.dieSettle (d : Device) : Device :=
  d.each fabricDies (fun d k =>
    if d.dieReady k && d.fenced k then d.unfence k
    else if d.dieHasFailed k && !d.fenced k && d.orm.opt.present then d.fenceDie k 0
    else d)

/-! ## The reset of the fabric dies -/

/-- The block-memory rows that a reset keeps: those of retained groups, where it keeps any (R488). -/
def Stores.keepRows (s : Stores) (keep : Nat → Nat → Bool) : Stores :=
  { s with bm := s.bm.filter (fun (e : Nat × Code72) => keep (e.1 / 24576) (e.1 / 512 % 48)) }

/-- The fabric dies lose their state (Table 05.2, columns for fabric configuration, block memories and lanes; R118,
R486): registers but for RWS fields, both planes, the rows that `ret` does not keep, banks, lanes, engines, ports and
what travels on their rings. A fenced die stays fenced (R143). -/
def Device.fabricReset (d : Device) (s : Stores) (rws ret : Bool) : Device × Stores :=
  let s := { s.keepRows (fun n m => ret && d.retained n m) with frames := [] }
  let d := d.each fabricDies (fun d k =>
    (d.enginesStop k).linkClear k (d.fenced k))
  let d := d.regsReset rws (fun key => unitDie (key / 4096) != 0)
  let byKey := fun (k : Nat) => k / 128
  let targets := clearDies byKey d.ring.targets
  let targets := (fabricDies.filter d.fenced).foldl (fun t k => (dieStops k).foldl
    (fun t key => Tab.set (fun _ => TargetState.idle) t key { TargetState.idle with iso := 3 }) t) targets
  let ring := { d.ring with
    targets := targets, inits := d.ring.inits.filter (fun e => e.1 / 128 == 0 || 640 ≤ e.1),
    nodes := d.ring.nodes.filter (fun e => !(1 ≤ e.1 / 512 && e.1 / 512 ≤ 4)), fwd := [] }
  ({ d with
      zones := [], banks := [], lanes := [], gath := [], cmp := [], lehr := [], bankVolt := [], ring := ring,
      refusals := { d.refusals with queues := [], checks := [] }, cul := { d.cul with buffers := [] },
      rst := { d.rst with released := [], late := [], rel := [] } }, s)

/-- The slave loops are off, and the die service domains run on the reference (R175). -/
def Device.slavesOff (d : Device) : Device :=
  let d := { d with clk := { d.clk with slaves := [], slaveGated := fabricDies } }
  d.each fabricDies (fun d k => d.setSvc (15 + k) true)

/-- The fabric dies are cut off: every bridge end answers for its die and discards what comes from it (R118, R119,
R486), and the bridges are DOWN. -/
def Device.cutDies (d : Device) : Device :=
  let d := { d with rst := { d.rst with brdFence := fabricDies } }
  d.each fabricDies (fun d k => d.answerForwarded k)

end Sys2Proof.Machine
end

