-- ==== Sys2Proof/Machine/LifeDebug.lean ====
section
/-! DEFINITION. The life cycle (R464 to R475), the debug authoriser (R479 to R482) and the test access port (R476 to
R478). -/

namespace Sys2Proof.Machine

/-! ## States and fuses (R466 to R469) -/

namespace Lc
abbrev RAW : Nat := 0
abbrev TEST : Nat := 1
abbrev BLANK : Nat := 2
abbrev SEALED : Nat := 3
abbrev RETURNED : Nat := 4
abbrev SCRAPPED : Nat := 5
abbrev INVALID : Nat := 7
end Lc

/-- A row's pattern of a state: the value `v` in every field from 1 to `k` (Table 17.3). -/
def lcPattern (v : Nat) : Nat → Nat
  | 0 => 0
  | k + 1 => lcPattern v k + v * 2 ^ (12 * k)

/-- The two rows of a state. -/
def lcRows (k : Nat) : Nat × Nat := (lcPattern 0x5A3 k, lcPattern 0xA5C k)

/-- The state that two rows decode to (R467). -/
def lcDecode (lc0 lc1 : Nat) : Nat :=
  match [0, 1, 2, 3, 4, 5].find? (fun k => lcRows k == (lc0, lc1)) with
  | some k => k
  | none => Lc.INVALID

/-- Baseline rights (Table 17.1). -/
def lcBaseline (st : Nat) : Nat := if st = 0 ∨ st = 1 then 0xFF else if st = 2 then 0x0F else 0

/-- The generation: one more than the highest blown GEN bit (R469). -/
def Device.generation (d : Device) : Nat :=
  match (List.range 64).reverse.find? (fun i => bit d.fuses.gen i) with
  | some i => i + 1
  | none => 0

/-- A row's status: 0 EMPTY, 1 VALID, 2 BROKEN (R468). -/
def Device.rowStatus (d : Device) (k : Nat) : Nat :=
  match d.hashRow k with
  | none => 0
  | some (true, _) => 1
  | some (false, _) => 2

/-- The fuses of a state's pattern that are not blown, in the order of R467: LC0 before LC1 within a field, bit 0
first; a fuse is its bit number, plus 64 in LC1. -/
def Device.lcToBlow (d : Device) (t : Nat) : List Nat :=
  let r := lcRows t
  ((List.range 5).map (fun f =>
    ((List.range 12).filterMap (fun b => let i := 12 * f + b; if bit r.1 i && !bit d.fuses.lc0 i then some i else none))
      ++ ((List.range 12).filterMap (fun b =>
        let i := 12 * f + b; if bit r.2 i && !bit d.fuses.lc1 i then some (64 + i) else none)))).flatten

/-- Blow fuses. -/
def Device.blow (d : Device) (l : List Nat) : Device :=
  l.foldl (fun d i =>
    if i < 64 then { d with fuses := { d.fuses with lc0 := setBit d.fuses.lc0 i } }
    else { d with fuses := { d.fuses with lc1 := setBit d.fuses.lc1 (i - 64) } }) d

/-! ## The journal (R474, Table 17.8) -/

/-- The journal, if page 8 holds a valid one: source, target, status, count (R474). -/
def Device.journal (d : Device) : Option (Nat × Nat × Nat × Nat) :=
  let p := d.page 8
  let b := p.bytes
  let f := fieldOf b
  if p.cell = 2 ∧ (List.range 8).all (fun g => decide (groupStatus (p.group g) ≤ 1)) ∧ f 0 4 = 0x4C434A4E ∧ f 4 1 = 1
      ∧ f 0x0C 48 = 0 ∧ f 0x3C 4 = crc32 ((b.take 0x3C).map (BitVec.ofNat 8)) ∧ (f 7 1 = 1 ∨ f 7 1 = 2) then
    some (f 5 1, f 6 1, f 7 1, f 8 4)
  else none

/-- LC_STATUS.JOURNAL and LC_JOURNAL show page 8. -/
def Device.journalShow (d : Device) : Device :=
  match d.journal with
  | some (s, t, st, _) =>
    d.setAll [(F.LC_STATUS_JOURNAL, st), (F.LC_JOURNAL_SOURCE, s), (F.LC_JOURNAL_TARGET, t), (F.LC_JOURNAL_STATUS, st)]
  | none =>
    let none_ := decide ((d.page 8).cell = 0)
    d.setAll [(F.LC_STATUS_JOURNAL, if none_ then 0 else 3), (F.LC_JOURNAL_SOURCE, 0), (F.LC_JOURNAL_TARGET, 0),
      (F.LC_JOURNAL_STATUS, 0)]

/-- Step 2 of start-up: the state decoded from the sensed rows (R467), BASELINE (R464), and the journal (R474). -/
def Device.lcStartup (d : Device) : Device :=
  let st := if d.on F.RS_STATUS_FUSE_UNSTABLE then Lc.INVALID else lcDecode d.fuses.sensed0 d.fuses.sensed1
  let d := (d.setAll [(F.LC_STATUS_STATE, st), (F.DA_RIGHTS_BASELINE, lcBaseline st), (F.LC_STATUS_RETRY, 0)]).journalShow
  match d.journal with
  | some (s, t, 1, n) =>
    if st = t then
      let d := d.journalAsk s t 2 n
      { d with lc := { d.lc with announce := true } }
    else if st = Lc.INVALID then d.set F.LC_STATUS_RETRY 1
    else d
  | _ => d

/-- Step 4 of start-up: LC_TRANSITION_DONE after a transition (R473). -/
def Device.lcAnnounce (d : Device) : Device :=
  if d.lc.announce then { d with lc := { d.lc with announce := false } }.raise Ev.LC_TRANSITION_DONE U.LC 0 else d

/-! ## LC_CMD (R468 to R475) -/

/-- Table 17.5. -/
def lcPermitted (s t : Nat) : Bool :=
  [(0, 1), (1, 2), (2, 3), (2, 4), (3, 4), (1, 5), (2, 5), (3, 5), (4, 5)].contains (s, t)

/-- May the retry of R475 run towards `t`? -/
def Device.retryOk (d : Device) (t : Nat) : Bool :=
  match d.journal with
  | none => false
  | some (s, jt, _, _) =>
    let inside (v p : Nat) : Bool := (List.range 64).all (fun i => !bit v i || bit p i)
    d.on F.LC_STATUS_RETRY && t == jt
      && inside d.fuses.lc0 (lcRows t).1 && inside d.fuses.lc1 (lcRows t).2
      && inside (lcRows s).1 d.fuses.lc0 && inside (lcRows s).2 d.fuses.lc1

/-- Table 17.6: why an LC_CMD is refused, the first reason in table order. -/
def Device.lcRefusal (d : Device) (op key t : Nat) : Option Reason :=
  let st := d.get F.LC_STATUS_STATE
  let row := if op = 2 then 1 else 2
  if key ≠ 0x9D ∨ op = 0 ∨ 4 < op ∨ t = 6 ∨ (op = 4 ∧ d.generation = 64) then
    some .reservedValue
  else if d.on F.LC_STATUS_BUSY then some .busy
  else if op = 1 ∧ !(if st = Lc.INVALID then d.retryOk t else lcPermitted st t) then some .lcForbids
  else if (op = 2 ∨ op = 3) ∧ (st ≠ Lc.BLANK ∨ (d.hashRow row).isSome) then some .lcForbids
  else if op = 4 ∧ st ≠ Lc.BLANK ∧ st ≠ Lc.SEALED then some .lcForbids
  else if op = 1 ∧ st = Lc.SEALED ∧ t = Lc.RETURNED ∧ !d.right 7 then some .certRequired
  else if d.clk.osc ≠ Osc.STABLE then some .noTimebase
  else none

/-- Step 2 of a transition (Table 17.7): on the way to RETURNED or SCRAPPED every BK slot is erased and FK0 and FK1 are
revoked. -/
def Device.lcErase (d : Device) (t : Nat) : Device :=
  if t = Lc.RETURNED ∨ t = Lc.SCRAPPED then
    let d := d.each bkSlots (fun d c => d.eraseSlot c)
    d.each [0, 1] (fun d c => (d.setSlot c { (d.slot c) with state := Ks.REVOKED }).loseHolders c)
  else d

/-- A transition begins (Table 17.7): the journal is to read PENDING before anything else happens; a retry skips that
(R475). The fuses follow. -/
def Device.lcStart (d : Device) (t : Nat) : Device :=
  let st := d.get F.LC_STATUS_STATE
  let n := match d.journal with | some (_, _, _, n) => n + 1 | none => 1
  let d := if st = Lc.INVALID then d.lcErase t else d.journalAsk st t 1 n
  { d with lc := { d.lc with target := some t, fused := false } }.setAll
    [(F.LC_CMD_GO, 1), (F.LC_STATUS_BUSY, 1), (F.LC_STATUS_RESULT, 0)]

/-- The value in LC_HASH0 to LC_HASH7. -/
def Device.lcHash (d : Device) : Nat := (List.range 8).foldl (fun a i => a * 2 ^ 32 + d.get (F.LC_HASH_HASH i)) 0

/-- Program a hash row with its check (R468). -/
def Device.progRow (d : Device) (k : Nat) : Device :=
  let h := d.lcHash
  let d := { d with fuses := { d.fuses with
    rows := Tab.set (fun _ => 0) d.fuses.rows k (h * 256 + crc8 (beBytes 32 h)) } }
  d.set (if k = 1 then F.LC_ROWS_DEBUG else F.LC_ROWS_CFG) (d.rowStatus k)

/-- ADVANCE_GEN (R469). -/
def Device.advanceGen (d : Device) : Device :=
  let d := { d with fuses := { d.fuses with gen := setBit d.fuses.gen d.generation } }
  d.set F.LC_GEN_G d.generation

/-- A write of LC_CMD with GO (R468 to R470). A reserved OP or TARGET is not stored (R13). LC_STATUS.RESULT tells how a
transition ended: hash rows and generations leave it. -/
def Device.lcCommand (d : Device) (op key t : Nat) : Device :=
  let d := if op = 0 ∨ 4 < op then d else d.set F.LC_CMD_OP op
  let d := if t = 6 then d else d.set F.LC_CMD_TARGET t
  match d.lcRefusal op key t with
  | some why => d.refuseAt F.LC_REFUSE_REASON why F.LC_CMD_GO
  | none => if op = 1 then d.lcStart t else if op = 2 then d.progRow 1 else if op = 3 then d.progRow 2 else d.advanceGen

/-- LC_PROG_DEBUG_HASH (R468, R470). -/
def execLcProgDebugHash (key : BitVec 8) (s : State) : Host.Outcome State Fault Refusal :=
  .next (s.on (fun d => d.onMck (fun d => d.lcCommand 2 key.toNat (d.get F.LC_CMD_TARGET))))
/-- LC_PROG_CFG_HASH (R468, R470). -/
def execLcProgCfgHash (key : BitVec 8) (s : State) : Host.Outcome State Fault Refusal :=
  .next (s.on (fun d => d.onMck (fun d => d.lcCommand 3 key.toNat (d.get F.LC_CMD_TARGET))))
/-- LC_ADVANCE_GEN (R469, R470). -/
def execLcAdvanceGen (key : BitVec 8) (s : State) : Host.Outcome State Fault Refusal :=
  .next (s.on (fun d => d.onMck (fun d => d.lcCommand 4 key.toNat (d.get F.LC_CMD_TARGET))))

/-- Steps 3 and 4 of a transition end (R471, R472), once its journal entry is written and on the reference's timebase:
`weak` names the fuses that do not read blown after three repetitions, and the margin sense gives the rows that LC_RAW
shows. With no weak fuse step 5 begins: the journal is to read DONE; else RESULT reads FUSE_FAIL and the state INVALID. -/
def Device.lcComplete (d : Device) (weak : Nat) : Device :=
  match d.lc.target with
  | none => d
  | some t =>
    if d.journaling || d.clk.osc != Osc.STABLE then d
    else
      let d := d.blow ((d.lcToBlow t).filter (fun i => !bit weak i))
      let d := { d with fuses := { d.fuses with sensed0 := d.fuses.lc0, sensed1 := d.fuses.lc1 } }
      if (d.fuses.lc0, d.fuses.lc1) = lcRows t then
        let e := match d.journal with | some (s, jt, _, n) => (s, jt, n) | none => (d.get F.LC_STATUS_STATE, t, 1)
        { d with lc := { d.lc with fused := true } }.journalAsk e.1 e.2.1 2 e.2.2
      else
        { d with lc := { d.lc with target := none } }.setAll [(F.LC_CMD_GO, 0), (F.LC_STATUS_BUSY, 0),
          (F.LC_STATUS_RESULT, 2), (F.LC_STATUS_STATE, Lc.INVALID), (F.DA_RIGHTS_BASELINE, 0)]

/-- A journal entry has been written: step 2 of the transition that it began, or the end of the one that it completes, whose
LC_DONE reset is then due (Table 17.7). -/
def Device.lcJournaled (d : Device) : Device :=
  let d := d.journalShow
  match d.lc.target with
  | none => d
  | some t =>
    if d.lc.fused then
      { d with lc := { d.lc with target := none, fused := false, announce := true, resetDue := true } }.setAll
        [(F.LC_CMD_GO, 0), (F.LC_STATUS_BUSY, 0), (F.LC_STATUS_RESULT, 1)]
    else d.lcErase t

/-- The write that the engine runs ends: a host commit, a counter cell or a journal entry; a waiting journal entry starts. -/
def Device.pageEnd (d : Device) : Device :=
  let d := match d.orm.write, d.orm.dev with
    | some _, _ => d.commitDone
    | none, some w =>
      let d := d.devDone w
      match w with | .journal _ _ _ _ => d.lcJournaled | .cell _ _ _ => d
    | none, none => d
  d.oscRelease.ormNext

/-- Power fails during a transition: before the fuses none is blown; then some of them, in their order: how many is a free
value. A journal entry that waits is lost. -/
def Device.lcPowerLost (d : Device) : Device :=
  let pending := d.journaling
  let d := { d with orm := { d.orm with entry := none } }
  match d.lc.target with
  | none => d
  | some t =>
    let l := if pending || d.lc.fused then [] else d.lcToBlow t
    let k := d.freeBelow (l.length + 1)
    let d := d.tick.blow (l.take k)
    { d with lc := { d.lc with target := none, fused := false } }

/-! ## The debug authoriser (R479 to R482) -/

/-- DA_BUF is zeroed after GO. -/
def Device.clearDaBuf (d : Device) : Device := d.each (List.range 48) (fun d i => d.set (F.DA_BUF_DATA i) 0)
/-- The first `n` words of DA_BUF as bytes. -/
def Device.daBuf (d : Device) (n : Nat) : List Nat :=
  Crypto.toBytes (4 * n) ((List.range n).foldl (fun a i => a * 2 ^ 32 + d.get (F.DA_BUF_DATA i)) 0)

/-- A submission is rejected with a code of DA_STATUS.REJECT. -/
def Device.daReject (d : Device) (code : Nat) : Device :=
  (d.set F.DA_STATUS_REJECT code).raise Ev.DEBUG_CERT_REJECTED U.DA 0
/-- A submission is granted. -/
def Device.daGrant (d : Device) (rights : Nat) : Device :=
  (d.setAll [(F.DA_RIGHTS_GRANTED, Nat.lor (d.get F.DA_RIGHTS_GRANTED) rights), (F.DA_STATUS_REJECT, 0)]).raise
    Ev.DEBUG_OPENED U.DA 0

/-- The first failing check of a certificate, 0 where it is accepted (R479, Table 17.10). -/
def Device.certCheck (d : Device) (c : List Nat) : Nat :=
  let f := fieldOf c
  let pub := Sys2Proof.slice c 0x40 64
  if d.get F.LC_STATUS_STATE ≠ Lc.SEALED then 2
  else if f 0 4 ≠ 0x5A444243 ∨ f 4 1 ≠ 1 ∨ f 5 1 ≠ 0 ∨ bit (f 6 2) 5 ∨ 256 ≤ f 6 2 ∨ f 0x0C 4 ≠ 0 ∨ f 0x30 16 ≠ 0 then 1
  else if f 0x10 32 ≠ d.fuses.devid then 4
  else if f 8 4 < d.generation then 5
  else if !d.rowMatches 1 pub then 6
  else if !Crypto.ecdsaVerify (Crypto.sha256 (c.take 0x80)) (Sys2Proof.slice c 0x80 64) pub then 7
  else 0

/-- A certificate is judged (R479). -/
def Device.daCert (d : Device) (c : List Nat) : Device :=
  let r := d.certCheck c
  if r = 0 then d.daGrant (fieldOf c 6 2) else d.daReject r

/-- DA_CERT (R479): DA_CMD OP = CERT with the certificate in DA_BUF. -/
def execDaCert (s : State) : Host.Outcome State Fault Refusal :=
  .next (s.on (fun d => d.onMck (fun d => ((d.set F.DA_CMD_OP 1).daCert (d.daBuf 48)).clearDaBuf)))

/-- Why a challenge is refused (R480). -/
def Device.chalRefusal (d : Device) : Option Reason :=
  let st := d.get F.LC_STATUS_STATE
  if !(st = Lc.RETURNED ∨ (st = Lc.SEALED ∧ d.orm.opt.vendorDebug)) then some .lcForbids
  else if d.on F.TRNG_STATUS_FAILED ∨ d.trng.fifo.length < 8 then some .busy
  else none

/-- Issue a challenge (R480, R481): a new nonce from the TRNG replaces an open one. -/
def Device.daChallenge (d : Device) : Device :=
  let d := d.set F.DA_CMD_OP 2
  match d.chalRefusal with
  | some why => d.refuseAt F.DA_REFUSE_REASON why F.DA_CMD_GO
  | none =>
    let nonce := (d.trng.fifo.take 8).foldl (fun a w => a * 2 ^ 32 + w) 0
    let d := { d with trng := { d.trng with fifo := d.trng.fifo.drop 8 }, lc := { d.lc with nonce := some nonce } }
    let v := (nonce * 2 ^ 256 + d.fuses.devid) * 2 ^ 128 + d.get F.LC_STATUS_STATE * 2 ^ 120 + d.generation * 2 ^ 64
    let d := d.each (List.range 20) (fun d i => d.set (F.DA_CHAL_CHAL i) (v / 2 ^ (32 * (19 - i))))
    (d.trngLevel.set F.DA_STATUS_NONCE_OPEN 1).raise Ev.CHALLENGE_ISSUED U.DA 0

/-- DA_CHALLENGE (R480, R481). -/
def execDaChallenge (s : State) : Host.Outcome State Fault Refusal :=
  .next (s.on (fun d => d.onMck (fun d => d.daChallenge.clearDaBuf)))

/-- The bytes of the vendor's debug key. -/
def vendorKeyBytes : List Nat := Crypto.toBytes 64 Config.vendorKey

/-- The first failing check of a response (R482, Table 17.11). -/
def Device.respCheck (d : Device) (c : List Nat) : Nat :=
  let f := fieldOf c
  let st := d.get F.LC_STATUS_STATE
  if !(st = Lc.RETURNED ∨ (st = Lc.SEALED ∧ d.orm.opt.vendorDebug)) then 2
  else if f 0 4 ≠ 0x5A445652 ∨ f 4 1 ≠ 1 ∨ f 5 1 ≠ 0 ∨ 256 ≤ f 6 2 ∨ f 8 8 ≠ 0 then 1
  else if d.lc.nonce ≠ some (f 0x10 32) then 3
  else if f 0x30 32 ≠ d.fuses.devid then 4
  else if !d.rowMatches 0 vendorKeyBytes then 6
  else if !Crypto.ecdsaVerify (Crypto.sha256 (c.take 0x50)) (Sys2Proof.slice c 0x50 64) vendorKeyBytes then 7
  else 0

/-- The open nonce closes (R481). -/
def Device.closeNonce (d : Device) : Device :=
  { d with lc := { d.lc with nonce := none } }.set F.DA_STATUS_NONCE_OPEN 0

/-- A response is judged, which closes the nonce (R481, R482). -/
def Device.daResponse (d : Device) (c : List Nat) : Device :=
  let r := d.respCheck c
  let rights := fieldOf c 6 2
  let rights := if d.get F.LC_STATUS_STATE = Lc.SEALED then clearBit rights 5 else rights
  (if r = 0 then d.daGrant rights else d.daReject r).closeNonce

/-- DA_RESPONSE (R481, R482): DA_CMD OP = RESPONSE with the response in DA_BUF. -/
def execDaResponse (s : State) : Host.Outcome State Fault Refusal :=
  .next (s.on (fun d => d.onMck (fun d => ((d.set F.DA_CMD_OP 3).daResponse (d.daBuf 36)).clearDaBuf)))

/-- NONCE_EXPIRE (R481). -/
def execNonceExpire (s : State) : Host.Outcome State Fault Refusal := .next (s.on (fun d => d.onMck Device.closeNonce))

/-! ## The test access port (R476 to R478) -/

/-- Select an instruction with its data register's value. -/
def Device.tapSelect (d : Device) (ir dr : Nat) : Device := { d with tap := { d.tap with ir := ir, dr := dr } }
/-- BYPASS: the 1-bit register, which captures 0. -/
def Device.tapBypass (d : Device) : Device := d.tapSelect 0xFF 0
/-- An instruction whose right or state condition is not met selects BYPASS and sets DENIED (R477), at the next MCK edge
(R79). -/
def Device.tapDenied (d : Device) : Device :=
  let d := d.tapBypass
  if d.board.mck then d.set F.DA_STATUS_DENIED 1 else { d with tap := { d.tap with denied := true } }
/-- An instruction that needs a condition. -/
def Device.tapNeeds (d : Device) (ok : Bool) (f : Device → Device) : Device := if ok then f d else d.tapDenied

/-- The value that a challenge gives on the TAP: the 640 bits of DA_CHAL. -/
def Device.chalValue (d : Device) : Nat :=
  (List.range 20).foldl (fun a i => a * 2 ^ 32 + d.get (F.DA_CHAL_CHAL i)) 0

/-- Is the life cycle SEALED or RETURNED? -/
def Device.chalState (d : Device) : Bool :=
  d.get F.LC_STATUS_STATE == Lc.SEALED || d.get F.LC_STATUS_STATE == Lc.RETURNED

/-- A submission reaches the debug authoriser (R478). -/
def Device.tapJudge (d : Device) (ir v : Nat) : Device :=
  if ir = 0x08 then d.daCert (Crypto.toBytes 192 v)
  else if ir = 0x0A then d.daResponse (Crypto.toBytes 144 v)
  else let d := d.daChallenge; d.tapSelect 0x09 d.chalValue

/-- A submission is judged while MCK runs, else it waits (R478). -/
def Device.tapSubmit (d : Device) (ir v : Nat) : Device :=
  if d.board.mck then d.tapJudge ir v else { d with tap := { d.tap with waiting := some (ir, v) } }

/-- TAP_EXTEST (R477): the boundary register drives the pins with what it holds. -/
def execTapExtest (s : State) : Host.Outcome State Fault Refusal :=
  .next (s.on (fun d => d.tapNeeds (d.right 3) (fun d => d.tapSelect 0x00 0)))
/-- TAP_SAMPLE_PRELOAD (R477): the boundary register takes what is shifted in. -/
def execTapSamplePreload (v : List Bool) (s : State) : Host.Outcome State Fault Refusal :=
  .next (s.on (fun d => d.tapNeeds (d.right 3) (fun d =>
    { d.tapSelect 0x01 0 with tap := { (d.tapSelect 0x01 0).tap with boundary := v } })))
/-- TAP_IDCODE (R476). -/
def execTapIdcode (s : State) : Host.Outcome State Fault Refusal :=
  .next (s.on (fun d => d.tapSelect 0x02 0x152409CB))
/-- TAP_DA_CERT (R477, R478, R479). -/
def execTapDaCert (v : BitVec 1536) (s : State) : Host.Outcome State Fault Refusal :=
  .next (s.on (fun d => d.tapNeeds (d.get F.LC_STATUS_STATE == Lc.SEALED) (fun d =>
    (d.tapSelect 0x08 v.toNat).tapSubmit 0x08 v.toNat)))
/-- TAP_DA_CHAL (R477, R478, R480). -/
def execTapDaChal (s : State) : Host.Outcome State Fault Refusal :=
  .next (s.on (fun d => d.tapNeeds d.chalState (fun d => (d.tapSelect 0x09 0).tapSubmit 0x09 0)))
/-- TAP_DA_RESP (R477, R478, R482). -/
def execTapDaResp (v : BitVec 1152) (s : State) : Host.Outcome State Fault Refusal :=
  .next (s.on (fun d => d.tapNeeds d.chalState (fun d => (d.tapSelect 0x0A v.toNat).tapSubmit 0x0A v.toNat)))
/-- TAP_DA_STATUS (R477). -/
def execTapDaStatus (s : State) : Host.Outcome State Fault Refusal :=
  .next (s.on (fun d => d.tapSelect 0x0B (d.rd F.DA_STATUS_REJECT.key)))
/-- TAP_RING (R477): the unit is handed to the TAP initiator, whose stop on the ring the manual does not give. -/
def execTapRing (v : Unit128) (s : State) : Host.Outcome State Fault Refusal :=
  .next (s.on (fun d => d.tapNeeds (d.right 2) (fun d =>
    { d.tapSelect 0x10 v.toNat with tap := { (d.tapSelect 0x10 v.toNat).tap with units := d.tap.units ++ [v] } })))
/-- TAP_PROBE (R477): 64 zone signals that the image names; which ones is open, so they are a free value. -/
def execTapProbe (s : State) : Host.Outcome State Fault Refusal :=
  .next (s.on (fun d => d.tapNeeds (d.right 1) (fun d => (d.tapSelect 0x11 (Config.freeDword d.free).toNat).tick)))
/-- TAP_READBACK (R438, R477): as LHR_CMD READBACK, of a frame that the register names. -/
def execTapReadback (die : Die) (fa : BitVec 32) (s : State) : Host.Outcome State Fault Refusal :=
  .next (s.on (fun d => d.tapNeeds (d.right 0) (fun d =>
    let d := d.tapSelect 0x12 fa.toNat
    if faGood fa.toNat && !d.fenced die.no then
      (d.set (F.LHR_CMD_FA_FA (U.GTH die.no)) fa.toNat).readback s.mem die.no else d)))
/-- TAP_SCAN (R477): the manufacturing scan chains, whose content is open. -/
def execTapScan (s : State) : Host.Outcome State Fault Refusal :=
  .next (s.on (fun d => d.tapNeeds (d.right 5) (fun d => (d.tapSelect 0x20 (Config.freeDword d.free).toNat).tick)))
/-- TAP_BYPASS (R477). -/
def execTapBypass (s : State) : Host.Outcome State Fault Refusal := .next (s.on Device.tapBypass)
/-- TAP_TEST_LOGIC_RESET (R464, R476): IDCODE; the granted rights stay. -/
def execTapTestLogicReset (s : State) : Host.Outcome State Fault Refusal :=
  .next (s.on (fun d => d.tapSelect 0x02 0x152409CB))

/-- A denial that waited for MCK shows in DA_STATUS (R79, R477). -/
def Device.tapDeniedShow (d : Device) : Device :=
  if d.tap.denied then { d with tap := { d.tap with denied := false } }.set F.DA_STATUS_DENIED 1 else d

/-- A waiting submission is judged as MCK runs again (R478). -/
def Device.tapResume (d : Device) : Device :=
  match d.tap.waiting with
  | none => d
  | some (ir, v) => { d with tap := { d.tap with waiting := none } }.tapJudge ir v

end Sys2Proof.Machine
end

