-- ==== Sys2Proof/Machine/Reset.lean ====
section
/-! DEFINITION. Device resets (R111 to R124), start-up steps 1 and 2 (Table 05.4), the watchdog, the COMMAND reset, and
the fatal failure of a bridge (R31 to R33, R144). -/

namespace Sys2Proof.Machine

/-! ## A device reset -/

/-- Does a register keep its value across a device reset: the battery gauge and, where the Cullet is kept, CUL_NEXT
(Table 05.2, R318)? RS_CAUSE is written by the reset itself (R116). -/
def resetKeeps (cullet : Bool) (key : Nat) : Bool :=
  key / 4096 == U.BG || key == F.RS_CAUSE_CAUSE.key || (cullet && key == F.CUL_NEXT_INDEX.key)

/-- The pool banks that step 8 is to fill with zeros after a reset (Table 05.2): all, or those not retained. -/
def Device.fillMask (d : Device) (all : Bool) : Nat :=
  if all then 2 ^ 32 - 1 else 2 ^ 32 - 1 - d.get F.PW_RET_POOL_BANKS

/-- A device reset (Table 05.2, R112, R114 to R116, R122 to R124) by a source, for BRIDGE_FATAL of a die. What the table
keeps is carried over; everything else is as after POR. The sequences that R123 and R447 let complete go on. -/
def Device.deviceReset (d : Device) (s : Stores) (src : ResetSource) (die : Nat) : Device × Stores :=
  let por := decide (src = .por)
  let all := por || decide (src = .brownoutP)
  let fill := d.fillMask all
  let f := d.fabricReset s (!por) (!all)
  let e := f.1.regsReset (!por) (fun key => !resetKeeps (!all) key)
  let slots := d.keys.slots.map (fun (x : Nat × KeySlot) => (x.1, { x.2 with use := 0 }))
  let commit := !por && d.ormBusy
  let osc := if d.clk.osc != Osc.STABLE || (all && !commit) then Osc.STOPPED else Osc.STABLE
  let rst := { ResetState.por0 with por := por, startPending := true, fill := fill, oscStop := all && commit }
  let clk := { ClockState.off with osc := osc, refselUsed := d.clk.refselUsed }
  let r := { Device.reset with
    regs := e.regs, free := f.1.free, board := d.board, rst := rst, clk := clk,
    cul := if all then .idle else { d.cul with buffers := [] },
    orm := d.orm, fuses := d.fuses, bat := d.bat, tap := d.tap,
    keys := { d.keys with slots := slots, deferred := none },
    lc := { d.lc with resetDue := false, nonce := none } }
  let r := r.setAll [(F.RS_CAUSE_CAUSE, src.code), (F.RS_CAUSE_DIE, if src = .bridgeFatal then die else 0),
    (F.ORM_STATUS_BUSY, b2n d.ormBusy), (F.ORM_STATUS_DEVICE, b2n d.orm.dev.isSome),
    (F.KS_STATUS_BUSY, b2n (d.keys.prog.isSome || d.keys.revoke.isSome)), (F.LC_STATUS_BUSY, b2n d.lc.target.isSome),
    (F.ORM_CMD_GO, b2n d.orm.write.isSome), (F.KS_CMD_GO, b2n (d.keys.prog.isSome || d.keys.revoke.isSome)),
    (F.LC_CMD_GO, b2n d.lc.target.isSome)]
  (r, f.2)

/-! ## Start-up steps 1 and 2 -/

/-- Steps 1 and 2 of start-up (Table 05.4): fuse sense (R134), the life-cycle decode and the journal (R467, R474). The
device then stands at step 3. -/
def Device.startUp (d : Device) : Device :=
  let d := { d with rst := { d.rst with startPending := false, rstActive := false } }
  let d := { d with fuses := { d.fuses with sensed0 := d.fuses.lc0, sensed1 := d.fuses.lc1 } }
  let d := d.set F.RS_STATUS_FUSE_UNSTABLE (b2n d.fuses.unstable)
  d.lcStartup.set F.RS_STATUS_STATE Rs.OPTIONS

/-- A device reset that is recognised at an MCK edge, and the start-up after it (R112). -/
def Device.resetNow (d : Device) (s : Stores) (src : ResetSource) (die : Nat) : Device × Stores :=
  let r := d.deviceReset s src die
  (r.1.startUp, r.2)

/-! ## Power-on reset (R42, R116) -/

/-- POR is asserted: VCCP, or VCCAUX where `aux` holds, falls. What runs on main power stops where it is (R104, R447,
R450); without VCCAUX the battery domain is left to VBAT (R40). -/
def Device.porAssert (d : Device) (s : Stores) (aux : Bool) : Device × Stores :=
  let board := if aux then { d.board with vccaux := false } else { d.board with vccp := false }
  let d := { d with board := board }
  let d := (d.lcPowerLost.writeInterrupt.ksPowerLost).when aux Device.batterySupply
  if d.rst.por then (d, s) else d.deviceReset s .por 0

/-- POR_ASSERT (R42, R53, R116). -/
def execPorAssert (aux : Bool) (s : State) : Host.Outcome State Fault Refusal :=
  .next (s.onBoth (fun d m => d.porAssert m aux))

/-- POR is released: both rails are good. Start-up begins once RST_N is high and MCK runs (R112); `unstable` says that
the fuse reads disagree on every attempt (R134). -/
def Device.porRelease (d : Device) (unstable : Bool) : Device :=
  if !d.rst.por then d
  else
    let d := { d with board := { d.board with vccp := true, vccaux := true }, rst := { d.rst with por := false } }
    let d := { d with fuses := { d.fuses with unstable := unstable } }
    if d.board.mck && !d.board.rstLow then d.startUp else d

/-- POR_RELEASE (R42, R112, R134). -/
def execPorRelease (unstable : Bool) (s : State) : Host.Outcome State Fault Refusal :=
  .next (s.on (fun d => d.porRelease unstable))

/-- A recognised reset source acts: on an MCK edge, with POR not asserted (R111). -/
def Device.recognise (d : Device) (s : Stores) (due : Bool) (src : ResetSource) (die : Nat) : Device × Stores :=
  if due && d.board.mck && !d.rst.por then d.resetNow s src die else (d, s)

/-- BROWNOUT_P (R44, R112): VCCP below 0.755 V for 1 µs, without POR. The pads that it is the core rail of go off whether
or not MCK runs; PAD_SUPPLY_GOOD or POR_RELEASE says that it is good again. -/
def execBrownoutP (s : State) : Host.Outcome State Fault Refusal :=
  .next (s.onBoth (fun d m => { d with board := { d.board with vccp := false } }.recognise m true .brownoutP 0))

/-! ## RST_N (R112, R113, R128) -/

/-- RST_N_FALL: the clamp acts at once and sets CLAMP_SEEN, without MCK (R44, R113, R128). -/
def execRstNFall (s : State) : Host.Outcome State Fault Refusal :=
  .next (s.on (fun d =>
    let d := { d with board := { d.board with rstLow := true } }
    if d.rst.por then d else d.set F.RS_STATUS_CLAMP_SEEN 1))

/-- RST_N_RESET: four low samples (R112). The start-up after it waits for the release. -/
def execRstNReset (s : State) : Host.Outcome State Fault Refusal :=
  .next (s.onBoth (fun d m =>
    if d.board.rstLow && d.board.mck && !d.rst.por && !d.rst.rstActive then
      let r := d.deviceReset m .rstN 0
      ({ r.1 with rst := { r.1.rst with rstActive := true } }, r.2)
    else (d, m)))

/-- RST_N_RISE: the clamp ends (R113). -/
def execRstNRise (s : State) : Host.Outcome State Fault Refusal :=
  .next (s.on (fun d => { d with board := { d.board with rstLow := false } }))

/-- RST_N_RELEASE: 16 high samples; a start-up that waited begins (R112, R134). -/
def execRstNRelease (unstable : Bool) (s : State) : Host.Outcome State Fault Refusal :=
  .next (s.on (fun d =>
    if d.rst.startPending && d.board.mck && !d.rst.por && !d.board.rstLow then
      { d with fuses := { d.fuses with unstable := unstable } }.startUp
    else d))

/-! ## The watchdog and the COMMAND reset (R117, R125 to R127) -/

/-- Does the watchdog run (R125)? -/
def Device.wdogOn (d : Device) : Bool := d.orm.opt.wdogOn && d.rst.served

/-- WDOG_WARN: the count has reached half of WDOG_TICKS (R127). -/
def execWdogWarn (s : State) : Host.Outcome State Fault Refusal :=
  .next (s.on (fun d => d.onMck (fun d =>
    if d.wdogOn && d.get F.RS_WDOG_LEFT_TICKS == d.orm.opt.wdogTicks / 2 then d.raise Ev.WDOG_WARN U.RS 0 else d)))

/-- WATCHDOG_EXPIRE: the count has reached 0 (R127). -/
def execWatchdogExpire (s : State) : Host.Outcome State Fault Refusal :=
  .next (s.onBoth (fun d m => d.recognise m (d.wdogOn && d.get F.RS_WDOG_LEFT_TICKS == 0) .watchdog 0))

/-- A write of RS_WDOG_KICK (R126). -/
def Device.wdogKick (d : Device) (v : Nat) : Device :=
  if v ≠ 0x6B1C then d.refuseAt F.RS_REFUSE_REASON .reservedValue F.RS_WDOG_KICK_VALUE
  else if d.wdogOn then d.set F.RS_WDOG_LEFT_TICKS d.orm.opt.wdogTicks
  else d

/-- RS_WDOG_KICK (R126). -/
def execRsWdogKick (value : BitVec 16) (s : State) : Host.Outcome State Fault Refusal :=
  .next (s.on (fun d => d.onMck (fun d => d.wdogKick value.toNat)))

/-- A write of RS_CMD with DEVICE = 1 (R117), in a frame that MCS_N has not ended yet. -/
def Device.rsCommand (d : Device) (key : Nat) : Device :=
  if key = 0xC3 then { d with rst := { d.rst with cmdReset := true }, board := { d.board with mcsLow := true } }
  else d.refuseAt F.RS_REFUSE_REASON .reservedValue F.RS_CMD_DEVICE

/-- RS_CMD_DEVICE (R117). -/
def execRsCmdDevice (key : BitVec 8) (s : State) : Host.Outcome State Fault Refusal :=
  .next (s.on (fun d => d.onMck (fun d => d.rsCommand key.toNat)))

/-- MCS_N rises at the end of the frame that carried an accepted RS_CMD.DEVICE (R117): the reset is recognised, at the next
MCK edge where MCK has stopped (R111). -/
def Device.commandReset (d : Device) (s : Stores) : Device × Stores :=
  if !d.rst.cmdReset then (d, s)
  else
    let d := { d with board := { d.board with mcsLow := false } }
    if d.board.mck then d.recognise s true .command 0
    else ({ d with ml := { d.ml with rose := some .command } }, s)

/-- COMMAND_RESET (R117). -/
def execCommandReset (s : State) : Host.Outcome State Fault Refusal := .next (s.onBoth Device.commandReset)

/-! ## Fatal bridge failures (R31 to R33, R144, R657) -/

/-- Has the release of a die begun: GOE or more is done for it (R146)? -/
def Device.dieOut (d : Device) (die : Nat) : Bool :=
  let st := d.get F.RS_STATUS_STATE
  d.rst.released.contains die || (d.rst.rel.contains die && (st == Rs.GOE || st == Rs.GWE))

/-- A fatal failure before release under DIESET_POLICY = ALL (R138, R140, R144): the bridge reads FAILED and the die has
failed at start, so no die is released. -/
def Device.bridgeEarly (d : Device) (die : Nat) : Device :=
  let d := (d.set (F.BR_STATUS_STATE (U.BR die)) Br.FAILED).clearFieldBit F.RS_STATUS_DIE_READY (die - 1)
  let d := d.dieFailed die 2
  if d.get F.RS_STATUS_STATE = Rs.WAIT_DIES then
    { d with rst := { d.rst with rel := [] } }.set F.RS_STATUS_STATE Rs.STALLED
  else d

/-- A bridge has failed fatally (R32, R33, R144): its die is fenced (under ALL only once its release has begun), or the
device is reset, on an MCK edge (R111). -/
def Device.bridgeFatal (d : Device) (s : Stores) (die : Nat) : Device × Stores :=
  let u := U.BR die
  let d := d.record (d.mkRecord 0x0D u noPeer)
  if d.orm.opt.bridgeReset then
    let d := d.set (F.BR_STATUS_STATE u) Br.FAILED
    if d.board.mck then d.resetNow s .bridgeFatal die
    else ({ d with rst := { d.rst with fatal := some die } }, s)
  else if d.orm.opt.present || d.dieOut die then (d.fenceDie die 5, s)
  else (d.bridgeEarly die, s)

/-- The node where a packet waits to cross path `path` of a die's bridge (R657), if one does. -/
def Device.pathNode (d : Device) (die path : Nat) : Option (Bool × Bool) :=
  let r := if path % 2 = 0 then 5 else die
  let pos := if path % 2 = 0 then die else 64
  [(false, true), (true, true), (false, false), (true, false)].find? (fun (n : Bool × Bool) =>
    match d.node (nodeKey r pos n.1 n.2) with
    | [] => false
    | p :: _ => p.crossing r pos == some (die, path % 2 == 0) && p.path r pos n.1 == path)

/-- A packet with a parity error in each unit of a list: unit 0 is the header, unit k its k-th data unit (R31). -/
def Packet.hurt (p : Packet) (units : List Nat) : Packet :=
  { hdr := if units.contains 0 then p.hdr ||| BitVec.ofNat 128 (2 ^ 43) else p.hdr,
    data := p.data.mapIdx (fun i (u : DataUnit) => if units.contains (i + 1) then { u with poison := true } else u) }

/-- One parity error on a die's bridge (R31): counted, raised, recorded, and noted with its time for R32. -/
def Device.parityNote (die : Nat) (d : Device) : Device :=
  let u := U.BR die
  let d := (d.inc (F.BR_ERR_CNT_COUNT u)).raise Ev.BRIDGE_ERROR u 0
  let d := d.record (d.mkRecord 0x0C u noPeer)
  let now := d.clk.refCycles
  let l := now :: (Tab.get (fun _ => []) d.brErrs die).filter (fun t => decide (now < t + 40000))
  { d with brErrs := Tab.set (fun _ => []) d.brErrs die l }

/-- The first packet that waits for path `path` of a die's bridge crosses it with parity errors in the units that
`units` names (bit 0 the header, bit k the k-th data unit) (R31): each is poisoned and counted, and the packet is
forwarded in its place; ERR_LIMIT of them within 1 ms of reference time (40,000 cycles) are fatal (R32). Bits beyond the
packet's units name nothing. -/
def Device.parityError (d : Device) (s : Stores) (die path units : Nat) : Device × Stores :=
  match d.bridgeOpen die, d.pathNode die path with
  | true, some (ccw, resp) =>
    let r := if path % 2 = 0 then 5 else die
    let pos := if path % 2 = 0 then die else 64
    let here := match d.node (nodeKey r pos ccw resp) with | [] => 0 | p :: _ => p.units
    let bad := (List.range here).filter (bit units)
    if bad.isEmpty then (d, s)
    else
      let d := d.hop r pos ccw resp 0 (fun p => p.hurt bad)
      let d := d.each bad (fun d _ => d.parityNote die)
      if d.get (F.BR_FATAL_CFG_ERR_LIMIT (U.BR die)) ≤ (Tab.get (fun _ => []) d.brErrs die).length then d.bridgeFatal s die
      else (d, s)
  | _, _ => (d, s)

/-- BRIDGE_PARITY_ERROR (R31, R32). -/
def execBridgeParityError (die : Die) (path : Fin 4) (units : BitVec 17) (s : State) : Host.Outcome State Fault Refusal :=
  .next (s.onBoth (fun d m => d.parityError m die.no path.val units.toNat))

/-- BRIDGE_STALL_FATAL (R32): a path with a waiting unit has made no progress for STALL_US. -/
def execBridgeStallFatal (die : Die) (path : Fin 4) (s : State) : Host.Outcome State Fault Refusal :=
  .next (s.onBoth (fun d m =>
    if d.bridgeOpen die.no && (d.pathNode die.no path.val).isSome then d.bridgeFatal m die.no else (d, m)))

/-- A write of BR_CTL.CLR_CNT (Table 02.14). -/
def Device.brClear (d : Device) (die : Nat) : Device := d.set (F.BR_ERR_CNT_COUNT (U.BR die)) 0

/-- BR_CLR_CNT (R31). -/
def execBrClrCnt (die : Die) (s : State) : Host.Outcome State Fault Refusal :=
  .next (s.on (fun d => d.onMck (fun d => d.brClear die.no)))

end Sys2Proof.Machine
end

