-- ==== Sys2Proof/Machine/Startup.lean ====
section
/-! DEFINITION. Start-up from step 3 to step 9 (Table 05.4), the oscillator and the loops (R153 to R172), the bring-up of
the fabric dies (R29, R30, R137 to R142) and the staged release (R146 to R149). -/

namespace Sys2Proof.Machine

/-! ## The bring-up of a die (R29, R30, R369, R384) -/

/-- The failing wires of a path. -/
def DieUp.wires (u : DieUp) (path : Nat) : Nat :=
  if path = 0 then u.wires0.toNat else if path = 1 then u.wires1.toNat
  else if path = 2 then u.wires2.toNat else u.wires3.toNat

/-- The bridge-up of a die (R29, R30): up to 2 failing wires per path are replaced; a path with more fails. -/
def Device.bridgeUp (d : Device) (die : Nat) (up : DieUp) : Device :=
  let u := U.BR die
  let failed := (List.range 4).filter (fun p => decide (2 < DieUp.wires up p))
  let spares := ((List.range 4).filter (fun p => decide (DieUp.wires up p ≤ 2))).foldl (fun a p => a + DieUp.wires up p) 0
  d.setAll [(F.BR_STATUS_FAILED_PATH u, failed.foldl setBit 0), (F.BR_STATUS_SPARES_USED u, spares),
    (F.BR_STATUS_STATE u, if !failed.isEmpty then Br.FAILED else if spares = 0 then Br.UP else Br.DEGRADED)]

/-- A die whose clock is settled is brought up: its bridge, its port and the load of its base image (steps 7 and 8,
R139). A FAILED bridge fails the die (R138). -/
def Device.dieUp (d : Device) (die : Nat) (up : DieUp) : Device :=
  let d := { d with rst := { d.rst with late := d.rst.late.filter (· != die) } }
  if !d.board.vccint || d.dieReady die || d.dieHasFailed die then d
  else
    let d := d.bridgeUp die up
    if d.get (F.BR_STATUS_STATE (U.BR die)) = Br.FAILED then d.dieFailed die 2
    else
      (d.cmpInit die (byteVals up.dir) (up.again.map byteVals)).jobStart die 0 0 0

/-- Step 8 also fills the pool with zeros where the reset asked for it (R120, Table 05.2). -/
def Device.zeroFill (d : Device) (s : Stores) : Device × Stores :=
  let banks := (List.range 32).filter (fun n => bit d.rst.fill n)
  let s := { s with pool := s.pool.filter (fun (e : Nat × Code72) => !banks.contains (wordBank e.1)) }
  ({ d with rst := { d.rst with fill := 0 } }, s)

/-- Steps 7 and 8 of start-up for every die whose VCCINT is good. -/
def Device.stepBridges (d : Device) (s : Stores) (ups : DiesUp) : Device × Stores :=
  let d := d.set F.RS_STATUS_STATE Rs.LOADING
  let d := if d.board.vccint then d.each fabricDies (fun d k => d.dieUp k (ups.die k)) else d
  let r := d.zeroFill s
  (r.1.dieSettle, r.2)

/-- A die comes up late: after a BROWNOUT_INT reset, after a wake from DORMANT, or when VCCINT becomes good after step 7
(R118, R139, R502). Its slave loop locks first where the root is LOCKED; else the die is brought up on the reference at
once (R136). -/
def Device.lateUp (d : Device) (die : Nat) (up : DieUp) : Device :=
  if d.dieReady die || d.dieHasFailed die || d.rst.late.contains die || d.jobRuns die then d
  else
    let d := d.setSlave die Loop.ACQUIRING
    if d.clk.root = Loop.LOCKED then
      { d with rst := { d.rst with late := d.rst.late ++ [die], found := d.rst.found.set die up } }
    else d.dieUp die up

/-- STATE reads LOADING once every die of a fabric bring-up has begun its load or failed (Table 05.4, R118, R502). -/
def Device.lateState (d : Device) : Device :=
  if d.get F.RS_STATUS_STATE = Rs.LOOPS && (d.rst.brownActive || d.pw.regating) && d.rst.late.isEmpty
      && fabricDies.all (fun k => d.jobRuns k || d.dieReady k || d.dieHasFailed k) then
    d.set F.RS_STATUS_STATE Rs.LOADING
  else d

/-- Every fabric die comes up late. -/
def Device.lateAll (d : Device) (ups : DiesUp) : Device :=
  (d.each fabricDies (fun d k => d.lateUp k (ups.die k))).dieSettle.lateState

/-! ## Steps 3 to 6 -/

/-- Step 6 begins: the root and the slaves of the powered dies acquire, at the MULT in force (R157, R165). A root that runs
is gated for it, so machine time that counts becomes coarse (R168). -/
def Device.loopsStart (d : Device) : Device :=
  let mult := d.get F.CK_ROOT_CFG_MULT
  let slaves : Tab Nat := if d.board.vccint then fabricDies.map (fun k => (k, Loop.ACQUIRING)) else []
  let coarse := d.clk.mtStarted && d.rootRuns
  let clk := { d.clk with root := Loop.ACQUIRING, rootGated := true, slaves := slaves, slaveGated := fabricDies }
  let clk := { clk with svcRef := 0xFFFFF, mult := mult, stepLoops := true, epochDue := none }
  ({ d with clk := clk }.setAll [(F.CK_MT_PERIOD_PERIOD_FS, 25000000 / mult), (F.RS_STATUS_STATE, Rs.LOOPS)]).when coarse
    (fun d => d.set F.CK_STATUS_MT_COARSE 1)

/-- Step 5 has ended with a stable reference: the suspect-key check (R461), then step 6. -/
def Device.stepOsc (d : Device) : Device := (d.suspectCheck true).loopsStart

/-- Steps 3 and 4, and the start of step 5 (R94 to R96, R105, R129, R133, R125, R138, R150, R135): options, phase B,
RESET_DONE, MLINK served; an oscillator that is stable already ends step 5 at once. -/
def Device.optionRead (d : Device) (refsel : Bool) : Device :=
  if d.get F.RS_STATUS_STATE ≠ Rs.OPTIONS ∨ d.ormBusy then d
  else
    let d := d.tornScan.applyOptions
    let d := if d.get F.RS_CAUSE_CAUSE = 1 then d.lifeAdd 0 1 else d
    let d := { d with rst := { d.rst with phase := 1, served := true, limitOn := true } }
    let d := (d.set F.RS_STATUS_STATE Rs.HOLD).raise Ev.RESET_DONE U.RS 0
    let d := if d.orm.opt.wdogOn then d.set F.RS_WDOG_LEFT_TICKS d.orm.opt.wdogTicks else d
    let d := d.batteryStartup.lcAnnounce
    let d := { d with clk := { d.clk with refselUsed := refsel } }
    let d := d.set F.RS_STATUS_STATE Rs.OSC
    if d.clk.osc = Osc.STABLE then d.stepOsc else { d with clk := { d.clk with osc := Osc.STARTING } }

/-- OPTION_READ (R96): steps 3 and 4; `refsel` is the level of REFSEL as step 5 begins. -/
def execOptionRead (refsel : Bool) (s : State) : Host.Outcome State Fault Refusal :=
  .next (s.on (fun d => d.onMck (fun d => d.optionRead refsel)))

/-! ## The oscillator (R153 to R156) -/

/-- A zone that the reference's failure held restarts on the reference (R155, "What if the reference itself fails?"). -/
def Device.refBack (d : Device) (n : Nat) : Device :=
  if d.zcState n = Zc.HELD ∧ (d.zone n).clk.held = some .reference then
    d.unhold n false
  else d

/-- The reference passes its test (R153): step 5 ends, or a failed reference is back. -/
def Device.oscStable (d : Device) : Device :=
  if d.clk.osc ≠ Osc.STARTING then d
  else
    let d := ({ d with clk := { d.clk with osc := Osc.STABLE } }.set F.CK_CMD_OSC_RESTART 0).ormNext
    if d.get F.RS_STATUS_STATE = Rs.OSC then (if d.board.mck then d.stepOsc else d)
    else
      let d := d.each zoneNumbers Device.refBack
      ((d.each (List.range 24) (fun d k => d.quadRetry k)).idOscBack).swapFix

/-- OSC_STABLE (R153, R135, R461). -/
def execOscStable (s : State) : Host.Outcome State Fault Refusal := .next (s.on Device.oscStable)

/-- The reference is not stable within 20 ticks (R135, R156): OSC_FAIL, and in step 5 management-only operation. -/
def Device.oscTimeout (d : Device) : Device :=
  if d.clk.osc ≠ Osc.STARTING then d
  else
    let d := { d with clk := { d.clk with osc := Osc.FAILED } }.set F.CK_CMD_OSC_RESTART 0
    let d := d.raise Ev.OSC_FAIL U.CK 0
    if d.get F.RS_STATUS_STATE = Rs.OSC then (d.suspectCheck false).set F.RS_STATUS_STATE Rs.MGMT_ONLY
    else d

/-- OSC_START_TIMEOUT (R135, R156). -/
def execOscStartTimeout (s : State) : Host.Outcome State Fault Refusal :=
  .next (s.on (fun d => d.onMck Device.oscTimeout))

/-! ## Loops (R158 to R164, R170) -/

/-- The root loses lock (R161, R163, R186): holdover, the count, the event, the policies of the zones whose loop was
locked, and the swaps before S (R401). -/
def Device.rootUnlock (d : Device) : Device :=
  if d.clk.root ≠ Loop.LOCKED then d
  else
    let lost := zoneNumbers.filter d.loopLocked
    let d := { d with clk := { d.clk with root := Loop.HOLDOVER } }.inc F.CK_UNLOCK_CNT_COUNT
    ((d.raise Ev.ROOT_UNLOCK U.CK 0).each lost Device.zoneLoss).swapLoopCheck

/-- ROOT_UNLOCK (R161). -/
def execRootUnlock (s : State) : Host.Outcome State Fault Refusal := .next (s.on Device.rootUnlock)

/-- A slave loses lock (R161, R163, R186). While the root is not LOCKED its zones have acted already (R164). -/
def Device.slaveUnlock (d : Device) (die : Nat) : Device :=
  if d.slave die ≠ Loop.LOCKED then d
  else
    let lost := (dieZones die).filter d.loopLocked
    let d := (d.setSlave die Loop.HOLDOVER).inc (F.SLP_UNLOCK_CNT_COUNT (U.SLP die))
    ((d.raise Ev.SLAVE_UNLOCK (U.SLP die) 0).each lost Device.zoneLoss).swapLoopCheck

/-- SLAVE_UNLOCK (R161). -/
def execSlaveUnlock (die : Die) (s : State) : Host.Outcome State Fault Refusal :=
  .next (s.on (fun d => d.slaveUnlock die.no))

/-- OSC_FAIL (R154, R155, R187, R103, R610): the stable reference fails. -/
def Device.oscFail (d : Device) (s : Stores) : Device × Stores :=
  if d.clk.osc ≠ Osc.STABLE then (d, s)
  else
    let d := { d with clk := { d.clk with osc := Osc.FAILED }, calSeen := 0 }.raise Ev.OSC_FAIL U.CK 0
    let d := d.commitAbort.oscRelease.paceLost.rootUnlock
    let d := d.each zoneNumbers (fun d n =>
      if d.zcState n = Zc.REF then
        (d.modClk n (fun c => { c with held := some .reference, heldRef := true, heldDiv := 0 })).setZcState n Zc.HELD
      else d.rideEnds n)
    let d := (d.each (List.range 24) (fun d k => d.quadLost k)).idOscFail
    let d := { d with enc := d.enc.map (fun (e : Nat × Encoder) => (e.1, { e.2 with spans := [] })) }
    (d.stillUpdate s, s)

/-- OSC_FAIL (R154). -/
def execOscFail (s : State) : Host.Outcome State Fault Refusal := .next (s.onBoth (fun d m => d.oscFail m))

/-- Once the root and every loop taking part has locked or missed its limit, the epoch is due from the last lock
(R170). -/
def Device.epochCheck (d : Device) : Device :=
  if d.clk.stepLoops && d.clk.root == Loop.LOCKED && fabricDies.all (fun k => d.slave k != Loop.ACQUIRING) then
    { d with clk := { d.clk with epochDue := some d.clk.lastLock } }
  else d

/-- A loop may lock: it acquires, has missed its limit, or is in holdover, and its input is good (R158, R161, R162). -/
def mayLock (st : Nat) : Bool := st == Loop.ACQUIRING || st == Loop.FAILED || st == Loop.HOLDOVER

/-- The root locks (R163, R167, R175). -/
def Device.rootLock (d : Device) : Device :=
  if d.clk.osc ≠ Osc.STABLE ∨ !mayLock d.clk.root then d
  else
    let d := { d with clk := { d.clk with root := Loop.LOCKED, rootGated := false, mtStarted := true, lastLock := d.clk.mt } }
    let d := (d.setSvcP false).set F.CK_CMD_RELOCK 0
    let d := d.raise Ev.ROOT_RELOCK U.CK 0
    let d := d.each zoneNumbers Device.rideRelock
    d.epochCheck

/-- ROOT_LOCK (R163). -/
def execRootLock (s : State) : Host.Outcome State Fault Refusal := .next (s.on Device.rootLock)

/-- A die that waited for its slave loop is brought up, on MCK; without MCK what it will find is kept (R79, R139). -/
def Device.lateGo (d : Device) (die : Nat) (up : DieUp) : Device :=
  if !d.rst.late.contains die || d.slave die == Loop.ACQUIRING then d
  else if d.board.mck then (d.dieUp die up).dieSettle.lateState
  else { d with rst := { d.rst with found := d.rst.found.set die up } }

/-- A slave locks on the root's output, which runs on through holdover (R158, R160, R164, R172, R175): its die's copy of
machine time is loaded and never steps back; a die that waited for it is brought up. -/
def Device.slaveLock (d : Device) (die : Nat) (up : DieUp) : Device :=
  if d.clk.rootGated ∨ !mayLock (d.slave die) then d
  else
    let d := (d.setSlave die Loop.LOCKED).gateSlave die false
    let old := Tab.get (fun _ => 0) d.clk.copies die
    let copies := Tab.set (fun _ => 0) d.clk.copies die (max old d.clk.mt)
    let d := { d with clk := { d.clk with copies := copies, lastLock := d.clk.mt } }.setSvc (15 + die) false
    let d := d.each (dieZones die) Device.rideRelock
    (d.lateGo die up).epochCheck

/-- SLAVE_LOCK (R160, R139). -/
def execSlaveLock (die : Die) (up : DieUp) (s : State) : Host.Outcome State Fault Refusal :=
  .next (s.on (fun d => d.slaveLock die.no up))

/-- Does start-up go on from step 6 without a root: STATE reads LOOPS, not for a fabric bring-up, the root has FAILED, and
MCK runs (R79, R136)? -/
def Device.bridgesDue (d : Device) : Bool :=
  d.board.mck && d.get F.RS_STATUS_STATE == Rs.LOOPS && !d.rst.brownActive && !d.pw.regating
    && d.clk.root == Loop.FAILED && d.clk.stepLoops

/-- Without MCK what the bring-up of the dies will find is kept for the resumption (R79). -/
def Device.keepFound (d : Device) (ups : DiesUp) : Device :=
  if d.board.mck then d else { d with rst := { d.rst with found := ups } }

/-- The root misses its limit (R136, R162): FAILED, ROOT_UNLOCK; start-up goes on with everything on the reference, on
MCK. -/
def Device.rootTimeout (d : Device) (s : Stores) (ups : DiesUp) : Device × Stores :=
  if d.clk.root ≠ Loop.ACQUIRING ∨ !(d.clk.stepLoops || d.pw.loopsRestart) then (d, s)
  else
    let d := { d with clk := { d.clk with root := Loop.FAILED } }.raise Ev.ROOT_UNLOCK U.CK 0
    if d.bridgesDue then d.stepBridges s ups else (d.keepFound ups, s)

/-- ROOT_LOCK_TIMEOUT (R136, R162). -/
def execRootLockTimeout (ups : DiesUp) (s : State) : Host.Outcome State Fault Refusal :=
  .next (s.onBoth (fun d m => d.rootTimeout m ups))

/-- A slave misses its limit (R136, R162): FAILED, SLAVE_UNLOCK; its die goes on on the reference. -/
def Device.slaveTimeout (d : Device) (die : Nat) (up : DieUp) : Device :=
  if d.slave die ≠ Loop.ACQUIRING ∨ d.clk.root ≠ Loop.LOCKED
      ∨ !(d.clk.stepLoops || d.pw.loopsRestart || d.rst.late.contains die) then d
  else
    let d := (d.setSlave die Loop.FAILED).raise Ev.SLAVE_UNLOCK (U.SLP die) 0
    (d.lateGo die up).epochCheck

/-- SLAVE_LOCK_TIMEOUT (R136, R162). -/
def execSlaveLockTimeout (die : Die) (up : DieUp) (s : State) : Host.Outcome State Fault Refusal :=
  .next (s.on (fun d => d.slaveTimeout die.no up))

/-- The epoch is declared (R170): E is the first multiple of 16 at least 64 root cycles after the last lock. In step 6 of
start-up, steps 7 and 8 follow. -/
def Device.epochDeclare (d : Device) (s : Stores) (ups : DiesUp) : Device × Stores :=
  match d.clk.epochDue with
  | none => (d, s)
  | some t =>
    let e := roundUp (t + 64) 16
    let d := { d with clk := { d.clk with epoch := e, epochDue := none, stepLoops := false } }
    let d := d.setAll [(F.CK_EPOCH_LO_E, e % 2 ^ 32), (F.CK_EPOCH_HI_E, e / 2 ^ 32 % 2 ^ 32), (F.CK_STATUS_EPOCH_VALID, 1)]
    let d := d.bump F.CK_EPOCH_GEN_GEN
    if d.get F.RS_STATUS_STATE = Rs.LOOPS && !d.rst.brownActive then d.stepBridges s ups else (d, s)

/-- EPOCH_DECLARED (R170, R29, R369, R384, R120). -/
def execEpochDeclared (ups : DiesUp) (s : State) : Host.Outcome State Fault Refusal :=
  .next (s.onBoth (fun d m => if d.board.mck then d.epochDeclare m ups else (d, m)))

/-- A loop has not relocked after 500 µs of holdover (R162): its output is gated, it reacquires, and its service domains
move to the reference (R175); machine time is then coarse (R168). A root without output takes the slaves' input away, so
they lose lock (R158). -/
def Device.holdoverExpire (d : Device) (l : LoopId) : Device :=
  match l with
  | .root =>
    if d.clk.root ≠ Loop.HOLDOVER then d
    else
      let d := { d with clk := { d.clk with root := Loop.ACQUIRING, rootGated := true }, pw := { d.pw with loopsRestart := false } }
      let d := (d.setSvcP true).set F.CK_STATUS_MT_COARSE 1
      d.each fabricDies Device.slaveUnlock
  | .slave k =>
    if d.slave k.no ≠ Loop.HOLDOVER then d
    else (((d.setSlave k.no Loop.ACQUIRING).gateSlave k.no true).setSvc (15 + k.no) true)

/-- HOLDOVER_EXPIRE (R162). -/
def execHoldoverExpire (l : LoopId) (s : State) : Host.Outcome State Fault Refusal :=
  .next (s.on (fun d => d.holdoverExpire l))

/-! ## Supplies (R44, R54, R118, R119, R129) -/

/-- What fell is latched: 0 RET_LOST (Table 18.5), else a supply latch, with SUPPLY_WARN where it was clear (R54). -/
def Device.latchSet (d : Device) (k : Nat) : Device :=
  if k = 0 then d.set F.PW_STATUS_RET_LOST 1
  else
  let old := d.rd F.MG_SUPPLY_LATCH_VCCINT_FELL.key
  let oldB := d.get F.MG_VCCIO_LATCH_BANK
  let d := if k < 32 then d.wr F.MG_SUPPLY_LATCH_VCCINT_FELL.key (setBit old k)
    else (d.set F.MG_VCCIO_LATCH_BANK (setBit oldB (k - 32))).wr F.MG_SUPPLY_LATCH_VCCINT_FELL.key (setBit old 6)
  if d.rd F.MG_SUPPLY_LATCH_VCCINT_FELL.key ≠ old ∨ d.get F.MG_VCCIO_LATCH_BANK ≠ oldB then
    d.raise Ev.SUPPLY_WARN U.MG 0 else d

/-- What fell is latched on MCK (R79). -/
def Device.supplyFell (d : Device) (k : Nat) : Device :=
  if d.rst.por then d
  else if d.board.mck then d.latchSet k
  else { d with rst := { d.rst with latchWait := d.rst.latchWait ++ [k] } }

/-- VCCINT_FALL (R119): the brown-out is held pending without MCK; the fabric dies are cut off and their zone clocks
gated. In DORMANT, RET_LOST latches. -/
def Device.vccintFall (d : Device) : Device :=
  let d := { d with board := { d.board with vccint := false } }
  if d.rst.por then d
  else
    let d := { d with rst := { d.rst with brownPending := true, clamped := fabricDies } }.supplyFell 2
    let d := if d.dormant then d.supplyFell 0 else d
    d.cutDies.each zoneNumbers (fun d n => if d.zcState n = Zc.STOPPED then d else d.setZcState n Zc.GATED)

/-- VCCINT_FALL (R119). -/
def execVccintFall (s : State) : Host.Outcome State Fault Refusal := .next (s.on Device.vccintFall)

/-- The fabric dies are reset by a brown-out while the P-die runs on (R118, Table 05.2): cut off, cause 8, none ready. -/
def Device.brownFabric (d : Device) (s : Stores) : Device × Stores :=
  let d := d.each fabricDies Device.gafFenced
  let r := d.fabricReset s true false
  let d := r.1.slavesOff.cutDies
  let d := (d.setAll [(F.RS_CAUSE_CAUSE, 8), (F.RS_CAUSE_DIE, 0), (F.RS_STATUS_DIE_READY, 0)]).wr F.RS_DIE_FAIL_F1.key 0
  let d := d.each fabricDies (fun d k => d.set (F.BR_STATUS_STATE (U.BR k)) Br.DOWN)
  ({ d with rst := { d.rst with brownPending := false, brownActive := !d.dormant } }, r.2)

/-- Start-up begins again at step 1, the machine I/O pins keeping their phase (R115; assumption log 126). -/
def Device.brownRestart (d : Device) : Device :=
  { d with rst := { d.rst with served := false, brownActive := false } }.startUp

/-- The dies begin to come up again, with the start limit counting. -/
def Device.brownUp (d : Device) (ups : DiesUp) : Device :=
  let d := { d with rst := { d.rst with limitOn := true } }
  if d.board.vccint then d.lateAll ups else d

/-- The BROWNOUT_INT reset (R118, R115): the fabric dies are reset, and steps 6 to 10 run for them once VCCINT is good.
During start-up, start-up begins again; in DORMANT the dies come up at the wake, and during the wake they come up anew. A
device that the policy ALL has STALLED brings its dies up and releases none of them (R140). -/
def Device.brownoutInt (d : Device) (s : Stores) (ups : DiesUp) : Device × Stores :=
  let st := d.get F.RS_STATUS_STATE
  let starting := decide (st < Rs.RUN) && !d.rst.brownActive && !d.pw.regating
  let r := d.brownFabric s
  if starting then (r.1.brownRestart, r.2)
  else if r.1.dormant then r
  else if st = Rs.STALLED then (r.1.brownUp ups, r.2)
  else if r.1.clk.osc ≠ Osc.STABLE then (r.1.set F.RS_STATUS_STATE Rs.MGMT_ONLY, r.2)
  else ((r.1.set F.RS_STATUS_STATE Rs.LOOPS).brownUp ups, r.2)

/-- BROWNOUT_INT (R118, R119): at the first MCK edge after the fall. -/
def execBrownoutInt (ups : DiesUp) (s : State) : Host.Outcome State Fault Refusal :=
  .next (s.onBoth (fun d m =>
    if d.rst.brownPending && d.board.mck && !d.rst.por then d.brownoutInt m ups else (d, m)))

/-- The dies that waited for VCCINT come up; in step 6 their slaves take part (R118, R139). -/
def Device.vccintWork (d : Device) (ups : DiesUp) : Device :=
  let st := d.get F.RS_STATUS_STATE
  if d.rst.por ∨ d.rst.brownPending ∨ !d.board.vccint then d
  else if d.rst.brownActive then d.lateAll ups
  else if st = Rs.LOOPS then
    d.each fabricDies (fun d k => if d.slave k = Loop.OFF then d.setSlave k Loop.ACQUIRING else d)
  else if (st = Rs.BRIDGES ∨ st = Rs.LOADING) ∧ d.rst.limitOn then d.lateAll ups
  else d

/-- VCCINT is good (R118, R139): what follows takes place on MCK (R79). -/
def Device.vccintGood (d : Device) (ups : DiesUp) : Device :=
  ({ d with board := { d.board with vccint := true } }.keepFound ups).onMck (fun d => d.vccintWork ups)

/-- VCCINT_GOOD (R139, R118). -/
def execVccintGood (ups : DiesUp) (s : State) : Host.Outcome State Fault Refusal :=
  .next (s.on (fun d => d.vccintGood ups))

/-- PAD_SUPPLY_FALL (R44, R54, R610): the outputs go at once (VCCP is the core rail of the machine I/O and MLINK pads), the latch on MCK; without VLANE the quad loops are lost. -/
def Device.padFall (d : Device) (p : PadSupply) : Device :=
  match p with
  | .vccio k =>
    { d with board := { d.board with vccioBad := insertNew k.val d.board.vccioBad } }.supplyFell (32 + k.val)
  | .vmio => { d with board := { d.board with vmio := false } }.supplyFell 3
  | .vlane =>
    let d := { d with board := { d.board with vlane := false } }.supplyFell 4
    d.each (List.range 24) (fun d k => d.quadLost k)
  | .vlanet => { d with board := { d.board with vlanet := false } }.supplyFell 5
  | .vccp => { d with board := { d.board with vccp := false } }

/-- PAD_SUPPLY_FALL (R44). -/
def execPadSupplyFall (p : PadSupply) (s : State) : Host.Outcome State Fault Refusal := .next (s.on (fun d => d.padFall p))

/-- PAD_SUPPLY_GOOD (R129, R610): the pins take their hold or safe state; with VLANE the quad loops reacquire. -/
def Device.padGood (d : Device) (p : PadSupply) : Device :=
  match p with
  | .vccio k => { d with board := { d.board with vccioBad := d.board.vccioBad.filter (· != k.val) } }
  | .vmio => { d with board := { d.board with vmio := true } }
  | .vlane => { d with board := { d.board with vlane := true } }.each (List.range 24) (fun d k => d.quadRetry k)
  | .vlanet => { d with board := { d.board with vlanet := true } }
  | .vccp => { d with board := { d.board with vccp := true } }

/-- PAD_SUPPLY_GOOD (R129). -/
def execPadSupplyGood (p : PadSupply) (s : State) : Host.Outcome State Fault Refusal := .next (s.on (fun d => d.padGood p))

/-! ## Step 9 and the staged release (R137 to R149) -/

/-- DIE_LIMIT_EXPIRE (R138): every die that is not ready fails, for want of VCCINT or by the limit, also after OSC_FAIL. -/
def Device.dieLimit (d : Device) : Device :=
  if !d.rst.limitOn then d
  else
    let d := { d with rst := { d.rst with limitOn := false, late := [] } }
    (d.each fabricDies (fun d k =>
      if d.dieReady k || d.dieHasFailed k then d else d.dieFailed k (if d.board.vccint then 4 else 1))).dieSettle

/-- DIE_LIMIT_EXPIRE (R138, R141). -/
def execDieLimitExpire (s : State) : Host.Outcome State Fault Refusal :=
  .next (s.on (fun d => d.onMck Device.dieLimit))

/-- DIESET_POLICY_APPLY (R140 to R142): step 9, once every die is ready or has failed. -/
def Device.diesetApply (d : Device) : Device :=
  let st := d.get F.RS_STATUS_STATE
  let due := st = Rs.LOADING ∨ (st = Rs.LOOPS ∧ (d.rst.brownActive ∨ d.pw.regating))
  if !due ∨ fabricDies.any (fun k => !(d.dieReady k || d.dieHasFailed k)) then d
  else
    let ready := fabricDies.filter d.dieReady
    let d := { d with rst := { d.rst with limitOn := false } }
    if ready.isEmpty then d.set F.RS_STATUS_STATE Rs.MGMT_ONLY
    else if !d.orm.opt.present && decide (ready.length < 4) then d.set F.RS_STATUS_STATE Rs.STALLED
    else { d with rst := { d.rst with rel := ready } }.set F.RS_STATUS_STATE Rs.WAIT_DIES

/-- DIESET_POLICY_APPLY (R140 to R142). -/
def execDiesetPolicyApply (s : State) : Host.Outcome State Fault Refusal :=
  .next (s.on (fun d => d.onMck Device.diesetApply))

/-- The zones that a die's base load has loaded and that wait for their release. -/
def Device.loadedZones (d : Device) (die : Nat) : List Nat := (dieZones die).filter (fun n => (d.zone n).loaded)

/-- Does a zone's memory setup stand: its plane is active, or its die's base load is complete and GOE is still to come
(R234)? -/
def Device.memsUp (d : Device) (n : Nat) : Bool := d.zoneActive n || (d.zone n).loaded

/-- The clock of a zone at its release (R136); after a wake from DORMANT every zone starts on the reference (R502). -/
def Device.releaseClock (d : Device) (n : Nat) : Device := d.startClockIf (!d.pw.regating) n

/-- The OWN bit of a zone's plane 0: word 0 bit 63 of IO frame 0 (R518). -/
def Stores.ownBit (s : Stores) (n : Nat) : Bool := bit ((s.frame (slotKey n 0 5 0)).data.headD 0) 63

/-- GOE of one die (R146, R384, R518, R524, R527): plane 0 of each loaded zone becomes ACTIVE, its clock starts, its pins
show their init values, and every bank is enabled by its check. -/
def Device.dieGoe (d : Device) (s : Stores) (die : Nat) : Device :=
  let zs := d.loadedZones die
  let d := d.each zs (fun d n => ((d.makeActive n 0).setStage n .goe).modZone n (fun z => { z with loaded := false }))
  let d := d.each zs Device.releaseClock
  let banks := (List.range 8).map (fun b => (die - 1) * 8 + b)
  let d := d.each banks (fun d k => d.bankBase k (s.ownBit (bankZone0 k)) (s.ownBit (bankZone0 k + 1)))
  let d := d.each zs Device.bankGoe
  let d := d.each banks Device.bankCheck
  { d with rst := { d.rst with brdFence := d.rst.brdFence.filter (· != die), clamped := d.rst.clamped.filter (· != die) } }

/-- RELEASE_GOE (R146, R148): the dies in step 10 are released again (R118, R119); pin phase C. -/
def Device.releaseGoe (d : Device) (s : Stores) : Device :=
  if d.get F.RS_STATUS_STATE ≠ Rs.WAIT_DIES ∨ d.rst.rel.isEmpty ∨ d.on F.RS_RELEASE_HOLD_HOLD_GOE then d
  else
    let d := d.each d.rst.rel (fun d k => d.dieGoe s k)
    { d with rst := { d.rst with phase := 2, brownActive := false } }.set F.RS_STATUS_STATE Rs.GOE

/-- RELEASE_GOE (R146, R148, R527). -/
def execReleaseGoe (s : State) : Host.Outcome State Fault Refusal :=
  .next (s.onBoth (fun d m => (d.onMck (fun d => d.releaseGoe m), m)))

/-- A stage of the release reaches the zones of the dies in step 10 that stand at the stage before it. -/
def Device.releaseStage (d : Device) (old st : ReleaseStage) : Device :=
  d.each d.rst.rel (fun d k => d.each (dieZones k) (fun d n => if (d.zone n).stage = old then d.setStage n st else d))

/-- RELEASE_GWE (R146 to R148). -/
def execReleaseGwe (s : State) : Host.Outcome State Fault Refusal :=
  .next (s.on (fun d => d.onMck (fun d =>
    if d.get F.RS_STATUS_STATE = Rs.GOE ∧ !d.on F.RS_RELEASE_HOLD_HOLD_GWE then
      (d.releaseStage .goe .gwe).set F.RS_STATUS_STATE Rs.GWE
    else d)))

/-- GRR (R146, R149, R421): logic runs, the Lehr of each die starts its first pass, RELEASE_DONE. -/
def Device.releaseGrr (d : Device) : Device :=
  if d.get F.RS_STATUS_STATE ≠ Rs.GWE ∨ d.on F.RS_RELEASE_HOLD_HOLD_GRR then d
  else
    let d := d.releaseStage .gwe .grr
    let d := d.each d.rst.rel (fun d k => d.setLehr k { d.lehrOf k with began := d.clk.refCycles })
    let rel := d.rst.rel
    let d := { d with rst := { d.rst with rel := [], released := d.rst.released.filter (fun k => !rel.contains k) ++ rel } }
    (d.set F.RS_STATUS_STATE Rs.RUN).raise Ev.RELEASE_DONE U.RS 0

/-- RELEASE_GRR (R147 to R149). -/
def execReleaseGrr (s : State) : Host.Outcome State Fault Refusal :=
  .next (s.on (fun d => d.onMck Device.releaseGrr))

end Sys2Proof.Machine
end

