-- ==== Sys2Proof/WellFormed.lean ====
section
/-! DEFINITION. When a command's operands can reach the device: the lists among them have the lengths that the frames and
streams of the spec give them. The types of the operands say the rest. -/

namespace Sys2Proof

/-- Are a directory's copies no longer than the flash's directory areas, and a header 256 bytes? -/
def streamFormed (dir : FlashDir) (header : List Byte) : Bool :=
  decide (dir.primary.length ≤ 65536) && decide (dir.copy.length ≤ 65536) && decide (header.length = 256)

/-- A segment that the segment buffer can hold (R377, R378): its 8-byte prefix, at most 65,536 bytes, the tag. -/
def segFormed (seg : List Byte) : Bool := decide (24 ≤ seg.length) && decide (seg.length ≤ 65560)

/-- A WR or WRW frame carries as many payload bytes as its COUNT says (Table 03.2). -/
def payloadFormed (count : BitVec 16) (payload : List Byte) : Bool := payload.length == count.toNat

/-- The zone that a step from zone `z` of a die leads to, if it stays on the die (R207). -/
def ZoneStep.next (z : Nat) : ZoneStep → Option Nat
  | .rowDown => if z < 8 then none else some (z - 8)
  | .rowUp => if 55 < z then none else some (z + 8)
  | .colDown => if z % 8 = 0 then none else some (z - 1)
  | .colUp => if z % 8 = 7 then none else some (z + 1)

/-- The zone that a path leads to. -/
def pathEnd : Nat → List ZoneStep → Option Nat
  | z, [] => some z
  | z, s :: r => (s.next z).bind (fun y => pathEnd y r)

/-- Does a route of outbound endpoint `ep` of zone `z` lead where it ends (R207, R607)? A lane is reached from endpoint
2l + h alone, and across the die-edge boundary alone. -/
def Route.formed (r : Route) (z ep : Nat) : Bool :=
  match r.dst with
  | .zone t _ => match r.path with | none => true | some p => pathEnd z p == some t.val
  | .lane q l h => decide (z / 8 = q.val + 1) && decide (z % 8 = 0 ∨ z % 8 = 7)
      && decide (ep = 2 * l.val + h.toNat) && r.path.isNone

/-- Does an image connect each endpoint at most once, by routes that lead where they end, and take the cluster below for
a carry only at cell 0 of a cluster (R202, R206, R207)? -/
def Image.formed (i : Image) (z : Nat) : Bool :=
  i.routes.all (fun r => decide (r.1 < 16) && r.2.formed z r.1) && decide (i.routes.map (·.1)).Nodup
    && i.ins.all (fun e => decide (e.1 < 16)) && decide (i.ins.map (·.1)).Nodup
    && i.cells.all (fun c => c.2.ci != .below || decide (c.1 % 16 = 0))

/-- Can a stream's directory, header and images be read (Table 13.4, R202, R206)? -/
def headerFormed (dir : FlashDir) (header : List Byte) (images : List (Fin 64 × Image)) : Bool :=
  streamFormed dir header && images.all (fun e => e.2.formed e.1.val)

/-- Can a command's operands reach the device? -/
def Instr.wellFormed : Instr → Bool
  | .porAssert _ => true
  | .porRelease _ => true
  | .brownoutP => true
  | .rstNFall => true
  | .rstNReset => true
  | .rstNRise => true
  | .rstNRelease _ => true
  | .vccintFall => true
  | .brownoutInt _ => true
  | .vccintGood _ => true
  | .padSupplyFall _ => true
  | .wdogWarn => true
  | .watchdogExpire => true
  | .rsWdogKick _ => true
  | .rsCmdDevice _ => true
  | .commandReset => true
  | .optionRead _ => true
  | .oscStable => true
  | .oscStartTimeout => true
  | .oscFail => true
  | .oscRestart => true
  | .rootLock => true
  | .rootLockTimeout _ => true
  | .slaveLock _ _ => true
  | .slaveLockTimeout _ _ => true
  | .epochDeclared _ => true
  | .rootUnlock => true
  | .slaveUnlock _ => true
  | .holdoverExpire _ => true
  | .ckRelock => true
  | .ckMtLoRead => true
  | .rootMonUpdate => true
  | .znClkGo _ _ _ => true
  | .znClkRamp _ _ _ => true
  | .zoneClkRestart _ => true
  | .rampDividerStep _ => true
  | .rideLimitExpire _ => true
  | .zonePolicyRestart _ => true
  | .flipflopAsyncSr _ _ _ => true
  | .channelTokenAccept _ _ _ => true
  | .channelTokenLand _ _ _ => true
  | .channelTokenDeliver _ _ => true
  | .paceWindowEnd _ _ _ _ _ => true
  | .drPaceClrMin _ => true
  | .bmPortAccess _ _ _ _ => true
  | .eccFlipArm _ => true
  | .queueZoneAccess _ _ _ _ _ _ => true
  | .znQcThreshWrite _ _ _ => true
  | .requestIssue _ _ => true
  | .requestLaunch _ => true
  | .ringHop _ _ => true
  | .bridgeParityError _ _ _ => true
  | .bridgeStallFatal _ _ => true
  | .brClrCnt _ => true
  | .targetTake _ => true
  | .ringRd _ _ _ => true
  | .ringWr _ _ _ => true
  | .ringWrn _ _ _ => true
  | .ringAadd _ _ _ => true
  | .ringAswp _ _ _ => true
  | .ringFence _ _ => true
  | .fenceComplete _ => true
  | .ringEvt _ _ _ => true
  | .ringCfg _ _ _ => true
  | .ringMsg _ _ _ => true
  | .ringRdr _ => true
  | .ringWrr _ => true
  | .ringAtr _ => true
  | .responseDeliver _ => true
  | .orderHoldLimit _ _ => true
  | .timeoutExpire _ _ => true
  | .tagQuarantineEnd _ _ => true
  | .targetDead _ => true
  | .drIsoRelease _ => true
  | .znResetGo _ _ => true
  | .zoneResetDrained _ => true
  | .zoneResetDrainLimit _ => true
  | .zoneResetClockResume _ => true
  | .culletRecordForward _ => true
  | .refusalForward _ => true
  | .culSelWrite _ => true
  | .culClear => true
  | .mlinkNop _ _ _ => true
  | .mlinkRd _ _ _ => true
  | .mlinkWr _ count payload _ => payloadFormed count payload
  | .mlinkRdw _ _ _ => true
  | .mlinkWrw _ count payload _ => payloadFormed count payload
  | .mlinkStat _ _ _ => true
  | .mlinkEvt _ _ _ => true
  | .mlinkEvtClear _ _ => true
  | .mlinkShortFrame => true
  | .mlinkAbandon => true
  | .mlinkRingReply => true
  | .managementTick => true
  | .mckLost => true
  | .mckSafeRelease => true
  | .mckRateMeasure _ => true
  | .ormCommit _ => true
  | .ormCommitDone => true
  | .runHoursTick => true
  | .lifetimeCounterWrite _ => true
  | .dieLimitExpire => true
  | .diesetPolicyApply => true
  | .releaseGoe => true
  | .releaseGwe => true
  | .releaseGrr => true
  | .cmpBurstFail _ => true
  | .cmpReinit _ _ _ => true
  | .cmpPtOpen _ _ => true
  | .cmpPtCmd _ _ _ _ _ _ => true
  | .cmpPtCmdDone _ _ => true
  | .gthStageKey _ => true
  | .gthStageEntry _ _ _ => true
  | .gthAbort _ => true
  | .gatherSegmentRead _ seg _ => segFormed seg
  | .gafConfirm => true
  | .gafSwap => true
  | .gafCancel => true
  | .swapZoneDrained _ => true
  | .swapDrainLimit _ => true
  | .swapSwitchEdge => true
  | .swapMemInitDone _ => true
  | .swapZoneReleased _ => true
  | .gafLookupStart => true
  | .gafLookupDone _ _ _ _ => true
  | .gafStageRetry => true
  | .lehrSlot _ => true
  | .lehrFrameJudged _ => true
  | .lehrVerifyStart _ => true
  | .lehrRefetchStart _ => true
  | .lehrRefetchDone _ _ => true
  | .lhrCmdVerify _ _ => true
  | .lhrCmdRefetch _ => true
  | .lhrCmdRelease _ _ _ => true
  | .lhrCmdReadback _ => true
  | .ksLoad _ _ => true
  | .ksLoadWrapped _ _ _ => true
  | .ksErase _ => true
  | .ksRevoke _ => true
  | .ksFuseProg _ => true
  | .ksCancelDefer => true
  | .ksFuseOpDone => true
  | .trngBlock _ => true
  | .trngDataRead => true
  | .trngRestart => true
  | .trngStartTestDone _ => true
  | .vbatCrossing _ _ => true
  | .gaugeQuantum => true
  | .bgChargeWrite _ _ => true
  | .lcTransition _ _ => true
  | .lcProgDebugHash _ => true
  | .lcProgCfgHash _ => true
  | .lcAdvanceGen _ => true
  | .lcTransitionComplete _ => true
  | .daCert => true
  | .daChallenge => true
  | .daResponse => true
  | .nonceExpire => true
  | .tapExtest => true
  | .tapSamplePreload _ => true
  | .tapIdcode => true
  | .tapDaCert _ => true
  | .tapDaChal => true
  | .tapDaResp _ => true
  | .tapDaStatus => true
  | .tapRing _ => true
  | .tapProbe => true
  | .tapReadback _ _ => true
  | .tapScan => true
  | .tapBypass => true
  | .pwEnterDoze => true
  | .pwEnterNap => true
  | .pwEnterSlumber => true
  | .pwEnterDormant => true
  | .pwWakeCommand => true
  | .pwDrainDone => true
  | .pwDrainLimit => true
  | .pwStateReached => true
  | .dormantGateClosed _ => true
  | .pwWakeDone => true
  | .eventRaise _ _ _ => true
  | .evtDelivery => true
  | .evUserRaise _ _ => true
  | .poolStarveLimit _ => true
  | .plBankOwnerWrite _ _ => true
  | .ownerChangeEffect _ => true
  | .plLinkEnable _ _ => true
  | .linkRequest _ _ => true
  | .smvChEnable _ => true
  | .smvChDisable _ => true
  | .smvDescFetched _ => true
  | .smvChunkReadDone _ => true
  | .smvChunkWriteDone _ => true
  | .iobEnable _ => true
  | .vccioClassChange _ _ => true
  | .ioCalibration => true
  | .iobDlyWrite _ _ _ => true
  | .ioDelayStep _ => true
  | .ioxGroupEnable _ _ => true
  | .ioxPinMapWrite _ _ _ _ _ => true
  | .ioxPinOwnerWrite _ _ _ _ => true
  | .ioxGenCfgWrite _ _ _ _ _ _ => true
  | .ioxForceSafe _ => true
  | .eviEdge _ _ => true
  | .mfeEncEnable _ => true
  | .encoderTransition _ _ _ => true
  | .encoderZPulse _ => true
  | .ssiPoll _ _ => true
  | .ssiFrameEnd _ _ _ => true
  | .mfePosLoRead _ => true
  | .markEdge _ _ => true
  | .markChannelEnable _ => true
  | .standstillWindow => true
  | .camEnable _ => true
  | .camSegmentFetched _ => true
  | .camSetpointPeriod _ => true
  | .znEpInjWrite _ => true
  | .presenceChange _ _ => true
  | .presenceDebounced _ => true
  | .descriptorReadDone _ _ _ => true
  | .descriptorReadRetry _ => true
  | .busStretchTimeout _ => true
  | .idrAdd _ => true
  | .idrCntInit _ => true
  | .idrWrite _ _ _ => true
  | .idrReread _ => true
  | .idrPortEnable _ _ => true
  | .counterCellWriteStart _ => true
  | .eepromPoll _ _ _ => true
  | .cellWriteVerify _ _ _ => true
  | .laneEnable _ _ => true
  | .laneDisable _ _ => true
  | .quadLoopLock _ => true
  | .cdrLock _ _ => true
  | .laneRxBlock _ _ _ _ _ _ => true
  | .laneTxBlockSlot _ _ _ => true
  | .laneSweepGo _ _ => true
  | .sweepStep _ _ => true
  | .tempSample _ _ _ _ _ => true
  | .thermTripClear => true
  | .registerWrite _ _ _ _ => true
  | .padSupplyGood _ => true
  | .zoneEdge _ _ => true
  | .mlinkCmdUnknown _ _ _ _ => true
  | .tapTestLogicReset => true
  | .cdrLockLost _ _ => true
  | .prbsCheck _ _ _ => true
  | .mckResume => true
  | .streamHeaderRead _ _ dir header _ images => headerFormed dir header images

end Sys2Proof
end

