-- ==== Sys2Proof/Machine/ConfigCmds.lean ====
section
/-! DEFINITION. The commands whose effect runs through several units: a key that is erased while engines hold it, the
Gather's jobs and the streams they read, the frames that the Lehr judges, and the transitions of the life cycle. Each
ends with what follows from a job that ended or a plane that changed (chapters 13 to 17). -/

namespace Sys2Proof.Machine

/-- What follows once a job has ended or a plane has changed: the readiness of the dies (R137, R138, R143) and the
changeover (R414, R415). -/
def Device.settle (d : Device) : Device := d.dieSettle.gafSettle

/-- The engines whose key slot was erased fail with KEY_LOST (R389, R431, R451). -/
def Device.holdersEnd (d : Device) : Device :=
  d.each fabricDies (fun d k =>
    let d := if (d.gjob k).lost then d.jobEnd k Ge.KEY_LOST false else d
    match (d.lehrOf k).refetch with
    | some r => if r.lost then d.refetchFail k 6 else d
    | none => d)

/-! ## Keys (R445, R447, R451, R453) -/

/-- KS_ERASE (R444, R451, R452). -/
def execKsErase (slot : BitVec 5) (s : State) : Host.Outcome State Fault Refusal :=
  .next (s.on (fun d => d.onMck (fun d => (d.ksGo 3 slot.toNat false (d.get F.KS_CMD_WRAP_SLOT)).holdersEnd.settle)))

/-- KS_FUSE_OP_DONE (R443, R447, R453): the running FUSE_PROG or REVOKE ends. -/
def execKsFuseOpDone (s : State) : Host.Outcome State Fault Refusal :=
  .next (s.on (fun d => (d.onTimebase Device.ksFuseDone).holdersEnd.settle))

/-! ## The Gather (chapter 13) -/

/-- A burst of a die's flash port fails (R368): it is retried once; a second failure of one burst raises CMP_FLASH_ERROR, is
counted, and ends the job that reads, or the refetch. The command does not say which burst of the reader it was (R367), so
whether a later failure is the retry's or the first of another burst is free (assumption log 151). No burst runs without a
reader. -/
def Device.burstFail (d : Device) (die : Nat) : Device :=
  let u := U.CMP die
  if d.fenced die ∨ (!d.jobRuns die ∧ (d.lehrOf die).refetch.isNone) then d
  else if !(d.cmpOf die).failed then d.setCmp die { d.cmpOf die with failed := true }
  else if !d.freeBool then d.tick
  else
    let d := d.tick.setCmp die { d.tick.cmpOf die with failed := false }
    let d := (d.inc (F.CMP_ERR_CNT_COUNT u)).raise Ev.CMP_FLASH_ERROR u 0
    if (d.lehrOf die).refetch.isSome then d.refetchFail die 1 else d.jobEnd die Ge.FLASH false

/-- CMP_BURST_FAIL (R368). -/
def execCmpBurstFail (die : Die) (s : State) : Host.Outcome State Fault Refusal :=
  .next (s.on (fun d => (d.burstFail die.no).settle))

/-- A register write at a fabric die, which waits while the die's refusal queue is full (R632) and reaches nothing
while the die is fenced (R143). -/
def Device.atDie (d : Device) (die : Nat) (f : Device → Device) : Device :=
  if d.refusalsFull die || d.fenced die then d else f d

/-- GTH_STAGE_KEY (R385, R386, R387): the key of GTH_KEY. -/
def execGthStageKey (die : Die) (s : State) : Host.Outcome State Fault Refusal :=
  .next (s.on (fun d => d.atDie die.no (fun d =>
    (d.gthCommand die.no 1 (d.get (F.GTH_CMD_ENTRY (U.GTH die.no))) none).settle)))

/-- GTH_STAGE_ENTRY (R385, R386): `dir` is the directory that the check reads. -/
def execGthStageEntry (die : Die) (entry : BitVec 11) (dir : FlashDir) (s : State) :
    Host.Outcome State Fault Refusal :=
  .next (s.on (fun d => d.atDie die.no (fun d =>
    (d.gthCommand die.no 2 entry.toNat ((dirRead dir).map (·.1))).settle)))

/-- GTH_ABORT (R388). -/
def execGthAbort (die : Die) (s : State) : Host.Outcome State Fault Refusal :=
  .next (s.on (fun d => d.atDie die.no (fun d =>
    (d.gthCommand die.no 3 (d.get (F.GTH_CMD_ENTRY (U.GTH die.no))) none).settle)))

/-- The header of the next stream has been read, for the refetch or for the job (R372 to R376, R430). -/
def Device.streamHeader (d : Device) (die : Nat) (refetch : Bool) (dir : FlashDir) (header : List Nat)
    (prefixes : List (BitVec 64)) (images : List (Fin 64 × Image)) : Device :=
  if d.fenced die then d
  else if refetch then d.refetchStream die dir header
  else if (d.lehrOf die).refetch.isSome then d
  else d.jobStream die dir header prefixes images

/-- STREAM_HEADER_READ (R374, R372, R373, R375, R376, R430). -/
def execStreamHeaderRead (die : Die) (refetch : Bool) (dir : FlashDir) (header : List Byte)
    (prefixes : List (BitVec 64)) (images : List (Fin 64 × Image)) (s : State) : Host.Outcome State Fault Refusal :=
  if headerFormed dir header images then
    .next (s.on (fun d => (d.streamHeader die.no refetch dir (byteVals header) prefixes images).settle))
  else .fault (.illFormed "STREAM_HEADER_READ")

/-- GATHER_SEGMENT_READ (R377 to R389): `bad` says that the buffer's parity failed. -/
def execGatherSegmentRead (die : Die) (seg : List Byte) (bad : Bool) (s : State) : Host.Outcome State Fault Refusal :=
  if segFormed seg then
    .next ((s.onBoth (fun d m => if d.fenced die.no then (d, m) else d.segment m die.no (byteVals seg) bad)).on
      Device.settle)
  else .fault (.illFormed "GATHER_SEGMENT_READ")

/-! ## The Lehr (chapter 15) -/

/-- A frame read returns (R425 to R429, R435). A plane of the changeover that fails its verification ends it
(Table 14.5, VERIFY_FAIL). -/
def Device.frameJudged (d : Device) (m : Stores) (die : Nat) : Device × Stores :=
  if d.fenced die then (d, m)
  else
    let r := d.lehrJudge m die
    match r.2 with
    | some n =>
      let d := r.1.1
      let co := decide (2 ≤ d.gaf.co) && d.coSet.contains n && d.planeKey n (d.shadowPlane n) == d.coKey
      ((d.when co (fun d => d.gafTell (.abort 6))).swapForced, r.1.2)
    | none => (r.1.1.swapForced, r.1.2)

/-- LEHR_FRAME_JUDGED (R425 to R429, R435). -/
def execLehrFrameJudged (die : Die) (s : State) : Host.Outcome State Fault Refusal :=
  .next ((s.onBoth (fun d m => d.frameJudged m die.no)).on Device.settle)

/-! ## The life cycle (chapter 17) -/

/-- LC_TRANSITION (R470, R471, R474, R475). -/
def execLcTransition (target : BitVec 3) (key : BitVec 8) (s : State) : Host.Outcome State Fault Refusal :=
  .next (s.on (fun d => d.onMck (fun d => (d.lcCommand 1 key.toNat target.toNat).holdersEnd.settle)))

/-- A completed transition resets the device, in an MCK cycle (R471, R109). -/
def Device.lcReset (d : Device) (m : Stores) : Device × Stores :=
  if d.lc.resetDue && d.board.mck then d.resetNow m .lcDone 0 else (d, m)

/-- LC_TRANSITION_COMPLETE (R471, R472): the fuse steps end; `weak` names the fuses that do not read blown after three
repetitions. The journal is written DONE, and with the end of that write the LC_DONE reset follows. -/
def execLcTransitionComplete (weak : Unit128) (s : State) : Host.Outcome State Fault Refusal :=
  .next (s.on (fun d => d.lcComplete weak.toNat))

/-- ORM_COMMIT_DONE (R99, R102, R105, R108, R471): the write that the engine runs ends. -/
def execOrmCommitDone (s : State) : Host.Outcome State Fault Refusal :=
  .next ((s.on (fun d => d.pageEnd.holdersEnd.onMck Device.settle)).onBoth Device.lcReset)

end Sys2Proof.Machine
end

