-- ==== Sys2Proof/Machine/Edge.lean ====
section
/-! DEFINITION. The rising edge of a zone clock (chapters 07, 08, 19, 20, 21), and a token's landing at the end of its
channel. What zone logic does to memories, queues and endpoints at an edge are commands of their own, which come before
the edge (assumption log 5). -/

namespace Sys2Proof.Machine

/-! ## Channels (R206 to R211, R404, R618, R619) -/

/-- Has the end of a route room for a token of outbound endpoint `ep` of zone number `n`? An endpoint that discards what
arrives needs none (R404, R405); `joined` as the destination's channel frames need not be asked: the token left on a plane
that has since been replaced. -/
def Device.endRoom (d : Device) (n ep : Nat) (joined : Bool) : ChanEnd → Bool
  | .zone z e =>
    let m := n / 64 * 64 + z.val
    (d.zone m).frozen || !(d.inEp m e.val).stale.isEmpty
      || (joined || d.joined n ep m e.val) && d.inRoom m e.val
  | .lane quad lane half => d.laneRoom (n / 64 * 6 + quad.val) lane.val half

/-- A token of outbound endpoint `ep` of zone number `n` lands at the end of its channel. -/
def Device.landEnd (d : Device) (s : Stores) (n ep : Nat) (tok : BitVec 36) (near : Bool) : ChanEnd → Device × Stores
  | .zone z e => d.landAt s (n / 64 * 64 + z.val) e.val tok near (some (n, ep))
  | .lane quad lane _ => (d.laneTake (n / 64 * 6 + quad.val) lane.val tok, s)

/-- The first of the tokens accepted before a switch edge that can land, with those that stay (R404). -/
def Device.oldToken (d : Device) (n ep : Nat) :
    List (Route × BitVec 36) → Option ((Route × BitVec 36) × List (Route × BitVec 36))
  | [] => none
  | t :: rest =>
    if d.endRoom n ep true t.1.dst then some (t, rest)
    else (d.oldToken n ep rest).map (fun x => (x.1, t :: x.2))

/-- A token of outbound endpoint `ep` lands where its channel ends, once there is room: first what was accepted before a
switch edge (R404), then the oldest token of the active plane's channel. -/
def Device.tokenLand (d : Device) (s : Stores) (n ep : Nat) (near : Bool) : Device × Stores :=
  if d.fenced (n / 64 + 1) || d.dormant || !d.board.vccint then (d, s)
  else match d.oldToken n ep (d.outEp n ep).old with
  | some (t, rest) =>
    ((d.setOut n ep { d.outEp n ep with old := rest }).fillStages s n ep).landEnd s n ep t.2 near t.1.dst
  | none =>
    match d.route n ep with
    | none => (d, s)
    | some r =>
      if d.hasToken n ep && d.endRoom n ep false r.dst then
        let t := d.takeToken s n ep
        t.1.landEnd s n ep t.2 near r.dst
      else (d, s)

/-- CHANNEL_TOKEN_LAND (R210, R211, R237, R404, R405, R619): the token of outbound endpoint `ep` of zone `z`; `near`
as it lands within 0.1 ns of an edge of its destination. -/
def execChannelTokenLand (z : ZoneId) (ep : Fin 16) (near : Bool) (s : State) : Host.Outcome State Fault Refusal :=
  .next (s.onBoth (fun d m => d.tokenLand m z.no ep.val near))

/-! ## I/O cells (R522 to R525) -/

/-- The inputs of pin `i` among those given. -/
def ioIn (i : Nat) : List IoIn → Nat × Nat × Nat × Bool
  | [] => (0, 0, 0, false)
  | x :: r => if x.pin.val = i then (x.d.toNat, x.oe.toNat, x.sample.toNat, x.slip) else ioIn i r

/-- Does R119 keep the pads of a die disabled: from a fall of VCCINT until the die is released again? A fenced die's stay in
phase B (R131). -/
def Device.padsClamped (d : Device) (die : Nat) : Bool := d.rst.clamped.contains die && !d.fenced die

/-- Is a pin's output driver able to drive: the pins are released, its supply is good, and the bank is not held (R128,
R525)? -/
def Device.driverOn (d : Device) (k i : Nat) : Bool :=
  decide (d.rst.phase = 2) && !d.rst.por && !d.board.rstLow && d.board.vccint && !d.rst.brdFence.contains (bankDie k)
    && d.vccioGood k && !d.bankHeld k && !(pinSer4 (d.pin k i).cfg && d.serStall k)

/-- What the pad of pin `i` applies (R119, R128, R131, R525, R526, Table 05.3, Table 02.8): the launched level, or in the hold
state the pull or keeper of option byte BANK_HOLD. A keeper on a pad that was not driven holds a level that the manual
leaves undefined: a free value. -/
def Device.userPad (d : Device) (k i : Nat) : PadOut :=
  let p := d.pin k i
  if d.rst.phase = 0 ∨ d.rst.por ∨ d.board.rstLow ∨ !d.board.vccint ∨ !d.vccioGood k ∨ d.padsClamped (bankDie k) then .off
  else if d.driverOn k i then (if 2 ≤ p.cfg.dir.val ∧ bit p.oe 0 then .drive p.level else .off)
  else match bits d.orm.opt.bankHold (2 * k + 1) (2 * k) with
    | 0 => .off
    | 1 => .pull true
    | 2 => .pull false
    | _ => .keep (if 2 ≤ p.cfg.dir.val ∧ bit p.oe 0 then p.level else d.freeBool)

/-- The number of bits that a pin launches between two edges: SDR 1, DDR 2, SER4 4. -/
def outBits (c : PinCfg) : Nat := if c.omode.val = 2 then 4 else if c.omode.val = 1 then 2 else 1

/-- The input register after an edge: what it delivers, and the bits kept for the next (R522, R523). In DDR the pair of
the edge before is delivered; in SER4 a window of four bits over the last eight, which SLIP moves. -/
def inputEdge (c : PinCfg) (stall : Bool) (p : PinState) (sample : Nat) (slip : Bool) : PinState :=
  let at_ := if slip then (p.slip + 1) % 4 else p.slip
  if c.imode.val = 2 then
    if stall then { p with q := 0, hist := 0 }
    else { p with q := (p.hist + sample * 16) / 2 ^ at_ % 16, hist := sample, slip := at_ }
  else if c.imode.val = 1 then { p with q := p.hist % 2 + sample / 2 % 2 * 2, hist := sample % 2 }
  else { p with q := sample % 2 }

/-- A pin at an edge of its owner's clock. The level of a driven pad that changes between two edges is a free value. -/
def Device.pinEdge (d : Device) (k : Nat) (ios : List IoIn) (i : Nat) : Device :=
  let x := ioIn i ios
  let p := d.pin k i
  let c := p.cfg
  if p = .unused ∨ c.dir.val = 0 then d
  else
    let p := if c.dir.val = 2 then p else inputEdge c (pinSer4 c && d.serStall k) p x.2.2.1 x.2.2.2
    let n := outBits c
    let p := if c.dir.val = 1 then p
      else { p with o := x.1 % 2 ^ n, oe := x.2.1 % (if c.oeDdr then 4 else 2) }
    let drives := decide (2 ≤ c.dir.val) && d.driverOn k i && bit p.oe 0
    let steady := decide (p.o = 0) || decide (p.o + 1 = 2 ^ n)
    let level := if !drives then bit x.2.2.1 0 else if steady then bit p.o 0 else d.freeBool
    d.tick.setPin k i { p with level := level }

/-- The bank that a zone owns, at an edge of the zone's clock (R522 to R524, R529). -/
def Device.bankEdge (d : Device) (n : Nat) (ios : List IoIn) : Device :=
  match d.zoneBank n with
  | none => d
  | some k =>
    let d := d.bankResume k
    (d.livePins k).foldl (fun d i => d.pinEdge k ios i) d

/-! ## The edge -/

/-- The zone's logic at an edge: flip-flops, slices, I/O registers and the crossbar port (R196, R247, R522, R537). It
runs from GRR (R146). -/
def Device.logicEdge (d : Device) (n : Nat) (e : EdgeIn) : Device :=
  if (d.zone n).stage ≠ .grr then d
  else
    let cells := (d.image n).cells
    let d := d.modZone n (fun z => { z with ffs := cellsEdge cells e.cells z.ffs })
    let d := (d.slicesEdge n e.slices).bankEdge n e.ios
    let levels := d.xbLevels n
    let d := d.tick.modZone n (fun z =>
      { z with xbIn := z.xbCap, xbCap := levels, xbOut := e.xbOut.toNat, xbOe := e.xbOe.toNat })
    d.stallTick n e.oValid

/-- The memory ports and queues of a zone at the end of an edge (R223, R240, R241). -/
def Device.memoryEdge (d : Device) (s : Stores) (n : Nat) : Device :=
  let d := d.modZone n (fun z => { z with ports := z.ports.map (fun p => (p.1, p.2.edge)) })
  ((d.image n).mems.map (·.1)).foldl (fun d q => if (d.memCfg n q).isQueue then d.queueTick s n q else d) d

/-- The lane quads that border a zone (R607). -/
def zoneQuads (n : Nat) : List Nat := (List.range 24).filter (fun k => quadZone k == n)

/-- A rising edge of a zone's clock. A swap's release and a ramp count it (R147, R182). Room that the edge made takes received lane blocks (R618). -/
def Device.zoneEdge (d : Device) (s : Stores) (n : Nat) (e : EdgeIn) : Device × Stores :=
  let d := ((d.logicEdge n e).memoryEdge s n).endpointsTick n
  let d := d.rampEdge n
  let d := d.swapZoneEdge n
  let d := d.eventPortEdge n (e.evTake && decide ((d.zone n).stage = .grr))
  (zoneQuads n).foldl (fun a k =>
    quadLanes.foldl (fun (a : Device × Stores) l => Device.laneDeliver 33 a.1 a.2 k l) a) (d, s)

/-- ZONE_EDGE (R196, R209, R210, R223, R240, R247, R513, R522 to R524, R529, R537). -/
def execZoneEdge (z : ZoneId) (edge : EdgeIn) (s : State) : Host.Outcome State Fault Refusal :=
  .next (s.onBoth (fun d m => if d.zoneEdges z.no then d.zoneEdge m z.no edge else (d, m)))

end Sys2Proof.Machine
end

