-- ==== Sys2Proof/Machine/Events.lean ====
section
/-! DEFINITION. The event controller's commands (chapter 19): raises, delivery to zones, user events, clearing. -/

namespace Sys2Proof.Machine

/-- The data unit of an EVT (Table 19.1). -/
def Raise.evtUnit (r : Raise) : DataUnit :=
  { val := BitVec.ofNat 128 (r.mt % 2 ^ 64 * 2 ^ 64 + r.payload % 2 ^ 32 * 2 ^ 32 + r.unit % 4096 * 2 ^ 8 + r.ev % 128),
    poison := false, corrected := false }

/-- The raise that an EVT's data unit carries (Table 19.1). -/
def raiseOf (u : DataUnit) : Raise :=
  let v := u.val.toNat
  { ev := v % 128, unit := bits v 19 8, payload := bits v 63 32, mt := v / 2 ^ 64 }

/-- Stop 6 issues the EVTs of the oldest raise, in ascending zone index (R510, R512). -/
def Device.evDeliver (d : Device) : Device :=
  match d.ev.queue with
  | [] => d
  | (r, mask) :: rest =>
    let d := { d with ev := { d.ev with queue := rest } }
    (d.each (zoneNumbers.filter (bit mask)) (fun d n =>
      d.issue 6 Cmd.EVT 3 (zoneStop n * 2 ^ 38) 1 0xFFFF [r.evtUnit] 0))

/-- Latches are cleared: those whose bit is set in a mask of 128 bits (R68, R506). -/
def Device.evClear (d : Device) (mask : Nat) : Device :=
  (d.each [0, 1, 2, 3] (fun d k =>
    let f := F.EV_LATCH_EVENTS k
    d.set f (Nat.land (d.get f) (Nat.xor 0xFFFFFFFF (mask / 2 ^ (32 * k) % 2 ^ 32))))).mirqUpdate

/-- The 128 latches as one number. -/
def Device.evSnapshot (d : Device) : Nat :=
  [0, 1, 2, 3].foldl (fun a k => a + d.get (F.EV_LATCH_EVENTS k) * 2 ^ (32 * k)) 0

/-- EV_INFO of the selected event. -/
def Device.evInfo (d : Device) : Nat :=
  let e := d.get F.EV_SEL_EVENT
  Tab.get (fun _ => 0) d.ev.count e * 65536 + Tab.get (fun _ => 0) d.ev.unit e

/-- A write of EV_USER_RAISE by the initiator with key `key` (R514). -/
def Device.userRaise (d : Device) (key user : Nat) : Device :=
  if isZoneKey key then d.raise (Ev.USER (user % 32)) (stopUnit key) 0
  else d.refuseAt F.EV_REFUSE_REASON .notOwner F.EV_USER_RAISE_USER

/-! ## Commands -/

/-- EVENT_RAISE (R505): a source raises an event. -/
def execEventRaise (ev : Fin 128) (unit : BitVec 12) (payload : BitVec 32) (s : State) :
    Host.Outcome State Fault Refusal :=
  .next (s.on (fun d => if d.rst.por then d else d.raise ev.val unit.toNat payload.toNat))

/-- EVT_DELIVERY (R510, R512). -/
def execEvtDelivery (s : State) : Host.Outcome State Fault Refusal := .next (s.on Device.evDeliver)

/-- EV_USER_RAISE (R514). -/
def execEvUserRaise (who : Initiator) (user : BitVec 5) (s : State) : Host.Outcome State Fault Refusal :=
  .next (s.on (fun d => d.onMck (fun d => d.userRaise who.key user.toNat)))

end Sys2Proof.Machine
end

