-- ==== Sys2Proof/Machine/IoxWrites.lean ====
section
/-! DEFINITION. Writes of the crossbar's registers (chapter 21): maps, ownership, groups, general signals, and its
commands. A change of routing also reaches the presence inputs (R588). -/

namespace Sys2Proof.Machine

/-! ## Writes (R541, R543 to R546, R553) -/

/-- Conflicts and presence follow a change of routing (R547, R588). -/
def Device.ioxFollow (d : Device) : Device := d.ioxSettle.each (List.range 8) (fun d k => d.idPresence k)

/-- A refusal of the crossbar. -/
def Device.ioxRefuse (d : Device) (why : Reason) (index : Nat) : Device := d.refuse F.IOX_REFUSE_REASON.key why index
/-- A refusal with a register's offset ÷ 4 as its index. -/
def Device.ioxRefuseAt (d : Device) (why : Reason) (f : Field) : Device := d.refuseAt F.IOX_REFUSE_REASON why f

/-- Why a MAP field may not hold a code (R543): `inField` for IN, else an OUT field. A bidirectional signal has no
place in an OUT field, where an input signal is refused. -/
def Device.mapFieldBad (d : Device) (inField : Bool) (c : Nat) : Option Reason :=
  if c = 0 then none
  else if d.sigDir c = 0 then some .signalUnknown
  else if inField then (if d.sigDir c = 2 then some .reservedValue else none)
  else if d.sigDir c = 2 then none else some .reservedValue

/-- Why a write of code `c` to a MAP field is refused, which a write of the code it holds never is (R655). -/
def Device.mapWriteBad (d : Device) (f : Field) (inField : Bool) (c : Nat) : Option Reason :=
  if d.get f = c then none else d.mapFieldBad inField c

/-- Why a pin's MAP is refused, its most significant field first (R543). -/
def Device.mapBad (d : Device) (inp outB outA : Nat) : Option Reason :=
  match d.mapFieldBad true inp with
  | some r => some r
  | none => match d.mapFieldBad false outB with
    | some r => some r
    | none => d.mapFieldBad false outA

/-- Why a write of a pin's MAP is refused, its most significant field first (R543, R655). -/
def Device.mapWhy (d : Device) (p inp outB outA : Nat) : Option Reason :=
  match d.mapWriteBad (F.IOX_PIN_MAP_IN p) true inp with
  | some r => some r
  | none => match d.mapWriteBad (F.IOX_PIN_MAP_OUT_B p) false outB with
    | some r => some r
    | none => d.mapWriteBad (F.IOX_PIN_MAP_OUT_A p) false outA

/-- Is the initiator with key `key` the owner of a pin (R544)? -/
def Device.pinOwned (d : Device) (key p : Nat) : Bool :=
  if d.get (F.IOX_PIN_OWNER_KIND p) = 2 then
    isZoneKey key && decide (stopUnit key = d.get (F.IOX_PIN_OWNER_UNIT p))
  else decide (key = 1)

/-- A write of IOX_PINn_MAP (R543, R544, R655): field by field. -/
def Device.pinMapWrite (d : Device) (key p inp outB outA : Nat) : Device :=
  if !d.pinOwned key p then d.ioxRefuse .notOwner p
  else
    let bad := d.mapWhy p inp outB outA
    let put (d : Device) (f : Field) (i : Bool) (v : Nat) : Device :=
      if (d.mapWriteBad f i v).isNone then d.set f v else d
    let d := put (put (put d (F.IOX_PIN_MAP_IN p) true inp) (F.IOX_PIN_MAP_OUT_B p) false outB)
      (F.IOX_PIN_MAP_OUT_A p) false outA
    (match bad with
      | some why => d.ioxRefuse why p
      | none => d).ioxFollow

/-- A write of IOX_PINn_OWNER (R545). UNIT holds 0 for a pin that no zone owns (Table 21.3). -/
def Device.pinOwnerWrite (d : Device) (key p kind unit : Nat) : Device :=
  let now := d.get (F.IOX_PIN_OWNER_KIND p)
  if now = 1 ∨ !(d.pinOwned key p || (decide (now = 2) && decide (key = 1))) then d.ioxRefuse .notOwner p
  else if kind = 3 ∨ (kind = 2 ∧ ¬(1 ≤ unit / 512 ∧ unit / 512 ≤ 4 ∧ unit % 512 ≤ 0x3F)) then
    d.ioxRefuse .reservedValue p
  else d.setAll [(F.IOX_PIN_OWNER_KIND p, kind), (F.IOX_PIN_OWNER_UNIT p, if kind = 2 then unit else 0)]

/-- A write of IOX_PINn_CFG (R544). A reserved PULL is stored and stops the group's enable check (R12). -/
def Device.pinCfgWrite (d : Device) (key p v : Nat) : Device :=
  if !d.pinOwned key p then d.ioxRefuse .notOwner p
  else d.setAll [(F.IOX_PIN_CFG_ALLOW_PREDICT p, bits v 8 8), (F.IOX_PIN_CFG_PULL p, bits v 5 4),
    (F.IOX_PIN_CFG_DRIVE p, bits v 0 0)]

/-- The pins of a group. -/
def groupPins (g : Nat) : List Nat := (List.range 8).map (fun i => 8 * g + i)

/-- Why a group may not be enabled: the first pin that fails, and the reason (R12, R553). -/
def Device.groupBad (d : Device) (g : Nat) : Option (Reason × Nat) :=
  (groupPins g).findSome? (fun p =>
    let map := if d.on (F.IOX_GRP_CTL_MODE g) then
        d.mapBad (d.get (F.IOX_PIN_MAP_IN p)) (d.get (F.IOX_PIN_MAP_OUT_B p)) (d.get (F.IOX_PIN_MAP_OUT_A p))
      else none
    match map with
    | some why => some (why, p)
    | none => if d.get (F.IOX_PIN_CFG_PULL p) = 3 then some (.reservedValue, p) else none)

/-- May IOX_GRPg_CTL be written (R546)? -/
def Device.groupWritable (d : Device) (key g : Nat) : Bool :=
  decide (key = 1) && (groupPins g).all (fun p => d.get (F.IOX_PIN_OWNER_KIND p) != 1)

/-- A write of IOX_GRPg_CTL (R541, R546, R553, R628, R629, R655): MODE is stored before EN is judged. -/
def Device.groupWrite (d : Device) (key g : Nat) (xbar en : Bool) : Device :=
  let fm := F.IOX_GRP_CTL_MODE g
  if !d.groupWritable key g then d.ioxRefuseAt .notOwner fm
  else
    let change := xbar != d.on fm
    let modeBad : Option Reason :=
      if change && d.on (F.IOX_GRP_CTL_EN g) then some .busy
      else if change && xbar && (groupPins g).any (fun p => d.unitClaim p != 0) then some .pinClaimed
      else none
    let d := if modeBad.isNone then d.set fm (b2n xbar) else d
    let enBad := if en && !d.on (F.IOX_GRP_CTL_EN g) then d.groupBad g else none
    let d := if enBad.isNone then d.set (F.IOX_GRP_CTL_EN g) (b2n en) else d
    (match modeBad, enBad with
      | some why, _ => d.ioxRefuseAt why fm
      | none, some (why, p) => d.ioxRefuse why p
      | none, none => d).ioxFollow

/-- Is GENk named by a pin of an enabled crossbar-mode group, or does it hold a claim (R539)? -/
def Device.genInUse (d : Device) (k : Nat) : Bool :=
  (List.range 64).any (fun p => d.groupOn p && d.groupXbar p
      && ([F.IOX_PIN_MAP_IN p, F.IOX_PIN_MAP_OUT_A p, F.IOX_PIN_MAP_OUT_B p].map d.get).contains (0x80 + k))
    || d.pinClaim k == 0x80 + k

/-- A write of IOX_GENk_CFG (R539, R546, R655). -/
def Device.genWrite (d : Device) (key k en defOe defVal dir zone : Nat) : Device :=
  if key ≠ 1 then d.ioxRefuseAt .notOwner (F.IOX_GEN_CFG_EN k)
  else
    let busy := d.genInUse k && (decide (en ≠ d.get (F.IOX_GEN_CFG_EN k)) || decide (dir ≠ d.get (F.IOX_GEN_CFG_DIR k))
      || decide (zone ≠ d.get (F.IOX_GEN_CFG_ZONE k)))
    let used := d.genInUse k
    let d := d.setAll [(F.IOX_GEN_CFG_DEF_OE k, defOe), (F.IOX_GEN_CFG_DEF_VAL k, defVal)]
    let d := if used then d else
      d.setAll [(F.IOX_GEN_CFG_EN k, en), (F.IOX_GEN_CFG_DIR k, dir), (F.IOX_GEN_CFG_ZONE k, zone)]
    (if busy then d.ioxRefuseAt .busy (F.IOX_GEN_CFG_EN k) else d).ioxFollow

/-- A write of IOX_CTL (R546, R552). -/
def Device.forceSafe (d : Device) (key : Nat) (on : Bool) : Device :=
  if key = 1 then d.set F.IOX_CTL_FORCE_SAFE (b2n on) else d.ioxRefuseAt .notOwner F.IOX_CTL_FORCE_SAFE

/-- A write of IOX_EVI_CFG (R546). -/
def Device.eviCfgWrite (d : Device) (key v : Nat) : Device :=
  if key = 1 then d.set F.IOX_EVI_CFG_EDGE v else d.ioxRefuseAt .notOwner F.IOX_EVI_CFG_EDGE

/-! ## Commands -/

/-- IOX_GROUP_ENABLE (R546, R553): a write of EN = 1 that leaves MODE as it is. -/
def execIoxGroupEnable (who : Initiator) (group : Fin 8) (s : State) : Host.Outcome State Fault Refusal :=
  .next (s.on (fun d => d.onMck (fun d =>
    d.groupWrite who.key group.val (d.on (F.IOX_GRP_CTL_MODE group.val)) true)))

/-- IOX_PIN_MAP_WRITE (R543, R544). -/
def execIoxPinMapWrite (who : Initiator) (pin : Fin 64) (inp outB outA : BitVec 8) (s : State) :
    Host.Outcome State Fault Refusal :=
  .next (s.on (fun d => d.onMck (fun d => d.pinMapWrite who.key pin.val inp.toNat outB.toNat outA.toNat)))

/-- IOX_PIN_OWNER_WRITE (R545). -/
def execIoxPinOwnerWrite (who : Initiator) (pin : Fin 64) (kind : BitVec 2) (unit : BitVec 12) (s : State) :
    Host.Outcome State Fault Refusal :=
  .next (s.on (fun d => d.onMck (fun d => d.pinOwnerWrite who.key pin.val kind.toNat unit.toNat)))

/-- IOX_GEN_CFG_WRITE (R539): by MLINK. -/
def execIoxGenCfgWrite (gen : Fin 64) (en defOe defVal dir : Bool) (zone : Fin 64) (s : State) :
    Host.Outcome State Fault Refusal :=
  .next (s.on (fun d => d.onMck (fun d =>
    d.genWrite 1 gen.val (b2n en) (b2n defOe) (b2n defVal) (b2n dir) zone.val)))

/-- IOX_FORCE_SAFE (R552): MLINK writes FORCE_SAFE. -/
def execIoxForceSafe (on : Bool) (s : State) : Host.Outcome State Fault Refusal :=
  .next (s.on (fun d => d.onMck (fun d => d.forceSafe 1 on)))

/-- EVI_EDGE (R551): the board moves the pad that EVIk is routed from, and the signal is sampled. EVI0
to EVI7 are also presence inputs. -/
def execEviEdge (k : Fin 16) (level : Bool) (s : State) : Host.Outcome State Fault Refusal :=
  .next (s.on (fun d =>
    let d := d.drivePad (0x40 + k.val) level
    let d := if d.pSvc then d.eviSample k.val else d
    if k.val < 8 then d.idPresence k.val else d))

end Sys2Proof.Machine
end

