-- ==== Sys2Proof/Machine/Power.lean ====
section
/-! DEFINITION. Power states (chapter 18): the checks and steps of an entry, aborts, and the wakes. What a raise does to an
entry or a state (R495, R497, R499) is in Ops. -/

namespace Sys2Proof.Machine

/-- Does a zone's clock run, so that a state that stops it gates it? -/
def Device.clockActive (d : Device) (n : Nat) : Bool :=
  let st := d.zcState n
  st != Zc.STOPPED && st != Zc.HELD && st != Zc.GATED

/-- The zones whose clock a state stops (Table 18.1): in DOZE those of PW_DOZE_MASK. -/
def Device.pwStops (d : Device) (t : Nat) : List Nat :=
  zoneNumbers.filter (fun n => d.clockActive n && (t != 1 || bit (d.get (F.PW_DOZE_MASK_ZONES (n / 32))) (n % 32)))

/-- Is a zone in a swap, a reset alone, a stop-switch-restart or a ramp (Table 18.2)? -/
def Device.zoneInMotion (d : Device) (n : Nat) : Bool :=
  d.zoneBusy n || d.zcState n == Zc.SWITCHING || d.zcState n == Zc.RAMPING

/-- What keeps a die's engines busy for SLUMBER and DORMANT (Table 18.2): the unit that refuses. -/
def Device.engineBusy (d : Device) (die : Nat) : Option Nat :=
  let l := d.lehrOf die
  if d.jobRuns die || l.verify.isSome || l.refetch.isSome then some (U.GTH die)
  else if d.on (F.CMP_PT_CTL_OPEN (U.CMP die)) then some (U.CMP die)
  else none

/-- What DORMANT alone requires (Table 18.2): no changeover, no compute link, no cam engine that sends to a fabric
endpoint, and the retention of every bank of an enabled cam engine. -/
def Device.dormantRefusal (d : Device) : Option (Reason × Nat) :=
  if d.get F.GAF_STATUS_STATE ≠ 0 then some (.busy, U.GAF)
  else match fabricDies.find? (fun k => d.on (F.PL_LINK_CTL_EN (U.PL (k - 1)))) with
    | some k => some (.busy, U.PL (k - 1))
    | none =>
      if (List.range 16).any (fun e => d.on (F.CAM_ENG_CTL_EN e) && d.get (F.CAM_ENG_CTL_DEST e) == 1) then
        some (.busy, U.CAM)
      else match (List.range 32).find? (fun n =>
          let o := d.bankOwner n
          decide (2 ≤ o) && decide (o ≤ 17) && d.on (F.CAM_ENG_CTL_EN (o - 2)) && !bit (d.get F.PW_RET_POOL_BANKS) n) with
        | some n => some (.retentionUnsupported, U.PL (n / 4))
        | none => none

/-- Table 18.2 in its order: why an entry into state `t` is refused, and the unit that refuses. -/
def Device.pwCheck (d : Device) (t : Nat) : Option (Reason × Nat) :=
  if 4 < t ∨ t = 0 ∨ (t = 1 ∧ (List.range 8).all (fun k => d.get (F.PW_DOZE_MASK_ZONES k) == 0)) then
    some (.reservedValue, U.PW)
  else if d.get F.PW_STATUS_STATE ≠ 0 ∨ d.get F.PW_STATUS_PHASE ≠ 0 then some (.busy, U.PW)
  else if 2 ≤ t ∧ d.clk.osc ≠ Osc.STABLE then some (.noTimebase, U.CK)
  else match (d.pwStops t).find? d.zoneInMotion with
    | some n => some (.busy, zoneUnit n)
    | none =>
      match (if 3 ≤ t then fabricDies.findSome? d.engineBusy else none) with
      | some u => some (.busy, u)
      | none =>
        match (if t = 4 then d.dormantRefusal else none) with
        | some r => some r
        | none =>
          if 2 ≤ t ∧ !(List.range 128).any (fun e => d.wakeEnabled e && sourceRuns t e) then some (.wakeNone, U.EV)
          else none

/-- An accepted entry starts to drain (Table 18.3, step 1). -/
def Device.pwEnter (d : Device) (t : Nat) : Device :=
  let stops := d.pwStops t
  let d := { d with pw := { PowerState.idle with target := t, stops := stops } }
  let d := d.setAll [(F.PW_CMD_GO, 1), (F.PW_STATUS_PHASE, 2)]
  d.each stops (fun d n => d.drain n true)

/-- A write of PW_CMD with GO (R492, R496, R499): an entry, a wake by the host, or a refusal. A reserved TARGET is not
stored (R13). -/
def Device.pwCommand (d : Device) (t : Nat) : Device :=
  let st := d.get F.PW_STATUS_STATE
  let ph := d.get F.PW_STATUS_PHASE
  let check := d.pwCheck t
  let d := if 4 < t then d else d.set F.PW_CMD_TARGET t
  if t = 0 ∧ st = 0 ∧ ph = 0 then d
  else if t = 0 ∧ ph = 4 then (d.set F.PW_CMD_GO 1).wakeBegin 0x80
  else if t = 0 then d.pwRefuse U.PW .busy
  else match check with
    | some (why, unit) => d.pwRefuse unit why
    | none => d.pwEnter t

/-- PW_ENTER_DOZE (R492, R494). -/
def execPwEnterDoze (s : State) : Host.Outcome State Fault Refusal := .next (s.on (fun d => d.onMck (fun d => d.pwCommand 1)))
/-- PW_ENTER_NAP (R492, R494). -/
def execPwEnterNap (s : State) : Host.Outcome State Fault Refusal := .next (s.on (fun d => d.onMck (fun d => d.pwCommand 2)))
/-- PW_ENTER_SLUMBER (R492, R494). -/
def execPwEnterSlumber (s : State) : Host.Outcome State Fault Refusal :=
  .next (s.on (fun d => d.onMck (fun d => d.pwCommand 3)))
/-- PW_ENTER_DORMANT (R492, R494). -/
def execPwEnterDormant (s : State) : Host.Outcome State Fault Refusal :=
  .next (s.on (fun d => d.onMck (fun d => d.pwCommand 4)))
/-- PW_WAKE_COMMAND (R499): PW_CMD with TARGET = RUN and GO. -/
def execPwWakeCommand (s : State) : Host.Outcome State Fault Refusal :=
  .next (s.on (fun d => d.onMck (fun d => d.pwCommand 0)))

/-- A zone clock is gated after its next edge, its source and divider kept (R484). -/
def Device.gateZone (d : Device) (n : Nat) : Device :=
  if !d.clockActive n then d
  else
    let e := d.nextEdge n
    let ref := d.zcState n == Zc.REF
    let div := d.get (F.ZN_CLK_STATUS_DIV_NOW (zoneUnit n))
    let w := d.interrupted n
    (d.modClk n (fun c => { c with heldRef := ref, heldDiv := div, lastEdge := e, wait := w })).setZcState n Zc.GATED

/-- PW_DRAIN_DONE: every zone that stops is drained, which is the commit point (Table 18.3, step 2). A zone whose clock has
started since the entry began is drained first. -/
def Device.pwCommit (d : Device) : Device :=
  let late := (d.pwStops d.pw.target).filter (fun n => !d.pw.stops.contains n)
  if d.get F.PW_STATUS_PHASE ≠ 2 ∨ !d.pw.stops.all d.zoneDrained then d
  else if !late.isEmpty then
    { d with pw := { d.pw with stops := d.pw.stops ++ late } }.each late (fun d n => d.drain n true)
  else
    let d := d.set F.PW_STATUS_PHASE 3
    d.each d.pw.stops (fun d n => (d.gateZone n).drain n false)

/-- PW_DRAIN_DONE (R494, R497). -/
def execPwDrainDone (s : State) : Host.Outcome State Fault Refusal := .next (s.on (fun d => d.onMck Device.pwCommit))

/-- PW_DRAIN_LIMIT (R495): the entry aborts with NOT_DRAINED, naming the first zone that is not drained. -/
def Device.pwLimit (d : Device) : Device :=
  if d.get F.PW_STATUS_PHASE ≠ 2 then d
  else match d.pw.stops.find? (fun n => !d.zoneDrained n) with
    | some n => d.pwAbort (zoneUnit n) .notDrained 0xFF
    | none => d

/-- PW_DRAIN_LIMIT (R495, R496). -/
def execPwDrainLimit (s : State) : Host.Outcome State Fault Refusal := .next (s.on (fun d => d.onMck Device.pwLimit))

/-- The loops are turned off (Table 18.3, step 3; R485): service domains on the reference, machine time coarse. -/
def Device.loopsOff (d : Device) : Device :=
  let d := { d with clk := { d.clk with root := Loop.OFF, rootGated := true } }
  (d.slavesOff.setSvcP true).set F.CK_STATUS_MT_COARSE 1

/-- The fabric enters DORMANT (R486, R488, R489): the dies lose what is not retained, and so do the pool banks that are
not selected; the bridges go DOWN and answer for their dies. -/
def Device.dormantEnter (d : Device) (s : Stores) : Device × Stores :=
  let r := d.fabricReset s true true
  let d := r.1.cutDies
  let d := d.each fabricDies (fun d k => if d.fenced k then d else d.set (F.BR_STATUS_STATE (U.BR k)) Br.DOWN)
  let fill := d.fillMask false
  let s := { r.2 with pool := r.2.pool.filter (fun (e : Nat × Code72) => !bit fill (wordBank e.1)) }
  ({ d with rst := { d.rst with fill := fill } }, s)

/-- PW_STATE_REACHED (Table 18.3, steps 3 to 5; R497): the last step is done. -/
def Device.pwReached (d : Device) (s : Stores) : Device × Stores :=
  if d.get F.PW_STATUS_PHASE ≠ 3 then (d, s)
  else
    let t := d.pw.target
    let d := if 3 ≤ t then d.loopsOff else d
    let d := if t = 3 then d.each (List.range 24) (fun d k => d.quadOff k) else d
    let r := if t = 4 then d.dormantEnter s else (d, s)
    let d := r.1.setAll [(F.PW_STATUS_STATE, t), (F.PW_STATUS_PHASE, 4), (F.PW_CMD_GO, 0)]
    (match d.pw.wakeLater with | some ev => d.wakeBegin ev | none => d, r.2)

/-- PW_STATE_REACHED (R494, R497). -/
def execPwStateReached (s : State) : Host.Outcome State Fault Refusal :=
  .next (s.onBoth (fun d m => if d.board.mck then d.pwReached m else (d, m)))

/-- DORMANT_GATE_CLOSED (R502): the fabric rail is back, and the dies that are not fenced come up as after a BROWNOUT_INT
reset; the pool banks that were not retained are filled with zeros (R489). -/
def Device.gateClosed (d : Device) (s : Stores) (ups : DiesUp) : Device × Stores :=
  if !d.pw.regating ∨ d.pw.up then (d, s)
  else
    let d := { d with pw := { d.pw with up := true }, rst := { d.rst with limitOn := true } }
    let d := d.each (fabricDies.filter (fun k => !d.fenced k)) (fun d k =>
      let w := putBits (d.rd F.RS_DIE_FAIL_F1.key) (4 * k - 1) (4 * k - 4) 0
      (d.clearFieldBit F.RS_STATUS_DIE_READY (k - 1)).wr F.RS_DIE_FAIL_F1.key w)
    let r := d.zeroFill s
    let d := r.1
    if d.clk.osc ≠ Osc.STABLE then (d.set F.RS_STATUS_STATE Rs.MGMT_ONLY, r.2)
    else
      let d := d.set F.RS_STATUS_STATE Rs.LOOPS
      ((if d.board.vccint then d.lateAll ups else d), r.2)

/-- DORMANT_GATE_CLOSED (R502, R489). -/
def execDormantGateClosed (ups : DiesUp) (s : State) : Host.Outcome State Fault Refusal :=
  .next (s.onBoth (fun d m => if d.board.mck then d.gateClosed m ups else (d, m)))

/-- A gated zone starts again: after DOZE on its present source (R500), on the root at the first aligned index at least 8
root cycles after the wake began, which is `mt` on its die's copy of machine time; after NAP or SLUMBER on the reference
(R501). It stays held where the Lehr holds it, where its source is the root and its loop is not locked, or where the
reference has failed. -/
def Device.wakeZone (d : Device) (st mt n : Nat) : Device :=
  let u := zoneUnit n
  let c := (d.zone n).clk
  if d.zcState n ≠ Zc.GATED then d
  else
    let d := if st = 1 ∨ (d.zone n).clk.heldRef then d
      else
        let d := d.set (F.ZN_CLK_CTL_SRC u) 1
        d.modZone n (fun z => { z with clk := { z.clk with heldRef := true }, noAlign := true })
    let d := (d.setAll [(F.ZN_CLK_STATUS_STATE u, Zc.HELD), (F.ZN_CLK_STATUS_ALIGNED u, 0)]).unhold n false
    if st = 1 ∧ !c.heldRef ∧ d.clockActive n then
      d.modClk n (fun k => { k with lastEdge := alignedFrom d.clk.epoch c.heldDiv (mt + 8) })
    else d

/-- Has a wake come to its end: at once for DOZE, NAP and SLUMBER; after DORMANT with the end of step 10, or where the
die-set policy stops it (R503)? -/
def Device.wakeOver (d : Device) : Bool :=
  let rs := d.get F.RS_STATUS_STATE
  d.get F.PW_STATUS_PHASE == 5
    && (d.get F.PW_STATUS_STATE != 4 || (d.pw.up && (rs == Rs.RUN || rs == Rs.STALLED || rs == Rs.MGMT_ONLY)))

/-- PW_WAKE_DONE (R500, R501, R503, R504). -/
def Device.wakeDone (d : Device) : Device :=
  if !d.wakeOver then d
  else
    let st := d.get F.PW_STATUS_STATE
    let stops := d.pw.stops ++ zoneNumbers.filter (fun n => d.zcState n == Zc.GATED && !d.pw.stops.contains n)
    let mt (n : Nat) : Nat := Tab.get (fun _ => 0) d.pw.wakeMt (zoneDie n)
    let d := { d with pw := { PowerState.idle with loopsRestart := d.pw.loopsRestart } }
    let d := d.setAll [(F.PW_STATUS_STATE, 0), (F.PW_STATUS_PHASE, 0), (F.PW_CMD_GO, 0)]
    let d := d.each stops (fun d n => d.wakeZone st (mt n) n)
    let d := if st = 3 then d.each (List.range 24) (fun d k => d.quadRestart k) else d
    (d.raise Ev.PW_WAKE U.PW 0).lookupNext

/-- PW_WAKE_DONE (R503). -/
def execPwWakeDone (s : State) : Host.Outcome State Fault Refusal := .next (s.on (fun d => d.onMck Device.wakeDone))

end Sys2Proof.Machine
end

