-- ==== Sys2Proof/Machine/Records.lean ====
section
/-! DEFINITION. The records on their way to the P-die and the log that holds them (R316 to R318, R632), and the flip mask
of an ECC test block (R337, R339). -/

namespace Sys2Proof.Machine

/-! ## Forwarding from a fabric die (R317, R632) -/

/-- Does a die's stop 96 reach the P-die: its bridge is open and its supplies hold? -/
def Device.forwards (d : Device) (die : Nat) : Bool := d.bridgeOpen die && !d.dormant

/-- The refusal records that wait at a die. -/
def Device.refusalQueue (d : Device) (die : Nat) : List RefusalRec := Tab.get (fun _ => []) d.refusals.queues die

/-- REFUSAL_FORWARD (R632): the oldest refusal record of a die reaches the management unit, which takes it in an MCK
cycle; the checks that waited for room proceed. -/
def Device.refusalForward (d : Device) (die : Nat) : Device :=
  match d.refusalQueue die with
  | [] => d
  | r :: rest =>
    if !d.forwards die then d
    else
      let q := Tab.set (fun _ => []) d.refusals.queues die rest
      let d := { d with refusals := { d.refusals with queues := q } }
      let d := if d.board.mck then d.applyRefusal r
        else { d with refusals := { d.refusals with waiting := d.refusals.waiting ++ [r] } }
      d.heldChecks die

/-- REFUSAL_FORWARD (R632). -/
def execRefusalForward (die : Die) (s : State) : Host.Outcome State Fault Refusal :=
  .next (s.on (fun d => d.refusalForward die.no))

/-- The Cullet records that wait at a die. -/
def Device.culletBuffer (d : Device) (die : Nat) : List Record := Tab.get (fun _ => []) d.cul.buffers die

/-- CULLET_RECORD_FORWARD (R317): the oldest Cullet record of a die reaches the Cullet; the die's refusal records go
first (R632). -/
def Device.culletForward (d : Device) (die : Nat) : Device :=
  match d.culletBuffer die with
  | [] => d
  | r :: rest =>
    if !d.forwards die || !(d.refusalQueue die).isEmpty then d
    else
      let b := Tab.set (fun _ => []) d.cul.buffers die rest
      ({ d with cul := { d.cul with buffers := b } }).culletTake r

/-- CULLET_RECORD_FORWARD (R317). -/
def execCulletRecordForward (die : Die) (s : State) : Host.Outcome State Fault Refusal :=
  .next (s.on (fun d => d.culletForward die.no))

/-! ## The Cullet (R318) -/

/-- A write of CUL_SEL captures that record into CUL_E0 to CUL_E5; a record never written reads all zero. -/
def Device.culletSelect (d : Device) (i : Nat) : Device :=
  let w := match Tab.get (fun _ => none) d.cul.log i with
    | some r => r.words
    | none => []
  let d := d.set F.CUL_SEL_INDEX i
  d.each (List.range 6) (fun d k => d.wr (F.CUL_SEL_INDEX.key + 4 * (k + 1)) (w.getD k 0))

/-- CUL_SEL_WRITE (R318). -/
def execCulSelWrite (index : BitVec 8) (s : State) : Host.Outcome State Fault Refusal :=
  .next (s.on (fun d => d.onMck (fun d => d.culletSelect index.toNat)))

/-- CUL_CTL.CLEAR empties the log; CUL_NEXT returns to 0. -/
def Device.culletClear (d : Device) : Device :=
  { d with cul := { d.cul with log := [], newest := none } }.setAll [(F.CUL_NEXT_WRAPS, 0), (F.CUL_NEXT_INDEX, 0)]

/-- CUL_CLEAR (R318). -/
def execCulClear (s : State) : Host.Outcome State Fault Refusal := .next (s.on (fun d => d.onMck Device.culletClear))

/-! ## ECC test blocks (R337, R339) -/

/-- The unit of an ECC test block. -/
def eccUnit : EccUnit → Nat
  | .zone z => z.unit
  | .pool g => U.PL g.val

/-- Is the store that a test block selects in ECC mode: always, for a pool bank? -/
def Device.eccMode (d : Device) (u : Nat) : Bool :=
  let n := (u / 512 - 1) * 64 + u % 64
  decide (u < 512) || (d.memsUp n && (d.memCfg n (bits (d.rd (eccBlock u)) 5 0)).ecc)

/-- The *_REFUSE register of the unit that holds a test block. -/
def eccRefuse (u : Nat) : Nat := if u < 512 then (F.PL_REFUSE_REASON u).key else (F.ZN_REFUSE_REASON u).key

/-- ECC_FLIP_CTL.ARM is written to 1 (R337, R339): refused while the selected store is not in ECC mode. -/
def Device.eccArm (d : Device) (u : Nat) : Device :=
  let k := eccBlock u + 0x1C
  if !d.eccMode u then d.refuse (eccRefuse u) .reservedValue (k % 4096 / 4) else d.wr k (setBit (d.rd k) 0)

/-- ECC_FLIP_ARM (R337, R339). -/
def execEccFlipArm (u : EccUnit) (s : State) : Host.Outcome State Fault Refusal :=
  .next (s.on (fun d => if eccUnit u < 512 then d.onMck (fun d => d.eccArm (eccUnit u))
    else if d.refusalsFull (unitDie (eccUnit u)) || d.fenced (unitDie (eccUnit u)) then d else d.eccArm (eccUnit u)))

end Sys2Proof.Machine
end

