-- ==== Sys2Proof/Machine/Smv.lean ====
section
/-! DEFINITION. The stream mover (chapter 12, R358 to R364): channels, descriptors, chunks. A channel's packets are
given to stop 24 as the stop takes them, in round-robin order. -/

namespace Sys2Proof.Machine

/-- A channel's own state. -/
def Device.chan (d : Device) (c : Nat) : SmvChannel := Tab.get (fun _ => SmvChannel.idle) d.smv c
/-- The device with a channel's state replaced. -/
def Device.setChan (d : Device) (c : Nat) (x : SmvChannel) : Device :=
  { d with smv := Tab.set (fun _ => SmvChannel.idle) d.smv c x }

/-- The mark of what a channel asks: 0 its descriptor, 2n + 1 the read of chunk n, 2n + 2 its write. -/
def smvMark (c k : Nat) : Nat := 16 * k + c + 1
/-- The mark of a chunk's read. -/
def Chunk.readMark (c : Nat) (x : Chunk) : Nat := smvMark c (2 * x.no + 1)
/-- The mark of a chunk's write. -/
def Chunk.writeMark (c : Nat) (x : Chunk) : Nat := smvMark c (2 * x.no + 2)

/-- Word `k` of a channel's descriptor. -/
def SmvChannel.word (x : SmvChannel) (k : Nat) : Nat := x.desc.getD k 0
/-- The fields of Table 12.5. -/
def SmvChannel.srcA (x : SmvChannel) : Nat := x.word 0 % 2 ^ 48
@[inherit_doc SmvChannel.srcA] def SmvChannel.dstA (x : SmvChannel) : Nat := x.word 1 % 2 ^ 48
@[inherit_doc SmvChannel.srcA] def SmvChannel.rows (x : SmvChannel) : Nat := bits (x.word 2) 39 24 + 1
@[inherit_doc SmvChannel.srcA] def SmvChannel.xlen (x : SmvChannel) : Nat := bits (x.word 2) 23 0
@[inherit_doc SmvChannel.srcA] def SmvChannel.cls (x : SmvChannel) : Nat := bits (x.word 2) 53 52
@[inherit_doc SmvChannel.srcA] def SmvChannel.srcStride (x : SmvChannel) : Int := signed 19 (bits (x.word 3) 44 26)
@[inherit_doc SmvChannel.srcA] def SmvChannel.dstStride (x : SmvChannel) : Int := signed 19 (bits (x.word 3) 63 45)
@[inherit_doc SmvChannel.srcA] def SmvChannel.nextA (x : SmvChannel) : Nat := bits (x.word 3) 25 0

/-- The first byte of row `r`: SRC or DST plus 16 r times its stride (Table 12.5). -/
def rowStart (a : Nat) (stride : Int) (r : Nat) : Int := Int.ofNat a + 16 * Int.ofNat r * stride

/-- Does a row stay within the die and stop of its first row (R359)? -/
def rowInside (a : Nat) (start : Int) (len : Nat) : Bool :=
  let lo := Int.ofNat (a / 2 ^ 38 * 2 ^ 38)
  decide (lo ≤ start) && decide (start + Int.ofNat len ≤ lo + Int.ofNat (2 ^ 38))

/-- The lowest byte and the byte after the highest that the rows of one side touch. -/
def rowSpan (a : Nat) (stride : Int) (rows len : Nat) : Int × Int :=
  let e := rowStart a stride (rows - 1)
  (if e < Int.ofNat a then e else Int.ofNat a, (if e < Int.ofNat a then Int.ofNat a else e) + Int.ofNat len)

/-- Is a descriptor's format wrong (R359, Table 12.5)? -/
def SmvChannel.badFormat (x : SmvChannel) (trigEn : Bool) : Bool :=
  let w2 := x.word 2
  let flat := !bit w2 48
  decide (x.word 0 / 2 ^ 48 ≠ 0) || decide (x.word 1 / 2 ^ 48 ≠ 0) || decide (bits w2 63 55 ≠ 0)
    || decide (bits w2 47 40 ≠ 0) || decide (x.cls = 3)
    || decide (x.srcA % 16 ≠ 0) || decide (x.dstA % 16 ≠ 0) || decide (x.xlen = 0) || decide (x.xlen % 16 ≠ 0)
    || (!bit w2 50 && decide (x.nextA % 32 ≠ 0))
    || (flat && (decide (x.rows ≠ 1) || decide (x.srcStride ≠ 0) || decide (x.dstStride ≠ 0)))
    || !rowInside x.srcA (rowStart x.srcA x.srcStride (x.rows - 1)) x.xlen
    || !rowInside x.srcA (Int.ofNat x.srcA) x.xlen
    || !rowInside x.dstA (rowStart x.dstA x.dstStride (x.rows - 1)) x.xlen
    || !rowInside x.dstA (Int.ofNat x.dstA) x.xlen
    || (bit w2 51 && !trigEn)

/-- Do source and destination overlap (R359)? A copy in place is allowed. -/
def SmvChannel.overlaps (x : SmvChannel) : Bool :=
  let a := rowSpan x.srcA x.srcStride x.rows x.xlen
  let b := rowSpan x.dstA x.dstStride x.rows x.xlen
  decide (x.srcA / 2 ^ 38 = x.dstA / 2 ^ 38) && decide (a.1 < b.2) && decide (b.1 < a.2)
    && !(decide (x.srcA = x.dstA) && decide (x.srcStride = x.dstStride))

/-- Set a channel's STATE. -/
def Device.setChanState (d : Device) (c st : Nat) : Device := d.set (F.SMV_CH_STATUS_STATE c) st

/-- A stopped channel that awaits nothing any more ends: ERROR (R362), or IDLE with ABORTED (R364). -/
def Device.smvSettle (d : Device) (c : Nat) : Device :=
  let x := d.chan c
  if d.get (F.SMV_CH_STATUS_STATE c) = 4 && x.chunks.isEmpty && !x.asked then
    let d := d.set (F.SMV_CH_CTL_EN c) 0
    match x.fail with
    | some (err, st) =>
      let d := d.setAll [(F.SMV_CH_STATUS_STATE c, 5), (F.SMV_CH_STATUS_ERR c, err),
        (F.SMV_CH_STATUS_RSTATUS c, st)]
      ((d.setFieldBit F.SMV_ERR_MAP_CH c).setChan c .idle).raise Ev.SMV_ERROR U.SMV 0
    | none => (d.setAll [(F.SMV_CH_STATUS_STATE c, 0), (F.SMV_CH_STATUS_ABORTED c, 1)]).setChan c .idle
  else d

/-- A chunk's write still waits at the stop, unlaunched. -/
def InitState.unlaunched (i : InitState) (m : Nat) : Bool := (i.port ++ i.held).any (fun r => r.who == m)

/-- A channel stops for a failure at chunk `from_` (R362): it and later chunks are not written, a write of theirs that has
not been launched among them, and what they still await is discarded as it comes. The first failure found is the one
shown. -/
def Device.smvFail (d : Device) (c from_ err st : Nat) : Device :=
  let x := d.chan c
  let i := d.init 24
  let undone (k : Chunk) : Bool := decide (from_ ≤ k.no) && k.wrote && i.unlaunched (k.writeMark c)
  let gone := (x.chunks.filter undone).map (fun (k : Chunk) => k.writeMark c)
  let keep (r : PortReq) : Bool := !gone.contains r.who
  let d := d.setInit 24 { i with port := i.port.filter keep, held := i.held.filter keep }
  let l := x.chunks.filter (fun (k : Chunk) => !undone k && (decide (k.no < from_) || k.wrote || k.data.isNone))
  let l := l.map (fun (k : Chunk) => if k.no < from_ then k else { k with dead := true })
  let d := d.setChan c { x with chunks := l, fail := match x.fail with | some f => some f | none => some (err, st) }
  (d.setChanState c 4).smvSettle c

/-- Setting EN to 1 (R358, R364). -/
def Device.smvEnable (d : Device) (c : Nat) : Device :=
  let t := d.get (F.SMV_CH_CTL_TRIG c)
  if d.on (F.SMV_CH_CTL_EN c) then d
  else if d.get (F.SMV_CH_STATUS_STATE c) = 4 then d.refuseAt F.SMV_REFUSE_REASON .busy (F.SMV_CH_CTL_EN c)
  else if d.get (F.SMV_CH_HEAD_ADDR c) % 32 ≠ 0 then
    d.refuseAt F.SMV_REFUSE_REASON .descriptorInvalid (F.SMV_CH_CTL_EN c)
  else if d.on (F.SMV_CH_CTL_TRIG_EN c) && neverLatches t then
    d.refuseAt F.SMV_REFUSE_REASON .reservedValue (F.SMV_CH_CTL_EN c)
  else
    (d.setAll [(F.SMV_CH_CTL_EN c, 1), (F.SMV_CH_STATUS_TRIG_PENDING c, 0), (F.SMV_CH_STATUS_ERR c, 0),
      (F.SMV_CH_STATUS_RSTATUS c, 0), (F.SMV_CH_CUR_ADDR c, d.get (F.SMV_CH_HEAD_ADDR c)),
      (F.SMV_CH_BYTES_COUNT c, 0), (F.SMV_CH_STATUS_STATE c, 1)]).setChan c .idle

/-- Writing EN = 0 (R364): no new packet leaves; the channel waits for what is outstanding. -/
def Device.smvDisable (d : Device) (c : Nat) : Device :=
  let st := d.get (F.SMV_CH_STATUS_STATE c)
  let d := d.set (F.SMV_CH_CTL_EN c) 0
  if st = 1 ∨ st = 2 ∨ st = 3 then
    let d := d.modInit 24 (fun x => { x with
      port := x.port.filter (fun r => r.who == 0 || decide ((r.who - 1) % 16 ≠ c)) })
    let i := d.init 24
    let waits (m : Nat) : Bool := i.out.any (fun o => o.who == m) || i.inbox.any (fun v => v.who == m)
    let x := d.chan c
    let l := x.chunks.filter (fun (k : Chunk) =>
      if k.wrote then waits (k.writeMark c) else k.data.isNone && waits (k.readMark c))
    let d := d.setChan c { x with
      asked := x.asked && waits (smvMark c 0), chunks := l.map (fun (k : Chunk) => { k with dead := true }) }
    (d.setChanState c 4).smvSettle c
  else d

/-- SMV_CH_ENABLE (R364): a write of EN = 1 that leaves TRIG and TRIG_EN as they are. -/
def execSmvChEnable (ch : Fin 16) (s : State) : Host.Outcome State Fault Refusal :=
  .next (s.on (fun d => d.smvEnable ch.val))
/-- SMV_CH_DISABLE (R364). -/
def execSmvChDisable (ch : Fin 16) (s : State) : Host.Outcome State Fault Refusal :=
  .next (s.on (fun d => d.smvDisable ch.val))

/-! ## Packets of the channels -/

/-- The next chunk of a channel (R360): the place after it, and the chunk. -/
def SmvChannel.take (x : SmvChannel) : Option (SmvChannel × Chunk) :=
  if x.row < x.rows then
    let s := (rowStart x.srcA x.srcStride x.row).toNat + x.pos
    let t := (rowStart x.dstA x.dstStride x.row).toNat + x.pos
    let n := min (x.xlen - x.pos) (min (256 - s % 256) (256 - t % 256))
    let k : Chunk := { no := x.next, src := s, dst := t, len := n, data := none, wrote := false, dead := false }
    let y := if x.pos + n < x.xlen then { x with pos := x.pos + n } else { x with row := x.row + 1, pos := 0 }
    some ({ y with next := x.next + 1, chunks := x.chunks ++ [k] }, k)
  else none

/-- The chunk to write next: the oldest that is not written, if its data has arrived (R360). -/
def SmvChannel.toWrite (x : SmvChannel) : Option Chunk :=
  match x.chunks.find? (fun (k : Chunk) => !k.wrote && !k.dead) with
  | some k => if k.data.isSome then some k else none
  | none => none

/-- The ring address of a pool byte address (R342). -/
def poolRingAddr (a : Nat) : Nat :=
  (16 + a / 2 ^ 23) * 2 ^ 38 + 2 ^ 32 + a % 2 ^ 23

/-- The device after a channel has given its next packet to the stop's port, if it has one. -/
def Device.smvPacket (d : Device) (c : Nat) : Option Device :=
  let x := d.chan c
  let st := d.get (F.SMV_CH_STATUS_STATE c)
  if st = 1 ∧ !x.asked then
    some ((d.setChan c { x with asked := true }).issue 24 Cmd.RD 3
      (poolRingAddr (d.get (F.SMV_CH_CUR_ADDR c))) 2 0xFFFF [] (smvMark c 0))
  else if st = 3 ∨ st = 4 then
    match x.toWrite with
    | some k =>
      let l := x.chunks.map (fun (y : Chunk) => if y.no = k.no then { y with wrote := true } else y)
      let data := k.data.getD []
      let d := (d.setChan c { x with chunks := l }).when (data.any (·.poison))
        (·.set (F.SMV_CH_STATUS_POISON_SEEN c) 1)
      some (d.issue 24 (if bit (x.word 2) 54 then Cmd.WRN else Cmd.WR) x.cls k.dst (k.len / 16) 0xFFFF data
        (k.writeMark c))
    | none =>
      if st = 3 ∧ x.chunks.length < 4 then
        match x.take with
        | some (y, k) => some ((d.setChan c y).issue 24 Cmd.RD x.cls k.src (k.len / 16) 0xFFFF [] (k.readMark c))
        | none => none
      else none
  else none

/-- Of the channels from `c` on in round-robin order, the first with a packet gives it; `n` are looked at. -/
def Device.smvRound (d : Device) (c : Nat) : Nat → Device
  | 0 => d
  | n + 1 =>
    match d.smvPacket (c % 16) with
    | some e => { e with smvTurn := (c + 1) % 16 }
    | none => d.smvRound (c + 1) n

/-- Stop 24 takes one packet from the active channels and launches it. -/
def Device.smvLaunch (d : Device) : Device :=
  match (d.init 24).pick with
  | some _ => d.launchNext 24
  | none => (d.smvRound d.smvTurn 16).launchNext 24

/-- REQUEST_LAUNCH (R264, R272, R278, R280, R287, R293; R354 for a link, R358 and R360 for the stream mover). -/
def execRequestLaunch (i : Initiator) (s : State) : Host.Outcome State Fault Refusal :=
  match i with
  | .link die => .next (s.onBoth (fun d m => d.linkLaunch m die.no))
  | .smv => .next (s.on (fun d => d.smvLaunch))
  | i => .next (s.on (fun d => d.launchNext i.key))

/-! ## Answers -/

/-- The four words of a fetched descriptor. -/
def descWords (l : List DataUnit) : List Nat :=
  l.flatMap (fun u => [u.val.toNat % 2 ^ 64, u.val.toNat / 2 ^ 64])

/-- The fetch of a channel's descriptor has been answered (R358, R359). -/
def Device.smvFetched (d : Device) (c : Nat) : Device :=
  match d.takeAnswer 24 (smvMark c 0) with
  | none => d
  | some (v, d) =>
    let x := { d.chan c with asked := false }
    let d := d.setChan c x
    if d.get (F.SMV_CH_STATUS_STATE c) ≠ 1 then d.smvSettle c
    else if v.status ≠ 0 then d.smvFail c 0 1 v.status
    else
      let x := { x with desc := descWords v.data, row := 0, pos := 0, next := 0, chunks := [] }
      let d := d.setChan c x
      if x.badFormat (d.on (F.SMV_CH_CTL_TRIG_EN c)) then d.smvFail c 0 2 0
      else if x.overlaps then d.smvFail c 0 3 0
      else if bit (x.word 2) 51 then
        let n := d.get (F.SMV_CH_STATUS_TRIG_PENDING c)
        if n = 0 then d.setChanState c 2
        else (d.set (F.SMV_CH_STATUS_TRIG_PENDING c) (n - 1)).setChanState c 3
      else d.setChanState c 3

/-- SMV_DESC_FETCHED (R358, R359, R363). -/
def execSmvDescFetched (ch : Fin 16) (s : State) : Host.Outcome State Fault Refusal :=
  .next (s.on (fun d => d.smvFetched ch.val))

/-- Forget a chunk. -/
def Device.dropChunk (d : Device) (c no : Nat) : Device :=
  let x := d.chan c
  d.setChan c { x with chunks := x.chunks.filter (fun (k : Chunk) => k.no != no) }

/-- The descriptor completes when every chunk's write has its WRR (R361). -/
def Device.smvComplete (d : Device) (c : Nat) : Device :=
  let x := d.chan c
  if d.get (F.SMV_CH_STATUS_STATE c) = 3 && x.chunks.isEmpty && decide (x.rows ≤ x.row) then
    let d := d.when (bit (x.word 2) 49) (fun d => (d.setFieldBit F.SMV_DONE_MAP_CH c).raise Ev.SMV_DONE U.SMV 0)
    if bit (x.word 2) 50 then (d.setAll [(F.SMV_CH_CTL_EN c, 0), (F.SMV_CH_STATUS_STATE c, 0)]).setChan c .idle
    else (d.setAll [(F.SMV_CH_CUR_ADDR c, x.nextA), (F.SMV_CH_BYTES_COUNT c, 0),
      (F.SMV_CH_STATUS_STATE c, 1)]).setChan c .idle
  else d

/-- A read answer of a channel arrives: of the oldest chunk that has one (R360, R362). -/
def Device.smvReadDone (d : Device) (c : Nat) : Device :=
  let x := d.chan c
  let has (k : Chunk) : Bool := (d.init 24).inbox.any (fun v => v.who == k.readMark c)
  match x.chunks.find? has with
  | none => d
  | some k =>
    match d.takeAnswer 24 (k.readMark c) with
    | none => d
    | some (v, d) =>
      if k.dead then (d.dropChunk c k.no).smvSettle c
      else if v.status ≠ 0 then (d.dropChunk c k.no).smvFail c k.no 4 v.status
      else d.setChan c { x with
        chunks := x.chunks.map (fun (y : Chunk) => if y.no = k.no then { y with data := some v.data } else y) }

/-- SMV_CHUNK_READ_DONE (R360, R362). -/
def execSmvChunkReadDone (ch : Fin 16) (s : State) : Host.Outcome State Fault Refusal :=
  .next (s.on (fun d => d.smvReadDone ch.val))

/-- A chunk's write has its WRR: delivered for WRN, consumed by the stop for WR (R266, R361). -/
def Device.smvWritten (d : Device) (c : Nat) (k : Chunk) : Bool :=
  let i := d.init 24
  k.wrote && !i.out.any (fun o => o.who == k.writeMark c) && !i.port.any (fun r => r.who == k.writeMark c)
    && !i.held.any (fun r => r.who == k.writeMark c)

/-- The oldest chunk whose write has its WRR is done (R361, R362). -/
def Device.smvWriteDone (d : Device) (c : Nat) : Device :=
  match (d.chan c).chunks.find? (d.smvWritten c) with
  | none => d
  | some k =>
    let r : Nat × Device := match d.takeAnswer 24 (k.writeMark c) with
      | some (v, d) => (v.status, d)
      | none => (0, d)
    let d := r.2.set (F.SMV_CH_BYTES_COUNT c) (r.2.get (F.SMV_CH_BYTES_COUNT c) + k.len)
    let d := d.dropChunk c k.no
    if k.dead then d.smvSettle c
    else if r.1 ≠ 0 then d.smvFail c k.no 5 r.1
    else (d.smvComplete c).smvSettle c

/-- SMV_CHUNK_WRITE_DONE (R361, R362). -/
def execSmvChunkWriteDone (ch : Fin 16) (s : State) : Host.Outcome State Fault Refusal :=
  .next (s.on (fun d => d.smvWriteDone ch.val))

end Sys2Proof.Machine
end

