-- ==== Sys2Proof/Machine/Registers.lean ====
section
/-! DEFINITION. Reading registers (R6, R7): what each register shows. Most show what is stored for them; those that
the tables mark "live", "from image" or "selected" are computed here from the state that they show. -/

namespace Sys2Proof.Machine

/-! ## Live values, by unit -/

/-- A number whose bits `lo` to `lo + n − 1` of some run are given by `f`, bit `lo` lowest. -/
def bitRun (lo n : Nat) (f : Nat → Bool) : Nat :=
  (List.range n).foldl (fun a i => a + b2n (f (lo + i)) * 2 ^ i) 0

/-- Management unit: MG_SUPPLY (Table 02.11), MG_VCCIO_GOOD (Table 02.13), MG_MCK_MEAS (Table 03.12),
MG_MCK_STATUS.ARMED (R83). -/
def Device.liveMG (d : Device) (o : Nat) : Option Nat :=
  let b := d.board
  if o = 0x040 then
    some (b2n b.vccp + b2n b.vccaux * 2 + b2n b.vccint * 4 + b2n b.vmio * 8 + b2n b.vlane * 16 + b2n b.vlanet * 32
      + b2n b.vccioBad.isEmpty * 64)
  else if o = 0x048 then some (bitRun 0 32 (fun k => !b.vccioBad.contains k))
  else if o = 0x064 then some (if d.clk.osc = Osc.STABLE then d.rd o else 0)
  else if o = 0x070 then
    some (putBits (d.rd o) 3 3 (b2n (d.on F.MG_MCK_LOSS_CTL_EN && d.clk.osc == Osc.STABLE)))
  else none

/-- Is a ring access that MLINK abandoned still outstanding (R75, Table 03.8)? -/
def Device.abandonPending (d : Device) : Bool :=
  (d.init 1).out.any (·.abandoned) || ((d.init 1).port ++ (d.init 1).held).any (fun r => r.who == 1)

/-- Host link: HL_STATUS.ABANDON_PENDING (Table 03.8). -/
def Device.liveHL (d : Device) (o : Nat) : Option Nat :=
  if o = 0 then some (putBits (d.rd F.HL_STATUS_CRC_ON.key) 1 1 (b2n d.abandonPending)) else none

/-- Record memory: the selected page (Table 04.11) and the lifetime counters (R107). -/
def Device.liveORM (d : Device) (o : Nat) : Option Nat :=
  let p := d.page (d.get F.ORM_PAGE_SEL_PAGE)
  if o = 0x010 then some p.info
  else if o = 0x014 then some p.cycles
  else if 0x080 ≤ o ∧ o ≤ 0x088 then some (d.lifeValue ((o - 0x080) / 4))
  else none

/-- Clock unit (Tables 06.6 and 06.7): the oscillator, the loops, machine time (R169), the service domains, and the root
monitor, which reads 0 while the root is gated or the reference has failed (R191). -/
def Device.liveCK (d : Device) (o : Nat) : Option Nat :=
  if o = 0x024 ∧ (d.clk.rootGated ∨ d.clk.osc ≠ Osc.STABLE) then some 0
  else if o = 0x000 then
    some (bits (d.rd F.CK_STATUS_MT_COARSE.key) 15 14 * 2 ^ 14
      + bitRun 1 4 (fun k => d.slave k == Loop.LOCKED) * 2 ^ 8 + b2n d.clk.refselUsed * 2 ^ 7 + d.clk.root * 2 ^ 4
      + d.clk.osc)
  else if o = 0x018 then some (d.clk.mt % 2 ^ 32)
  else if o = 0x01C then some (d.clk.captMt.getD (d.clk.mt / 2 ^ 32 % 2 ^ 32))
  else if o = 0x02C then some d.clk.svcRef
  else none

/-- Slave loop of a die (Table 06.8). -/
def Device.liveSLP (d : Device) (die o : Nat) : Option Nat :=
  if o = 0 then some (b2n (bit d.clk.svcRef (15 + die)) * 16 + d.slave die) else none

/-- Event controller: the selected event (Table 19.2). -/
def Device.liveEV (d : Device) (o : Nat) : Option Nat :=
  if o = 0x034 then some d.evInfo
  else if 0x040 ≤ o ∧ o ≤ 0x05C then
    some (Tab.get (fun _ => (0 : Word)) d.ev.subs (d.get F.EV_SEL_EVENT * 8 + (o - 0x040) / 4)).toNat
  else none

/-- Key store: the selected slot; the attribute word as it is stored, CHECK included (Table 16.8, R440). A
fuse slot that cannot be read (R134) shows free values (assumption log 133). -/
def Device.liveKS (d : Device) (o : Nat) : Option Nat :=
  let c := d.get F.KS_SEL_SLOT
  let k := d.slot c
  if d.fuses.unstable ∧ slotFk c ∧ 0x010 ≤ o ∧ o ≤ 0x018 then
    some (if o = 0x010 then k.use * 256 + Config.freeNat d.free % 5 else Config.freeNat d.free % 2 ^ 32)
  else
  if o = 0x010 then some (k.use * 256 + k.state)
  else if o = 0x014 then some k.attr
  else if o = 0x018 then some k.kcv
  else none

/-- Life cycle: the hash rows, G, and the sensed rows, which LC_DIAG opens (Table 17.12). LC_RAW0 and LC_RAW1 hold LC0, the
lower word first (assumption log 9). A G that cannot be read (R134) is a free value (assumption log 133). -/
def Device.liveLC (d : Device) (o : Nat) : Option Nat :=
  if o = 0x00C then some (d.rowStatus 2 + d.rowStatus 1 * 4 + d.rowStatus 0 * 16)
  else if o = 0x010 then some (if d.fuses.unstable then Config.freeNat d.free % 65 else d.generation)
  else if 0x040 ≤ o ∧ o ≤ 0x04C then
    some (if d.right 7 then (d.fuses.sensed0 + d.fuses.sensed1 * 2 ^ 64) / 2 ^ (32 * ((o - 0x040) / 4)) % 2 ^ 32 else 0)
  else none

/-- Debug authoriser: the device ID, its most significant word first (Table 17.13; assumption log 9); free values where its
row cannot be read (R134; assumption log 133). -/
def Device.liveDA (d : Device) (o : Nat) : Option Nat :=
  if 0x020 ≤ o ∧ o ≤ 0x03C then
    some (if d.fuses.unstable then Config.freeNat d.free % 2 ^ 32
      else d.fuses.devid / 2 ^ (32 * (7 - (o - 0x020) / 4)) % 2 ^ 32)
  else none

/-- Pool group `g`: the banks that starve (R349). -/
def Device.livePL (d : Device) (g o : Nat) : Option Nat :=
  if o = 0x014 then
    some (putBits (d.rd (F.PL_STARVE_STATUS_SEEN (0x010 + g)).key) 3 0
      (bitRun (4 * g) 4 (fun n => d.streamWaits n)))
  else none

/-- Stream mover: the channels that are neither IDLE nor in ERROR (Table 12.8). -/
def Device.liveSMV (d : Device) (o : Nat) : Option Nat :=
  if o = 0 then
    some (bitRun 0 16 (fun c => d.get (F.SMV_CH_STATUS_STATE c) != 0 && d.get (F.SMV_CH_STATUS_STATE c) != 5))
  else none

/-- Crossbar: pads, conflicts and the state of each pin (Table 21.5). -/
def Device.liveIOX (d : Device) (o : Nat) : Option Nat :=
  if o = 0x010 ∨ o = 0x014 then some (pinBits (8 * (o - 0x010)) d.padLevel)
  else if o = 0x018 ∨ o = 0x01C then some (pinBits (8 * (o - 0x018)) (fun p => (d.pinDrive p).2))
  else if 0x020 ≤ o ∧ o ≤ 0x03C then
    let l := d.conflicts
    some (pinBits (8 * (o - 0x020)) (fun c => l.contains c))
  else if 0x100 ≤ o ∧ o < 0x500 ∧ o % 16 = 12 then some (d.pinState ((o - 0x100) / 16))
  else none

/-- Motion front end: the positions (R169, R558). -/
def Device.liveMFE (d : Device) (o : Nat) : Option Nat :=
  if 0x100 ≤ o ∧ o < 0x200 then
    let e := d.encoder ((o - 0x100) / 32)
    if o % 32 = 0x0C then some (e.pos % 2 ^ 32)
    else if o % 32 = 0x10 then some (e.capt.getD (e.pos / 2 ^ 32))
    else none
  else none

/-- The isolation registers of a die's DR or of SPN (Table 10.8). -/
def Device.liveISO (d : Device) (die o : Nat) : Option Nat :=
  let iso (stop : Nat) : Bool := (d.target (stopKey die stop)).iso != 0
  let sel := d.target (stopKey die (d.get (F.DR_ISO_SEL_STOP (if die = 0 then 0x030 else U.DR die))))
  if o = 0x100 then some (bitRun 0 32 iso)
  else if o = 0x104 then some (bitRun 32 32 iso)
  else if o = 0x108 then some (bitRun 64 6 iso + b2n (iso 96) * 64 + b2n (iso 98) * 128)
  else if o = 0x110 then some (b2n (sel.iso != 0) * 2 ^ 31 + sel.iso * 2 ^ 24)
  else if o = 0x114 then some sel.drops
  else none

/-- Zone number `n`: endpoints, block memories and the selected queue controller (Tables 07.6 to 07.9, 08.7 to
08.12). -/
def Device.liveZN (d : Device) (n o : Nat) : Option Nat :=
  let u := zoneUnit n
  let on := d.zoneActive n
  let mem (m : Nat) : MemCfg := if d.memsUp n then d.memCfg n m else .unused
  let q := d.get (F.ZN_QC_SEL_QUEUE u)
  let mode : QueueMode → Nat := fun m => match m with
    | .none => 0 | .sync => 1 | .channelIn => 2 | .channelOut => 3 | .cascadeMember => 4
  if o = 0x084 then
    some (bitRun 0 16 (fun e => on && (d.route n e).isSome) * 65536 + bitRun 0 16 (fun e => d.inUsed n e))
  else if o = 0x088 then
    some (bitRun 0 16 (fun e => !d.oReady n e) * 65536 + bitRun 0 16 (fun e => decide (4 ≤ (d.inEp n e).buf.length)))
  else if o = 0x094 then
    let e := d.get (F.ZN_EP_SEL_EP u)
    some (if d.on (F.ZN_EP_SEL_DIR u) then (d.outEp n e).count else (d.inEp n e).count)
  else if o = 0x200 then some (bitRun 0 32 (fun m => (mem m).lent))
  else if o = 0x204 then some (bitRun 32 16 (fun m => (mem m).lent))
  else if o = 0x208 then some (bitRun 0 32 (fun m => (mem m).ecc))
  else if o = 0x20C then some (bitRun 32 16 (fun m => (mem m).ecc))
  else if o = 0x210 then some (bitRun 0 32 (fun m => (mem m).queue != .none))
  else if o = 0x214 then some (bitRun 32 16 (fun m => (mem m).queue != .none))
  else if o = 0x234 then
    let c := mem q
    some (mode c.queue * 2 ^ 29 + c.depth * 2 ^ 14 + b2n (c.queue == .sync && c.ecc) * 16
      + b2n (c.queue != .none && c.fwft) * 8 + (if c.queue = .none then 0 else c.cascade.val))
  else if o = 0x238 then some ((d.queue n q).pair.2 * 65536 + (d.queue n q).pair.1)
  else if o = 0x23C then some (d.queueStatus n q)
  else none

/-- Lehr of a die: LHR_STATUS (Table 15.4). -/
def Device.liveLHR (d : Device) (die o : Nat) : Option Nat :=
  if o = 0x108 then
    let u := U.GTH die
    let l := d.lehrOf die
    let st := if l.verify.isSome then 2
      else if !d.on (F.LHR_CTL_EN u) then 3
      else if d.scrubs die && !d.fenced die then 1 else 0
    let z := match l.verify with | some (z, _, _, _) => z | none => l.zone
    some (z % 64 * 2 ^ 16 + bits (d.rd (F.LHR_STATUS_BAD_OVF u).key) 10 9 * 2 ^ 9 + b2n l.refetch.isSome * 2 ^ 8 + st)
  else none

/-- Bank `k`: its status, the selected pin, the pads (Table 20.4). -/
def Device.liveIOB (d : Device) (k o : Nat) : Option Nat :=
  let u := bankUnit k
  let p := d.pin k (d.get (F.IOB_PIN_SEL_PIN u))
  let c := p.cfg
  if o = 0x004 then
    some (bits (d.rd (F.IOB_STATUS_VMISMATCH u).key) 8 8 * 2 ^ 8 + b2n (d.serStall k) * 2 ^ 6 + b2n d.calValid * 2 ^ 5
      + b2n (d.bankHeld k) * 2 ^ 4 + d.bankClass k)
  else if o = 0x010 then
    some (c.dir.val * 2 ^ 20 + c.term.val * 2 ^ 16 + b2n c.oeDdr * 2 ^ 12 + c.omode.val * 2 ^ 10 + c.imode.val * 2 ^ 8
      + c.std.val)
  else if o = 0x014 then some (p.outTgt * 2 ^ 16 + p.inTgt)
  else if o = 0x018 then some (b2n p.moving * 2 ^ 31 + p.outNow * 2 ^ 16 + p.inNow)
  else if o = 0x01C then some (bitRun 0 32 (fun i => d.vccioGood k && (d.pin k i).level))
  else if o = 0x020 then some (bitRun 32 16 (fun i => d.vccioGood k && (d.pin k i).level))
  else none

/-- The initiator whose block of Table 10.6 lies in a unit, as its key. -/
def unitInit (u : Nat) : Nat :=
  if u / 512 = 0 then (if 0x010 ≤ u ∧ u ≤ 0x013 then 640 + (u - 0x010 + 1) else u)
  else if u % 512 = 0x060 then stopKey (u / 512) 96
  else stopKey (u / 512) (u % 512)

/-- OUTSTANDING of an initiator block (Table 10.6). -/
def Device.liveInit (d : Device) (u : Nat) : Nat :=
  let x := d.init (unitInit u)
  x.quar.length % 1024 * 2 ^ 22 + x.rob % 64 * 2 ^ 8 + x.tags % 128

/-- The live value of a register, where it has one. -/
def Device.live (d : Device) (u o : Nat) : Option Nat :=
  let die := u / 512
  let n := u % 512
  if o = 0x324 then some (d.liveInit u)
  else if die = 0 then
    if n = 0x000 then d.liveMG o
    else if n = 0x001 then d.liveHL o
    else if n = 0x003 then d.liveORM o
    else if n = 0x004 then d.liveCK o
    else if n = 0x006 then d.liveEV o
    else if n = 0x007 then d.liveKS o
    else if n = 0x009 then d.liveLC o
    else if n = 0x00A then d.liveDA o
    else if 0x010 ≤ n ∧ n ≤ 0x017 then d.livePL (n - 0x010) o
    else if n = 0x018 then d.liveSMV o
    else if n = 0x020 then d.liveIOX o
    else if n = 0x022 then d.liveMFE o
    else if n = 0x030 then d.liveISO 0 o
    else none
  else if n ≤ 0x03F then d.liveZN ((die - 1) * 64 + n) o
  else if 0x050 ≤ n ∧ n ≤ 0x057 then d.liveIOB ((die - 1) * 8 + (n - 0x050)) o
  else if n = 0x060 then d.liveLHR die o
  else if n = 0x063 then (if 0x200 ≤ o ∧ o ≤ 0x210 ∧ d.clk.osc ≠ Osc.STABLE then some 0 else d.liveISO die o)
  else if n = 0x064 then d.liveSLP die o
  else none

/-! ## Reading -/

/-- Can a field be read (Table 00.6)? -/
def Access.readable : Access → Bool
  | .wo => false
  | .woHeld => false
  | _ => true

/-- The bits of a register's readable fields; all others read 0 (R8). -/
def readMask (l : List FieldDesc) : Nat :=
  l.foldl (fun a f => if f.acc.readable then putBits a f.hi f.lo (2 ^ (f.hi + 1 - f.lo) - 1) else a) 0

/-- What a register shows, if there is one at `key`. -/
def Device.regShow (d : Device) (key : Nat) : Option Nat :=
  match regDesc key with
  | none => none
  | some r => some (Nat.land (readMask r.fields) ((d.live (key / 4096) (key % 4096)).getD (d.rd key)))

/-- What a read does beside showing the register: it captures the upper half of a pair, or gives the captured one
once (R169, R558); it takes a random word (R456); a duty is a free value each time (Table 12.7), as is a pad's level
without supply (R533), and what fuses show that cannot be read (R134). -/
def Device.readEffect (d : Device) (key : Nat) : Device :=
  let u := key / 4096
  let o := key % 4096
  if key = F.CK_MT_LO_MT.key then d.mtLoRead
  else if key = F.CK_MT_HI_MT.key then { d with clk := { d.clk with captMt := none } }
  else if u = 0x022 ∧ 0x100 ≤ o ∧ o < 0x200 then
    let k := (o - 0x100) / 32
    if o % 32 = 0x0C then d.posLoRead k
    else if o % 32 = 0x10 then d.setEncoder k { d.encoder k with capt := none }
    else d
  else if u = 0x020 || d.fuses.unstable then d.tick
  else d

/-- A read of a register: its value and the device after it; none where no register is. -/
def Device.readReg (d : Device) (key : Nat) : Option (Nat × Device) :=
  if key = F.TRNG_DATA_DATA.key then
    let d := d.trngRead
    some (d.get F.TRNG_DATA_DATA, d)
  else if 0x010 ≤ key / 4096 ∧ key / 4096 ≤ 0x017 ∧ 0x020 ≤ key % 4096 ∧ key % 4096 ≤ 0x02C ∧ key % 4 = 0 then
    some d.dutyRead
  else (d.regShow key).map (fun v => (v, d.readEffect key))

end Sys2Proof.Machine
end

