-- ==== Sys2Proof/Machine/Thermal.lean ====
section
/-! DEFINITION. Temperature sensors and the thermal trip (chapter 26, R649 to R652). -/

namespace Sys2Proof.Machine

/-- Is a die's core rail good, so that its sensor reads: VCCP for the P-die, VCCINT behind its gate for a fabric die
(R649)? -/
def Device.coreGood (d : Device) (die : Nat) : Bool :=
  if die = 0 then true else d.board.vccint && !d.dormant

/-- What the sensor of a die reads: 0x80 where its core rail is not good. -/
def Device.reading (d : Device) (die : Nat) (t : Nat) : Nat := if d.coreGood die then t % 256 else 0x80

/-- The die with the highest reading (the lowest die of equal ones), and the reading, over the dies that read. -/
def hottest : List (Nat × Nat) → Option (Nat × Nat)
  | [] => none
  | (die, t) :: r =>
    match hottest r with
    | none => if t = 0x80 then none else some (die, t)
    | some (e, u) => if t ≠ 0x80 ∧ signed 8 u ≤ signed 8 t then some (die, t) else some (e, u)

/-- SAFE_HOLD stops a running zone clock after its next edge (Table 26.11). -/
def Device.tripHold (d : Device) (n : Nat) : Device :=
  let st := d.zcState n
  if st = Zc.STOPPED ∨ st = Zc.GATED ∨ st = Zc.HELD then d
  else
    let toRef := if st = Zc.SWITCHING then (d.zone n).clk.toRef else st == Zc.REF
    let div := if st = Zc.SWITCHING then (d.zone n).clk.toDiv else d.get (F.ZN_CLK_STATUS_DIV_NOW (zoneUnit n))
    d.holdZone n .therm toRef div

/-- A zone held for a trip restarts, or goes on being held for something else (R652). -/
def Device.tripRelease (d : Device) (n : Nat) : Device :=
  if d.zcState n = Zc.HELD ∧ (d.zone n).clk.held = some .therm then d.unhold n true else d

/-- The trip action follows TRIP and ACTION: ACTIVE, and the zones held or restarted (Table 26.11). -/
def Device.thermApply (d : Device) : Device :=
  let on := d.on F.MG_THERM_STATUS_TRIP
  let d := d.set F.MG_THERM_STATUS_ACTIVE (b2n (on && d.get F.MG_THERM_CFG_ACTION != 0))
  if d.thermHold then d.each zoneNumbers Device.tripHold else d.each zoneNumbers Device.tripRelease

/-- The sensors are sampled (R649 to R651). -/
def Device.tempSample (d : Device) (t : Nat → Nat) : Device :=
  let r (die : Nat) : Nat := d.reading die (t die)
  let hot := (hottest ([0, 1, 2, 3, 4].map (fun k => (k, r k)))).getD (0, 0x80)
  let d := d.setAll [(F.MG_TEMP0_P, r 0), (F.MG_TEMP0_F1, r 1), (F.MG_TEMP0_F2, r 2), (F.MG_TEMP0_F3, r 3),
    (F.MG_TEMP1_F4, r 4), (F.MG_TEMP1_MAX, hot.2), (F.MG_TEMP1_MAXDIE, hot.1)]
  let m := signed 8 hot.2
  let w := signed 8 (d.get F.MG_THERM_CFG_WARN)
  let d :=
    if w ≤ m then
      if d.warnOn then d
      else ({ d.set F.MG_THERM_STATUS_WARN 1 with warnOn := true }).raise Ev.THERM_WARN U.MG 0
    else if m < w - 5 then { d with warnOn := false }
    else d
  if 118 ≤ m ∧ !d.on F.MG_THERM_STATUS_TRIP then
    ((d.set F.MG_THERM_STATUS_TRIP 1).raise Ev.THERM_TRIP U.MG 0).thermApply
  else d

/-- TEMP_SAMPLE (R649 to R651): the operands are the temperatures at the five dies' sensors, signed °C. -/
def execTempSample (p f1 f2 f3 f4 : BitVec 8) (s : State) : Host.Outcome State Fault Refusal :=
  .next (s.on (fun d => d.tempSample (fun k =>
    if k = 0 then p.toNat else if k = 1 then f1.toNat else if k = 2 then f2.toNat
    else if k = 3 then f3.toNat else f4.toNat)))

/-- TRIP is cleared (R652). -/
def Device.tripClear (d : Device) : Device := (d.set F.MG_THERM_STATUS_TRIP 0).thermApply

/-- THERM_TRIP_CLEAR (R652): a write of 1 to TRIP. -/
def execThermTripClear (s : State) : Host.Outcome State Fault Refusal := .next (s.on (fun d => d.onMck Device.tripClear))

end Sys2Proof.Machine
end

