-- ==== Sys2Proof/Machine/RegWrite.lean ====
section
/-! DEFINITION. Writing registers (R7, R12, R13, R628 to R631, R655): a write is stored field by field under the access
codes; what a write of certain bits starts is the same operation that the command's own row starts. -/

namespace Sys2Proof.Machine

/-! ## Refusals of a write -/

/-- Where the unit of a register records its refusals (Table 25.2); none for a unit that refuses nothing. -/
def refuseKey (u o : Nat) : Option Nat :=
  let n := u % 512
  let at_ (k : Nat) : Option Nat := some (u * 4096 + k)
  if u / 512 = 0 then
    if n = 0x000 then at_ 0x088 else if n = 0x001 then at_ 0x014 else if n = 0x002 then at_ 0x020
    else if n = 0x003 then at_ 0x008 else if n = 0x004 then at_ 0x030 else if n = 0x005 then at_ 0x018
    else if n = 0x006 then at_ 0x068 else if n = 0x007 then at_ 0x008 else if n = 0x009 then at_ 0x050
    else if n = 0x00A then at_ 0x00C else if 0x010 ≤ n ∧ n ≤ 0x017 then at_ 0x030 else if n = 0x018 then at_ 0x004
    else if n = 0x020 ∨ n = 0x021 ∨ n = 0x022 then at_ 0x008 else if n = 0x023 then at_ 0x004
    else if n = 0x024 then at_ 0x064 else if n = 0x030 then at_ 0x124
    else if 0x031 ≤ n ∧ n ≤ 0x034 then at_ 0x010 else none
  else if n ≤ 0x03F then at_ 0x118
  else if n ≤ 0x045 then at_ 0x008
  else if 0x050 ≤ n ∧ n ≤ 0x057 then at_ 0x008
  else if n = 0x060 then (if 0x100 ≤ o ∧ o < 0x300 then at_ 0x16C else at_ 0x02C)
  else if n = 0x063 then at_ 0x124
  else if n = 0x065 then at_ 0x018
  else none

/-- The index of a refused field of a register (R631, Table 25.2): the offset ÷ 4, but the slot asked for in KS_SEL, the
port, the lane, or 0xFF for a bank. -/
def refuseIndex (u o v : Nat) : Nat :=
  if u = 0x007 then v % 32
  else if u = 0x021 then (o - 0x100) / 0x40 % 8
  else if u / 512 ≠ 0 ∧ 0x040 ≤ u % 512 ∧ u % 512 ≤ 0x045 then (o - 0x100) / 0x80 % 4
  else if u / 512 ≠ 0 ∧ 0x050 ≤ u % 512 ∧ u % 512 ≤ 0x057 then 0xFF
  else o / 4 % 256

/-- A value that no refusal leaves in a *_REFUSE register. -/
def noRefusal : Nat := 0x10000

/-- Perform `f`, and say whether the unit with the *_REFUSE register at `k` refused anything in it. -/
def Device.attempt (d : Device) (s : Stores) (k : Nat) (f : Device → Stores → Device × Stores) :
    (Device × Stores) × Bool :=
  let old := d.rd k
  let r := f (d.wr k noRefusal) s
  if r.1.rd k = noRefusal then ((r.1.wr k old, r.2), false) else (r, true)

/-! ## Storing fields (Table 00.6) -/

/-- What a write does to one field: the register afterwards, and the reason where the field is refused. Bits of `skip`
are judged elsewhere. -/
def storeField (lock : Bool) (skip reg v : Nat) (f : FieldDesc) : Nat × Option Reason :=
  let o := bits reg f.hi f.lo
  let x := bits v f.hi f.lo
  let put (y : Nat) : Nat × Option Reason := (putBits reg f.hi f.lo y, none)
  let store : Nat × Option Reason :=
    if bit skip f.lo ∨ x = o then (reg, none)
    else if f.acc = .rwl ∧ lock then (reg, some .busy)
    else if f.ok.isEmpty ∨ f.ok.any (fun r => decide (r.1 ≤ x) && decide (x ≤ r.2)) then put x
    else (reg, some f.why)
  match f.acc with
  | .rw | .rws | .rwl | .woHeld => store
  | .w1c => put (o - Nat.land o x)
  | .w1cAll => if x = 0 then (reg, none) else put 0
  | .ro | .wo | .w1s | .own => (reg, none)

/-- A write to the fields of a register: its value afterwards, and the most significant refused field with its
reason. -/
def storeFields (lock : Bool) (skip v : Nat) (l : List FieldDesc) (reg : Nat) : Nat × Option (Nat × Reason) :=
  l.foldl (fun (a : Nat × Option (Nat × Reason)) f =>
    let r := storeField lock skip a.1 v f
    (r.1, match r.2, a.2 with
      | some why, some (hi, w) => if hi < f.hi then some (f.hi, why) else some (hi, w)
      | some why, none => some (f.hi, why)
      | none, x => x)) (reg, none)

/-- A write of which a bit `b` starts `act`, after its other fields are stored (R628, R655): one refusal is recorded for
the write, with the reason of its most significant refused field. -/
def Device.writeWith (d : Device) (s : Stores) (u o v : Nat) (lock : Bool) (skip b : Nat)
    (act : Device → Stores → Device × Stores) : (Device × Stores) × Bool :=
  let key := u * 4096 + o
  let l := match regDesc key with | some r => r.fields | none => []
  let st := storeFields lock skip v l (d.rd key)
  let d := if l.isEmpty then d else d.wr key st.1
  match refuseKey u o with
  | none => (act d s, false)
  | some k =>
    match st.2 with
    | none => d.attempt s k act
    | some (hi, why) =>
      let r := d.attempt s k act
      if r.2 ∧ hi < b then r
      else if r.2 then ((d.refuse k why (refuseIndex u o v), s), true)
      else ((r.1.1.refuse k why (refuseIndex u o v), r.1.2), true)

/-- A write that a unit's own operation judges whole. -/
def Device.writeOwn (d : Device) (s : Stores) (u o : Nat) (act : Device → Stores → Device × Stores) :
    (Device × Stores) × Bool :=
  match refuseKey u o with
  | none => (act d s, false)
  | some k => d.attempt s k act

/-- An operation that leaves the memories alone. -/
def onDev (f : Device → Device) (d : Device) (s : Stores) : Device × Stores := (f d, s)

/-- The action of a bit that starts something where it is written as 1. -/
def onBit (v b : Nat) (f : Device → Device) (d : Device) (s : Stores) : Device × Stores :=
  if bit v b then (f d, s) else (d, s)

/-- A write with nothing but fields. -/
def Device.writePlain (d : Device) (s : Stores) (u o v : Nat) (lock : Bool) : (Device × Stores) × Bool :=
  d.writeWith s u o v lock 0 0 (fun d s => (d, s))

/-! ## P-die units -/

/-- Management unit. The limits of MG_MCK_HZ differ in their reasons (Table 03.11). -/
def Device.writeMG (d : Device) (s : Stores) (o v : Nat) : (Device × Stores) × Bool :=
  if o = 0x060 then
    d.writeOwn s U.MG o (onDev (fun d =>
      let hz := bits v 25 0
      if hz = d.get F.MG_MCK_HZ_HZ then d
      else if hz < 1000000 then d.refuseAt F.MG_REFUSE_REASON .mckTooSlow F.MG_MCK_HZ_HZ
      else if 50000000 < hz then d.refuseAt F.MG_REFUSE_REASON .reservedValue F.MG_MCK_HZ_HZ
      else d.set F.MG_MCK_HZ_HZ hz))
  else if o = 0x0A8 ∨ o = 0x0AC then d.writeWith s U.MG o v false 0 0 (onDev Device.thermApply)
  else d.writePlain s U.MG o v false

/-- Reset unit. -/
def Device.writeRS (d : Device) (s : Stores) (o v : Nat) : (Device × Stores) × Bool :=
  if o = 0x000 then d.writeWith s U.RS o v false 0 0 (onBit v 0 (fun d => d.rsCommand (bits v 31 24)))
  else if o = 0x018 then d.writeOwn s U.RS o (onDev (fun d => d.wdogKick (bits v 15 0)))
  else d.writePlain s U.RS o v false

/-- Clock unit: RELOCK before OSC_RESTART where both are written, one refusal for both (R655). -/
def Device.writeCK (d : Device) (s : Stores) (o v : Nat) : (Device × Stores) × Bool :=
  if o = 0x008 then
    let a := d.writeOwn s U.CK o (onBit v 0 Device.relockCommand)
    let b := a.1.1.writeOwn a.1.2 U.CK o (onBit v 1 Device.oscRestart)
    if a.2 ∧ b.2 then d.writeOwn s U.CK o (onBit v 1 Device.oscRestart) else (b.1, a.2 || b.2)
  else d.writePlain s U.CK o v false

/-- Events 31, 94 and 95 have no bit (R507); nor have 2, 3, 10 and 11 in EV_WAKE (R515). -/
def eventBits (o v : Nat) : Nat :=
  let k := o / 4 % 4
  let v := if k = 0 then clearBit v 31 else if k = 2 then clearBit (clearBit v 30) 31 else v
  if o = 0x020 then [2, 3, 10, 11].foldl clearBit v else v

/-- Event controller. -/
def Device.writeEV (d : Device) (s : Stores) (who o v : Nat) : (Device × Stores) × Bool :=
  if o < 0x010 then d.writeOwn s U.EV o (onDev (fun d => d.evClear (v * 2 ^ (8 * o))))
  else if o < 0x020 then d.writeWith s U.EV o (eventBits o v) false 0 0 (onDev Device.mirqUpdate)
  else if o < 0x030 then d.writePlain s U.EV o (eventBits o v) false
  else if 0x040 ≤ o ∧ o < 0x060 then
    let subs := Tab.set (fun _ => 0) d.ev.subs (d.get F.EV_SEL_EVENT * 8 + (o - 0x040) / 4) (BitVec.ofNat 32 v)
    (({ d with ev := { d.ev with subs := subs } }, s), false)
  else if o = 0x064 then d.writeOwn s U.EV o (onDev (fun d => d.userRaise who (bits v 4 0)))
  else d.writePlain s U.EV o v false

/-- Power unit: PW_DOZE_MASK and the retention selections change only in RUN (Table 18.5, R491). -/
def Device.writePW (d : Device) (s : Stores) (o v : Nat) : (Device × Stores) × Bool :=
  if o = 0x000 then d.writeWith s U.PW o v false 0 31 (onBit v 31 (fun d => d.pwCommand (bits v 2 0)))
  else if 0x020 ≤ o ∧ o ≤ 0x0A0 then
    d.writeOwn s U.PW o (onDev (fun d =>
      let key := U.PW * 4096 + o
      if d.rd key = v then d
      else if d.get F.PW_STATUS_STATE = 0 ∧ (o < 0x040 ∨ d.get F.PW_STATUS_PHASE = 0) then d.wr key v
      else d.refuse F.PW_REFUSE_REASON.key .busy (o / 4)))
  else d.writePlain s U.PW o v false

/-- Key store. A write with GO is judged whole (R444). -/
def Device.writeKS (d : Device) (s : Stores) (o v : Nat) : (Device × Stores) × Bool :=
  if o = 0x000 ∧ bit v 31 then
    d.writeOwn s U.KS o (onDev (fun d =>
      (d.ksGo (bits v 27 24) (bits v 4 0) (bit v 16) (bits v 12 8)).holdersEnd.settle))
  else d.writePlain s U.KS o v false

/-- Battery gauge. -/
def Device.writeBG (d : Device) (s : Stores) (o v : Nat) : (Device × Stores) × Bool :=
  if o = 0x004 ∨ o = 0x010 then d.writeOwn s U.BG o (onDev (fun d => d.gaugeWrite (decide (o = 0x010)) v))
  else d.writePlain s U.BG o v false

/-- Life cycle unit. -/
def Device.writeLC (d : Device) (s : Stores) (o v : Nat) : (Device × Stores) × Bool :=
  if o = 0x004 then
    d.writeWith s U.LC o v false 0 31 (onBit v 31 (fun d =>
      (d.lcCommand (bits v 27 24) (bits v 23 16) (bits v 2 0)).holdersEnd.settle))
  else d.writePlain s U.LC o v false

/-- Debug authoriser: GO submits what OP names, and DA_BUF is zeroed after it; a reserved OP is refused (R13) and submits
nothing. -/
def Device.writeDA (d : Device) (s : Stores) (o v : Nat) : (Device × Stores) × Bool :=
  if o = 0x004 then
    d.writeWith s U.DA o v false 0 31 (onBit v 31 (fun d =>
      let op := bits v 27 24
      (if op = 1 then d.daCert (d.daBuf 48) else if op = 2 then d.daChallenge
        else if op = 3 then d.daResponse (d.daBuf 36) else d).clearDaBuf))
  else d.writePlain s U.DA o v false

/-- The fields of an ECC test block (R337, R339). -/
def Device.writeECC (d : Device) (s : Stores) (u o v : Nat) : (Device × Stores) × Bool :=
  let b := eccBlock u
  let r := u * 4096 + o - b
  let idx := o / 4 % 256
  let raw := bit (d.rd (b + 4)) 0
  let arm := bit (d.rd (b + 0x1C)) 0
  let sel := if u < 512 then bits v 1 0 else bits v 5 0
  if r = 0 then
    d.writeOwn s u o (onDev (fun d =>
      if sel = d.rd b then d
      else if raw || arm then d.refuse (eccRefuse u) .busy idx
      else if 47 < sel then d.refuse (eccRefuse u) .reservedValue idx
      else d.wr b sel))
  else if r = 4 then
    d.writeOwn s u o (onDev (fun d =>
      let n := (u / 512 - 1) * 64 + u % 64
      if bit v 0 == raw then d
      else if !bit v 0 then d.wr (b + 4) 0
      else if !d.eccMode u || (decide (512 ≤ u) && !(d.memsUp n && (d.memCfg n (d.rd b)).lent)) then
        d.refuse (eccRefuse u) .reservedValue idx
      else d.wr (b + 4) 1))
  else if 0x10 ≤ r ∧ r ≤ 0x18 then
    d.writeOwn s u o (onDev (fun d =>
      let v := if r = 0x18 then v % 256 else v
      if v = d.rd (b + r) then d else if arm then d.refuse (eccRefuse u) .busy idx else d.wr (b + r) v))
  else if r = 0x1C then d.writeWith s u o v false 0 0 (onBit v 0 (fun d => d.eccArm u))
  else d.writePlain s u o v false

/-- Pool group `g`. -/
def Device.writePL (d : Device) (s : Stores) (g o v : Nat) : (Device × Stores) × Bool :=
  let u := U.PL g
  if o < 0x010 then d.writeOwn s u o (onDev (fun d => d.ownerWrite (4 * g + o / 4) (bits v 4 0)))
  else if 0x080 ≤ o ∧ o ≤ 0x09C then d.writeECC s u o v
  else if o = 0x0C0 then
    d.writeWith s u o v (d.on (F.PL_LINK_CTL_EN u)) 1 0 (onDev (fun d => d.linkEnable (g + 1) (bit v 0)))
  else d.writePlain s u o v false

/-- Stream mover: EN of a channel (R364). -/
def Device.writeSMV (d : Device) (s : Stores) (o v : Nat) : (Device × Stores) × Bool :=
  let c := (o - 0x100) / 0x20
  if 0x100 ≤ o ∧ o < 0x300 then
    let lock := d.on (F.SMV_CH_CTL_EN c)
    if o % 0x20 = 0 then
      d.writeWith s U.SMV o v lock 1 0 (onDev (fun d =>
        if bit v 0 then d.smvEnable c else if lock then d.smvDisable c else d))
    else d.writePlain s U.SMV o v lock
  else d.writePlain s U.SMV o v false

/-- Crossbar, written by the initiator with key `who` (R541 to R546, R552). -/
def Device.writeIOX (d : Device) (s : Stores) (who o v : Nat) : (Device × Stores) × Bool :=
  let p := (o - 0x100) / 16
  d.writeOwn s U.IOX o (onDev (fun d =>
    if o = 0x000 then d.forceSafe who (bit v 0)
    else if 0x040 ≤ o ∧ o < 0x060 then d.groupWrite who ((o - 0x040) / 4) (bit v 8) (bit v 0)
    else if 0x100 ≤ o ∧ o < 0x500 then
      if o % 16 = 0 then d.pinOwnerWrite who p (bits v 13 12) (bits v 11 0)
      else if o % 16 = 4 then d.pinCfgWrite who p v
      else if o % 16 = 8 then d.pinMapWrite who p (bits v 23 16) (bits v 15 8) (bits v 7 0)
      else d
    else if 0x500 ≤ o ∧ o < 0x600 then
      d.genWrite who ((o - 0x500) / 4) (bits v 16 16) (bits v 13 13) (bits v 12 12) (bits v 8 8) (bits v 5 0)
    else if o = 0x600 then d.eviCfgWrite who v
    else d))

/-- MFE_STILL_CFG: EN needs a DWELL of at least 1, which DWELL keeps while EN is 1 (R12, R569). -/
def Device.stillCfgWrite (d : Device) (v : Nat) : Device :=
  let was := d.on F.MFE_STILL_CFG_EN
  let bad := bits v 23 16 = 0
  let d := d.setAll [(F.MFE_STILL_CFG_ENC, bits v 26 24), (F.MFE_STILL_CFG_THRESH, bits v 15 0)]
  let d := if bad ∧ was ∧ bit v 31 then d else d.set F.MFE_STILL_CFG_DWELL (bits v 23 16)
  if bad ∧ bit v 31 then d.refuseAt F.MFE_REFUSE_REASON .reservedValue F.MFE_STILL_CFG_EN
  else d.set F.MFE_STILL_CFG_EN (bits v 31 31)

/-- Motion front end. -/
def Device.writeMFE (d : Device) (s : Stores) (o v : Nat) : (Device × Stores) × Bool :=
  let e := (o - 0x100) / 0x20
  let m := (o - 0x200) / 0x40
  if o = 0x000 then d.writeOwn s U.MFE o (fun d s => ((d.stillCfgWrite v).stillUpdate s, s))
  else if 0x100 ≤ o ∧ o < 0x200 then
    let lock := d.on (F.MFE_ENC_CFG_EN e)
    if o % 0x20 = 0 then
      d.writeWith s U.MFE o v lock 1 0 (fun d s =>
        if bit v 0 then d.encEnable s e else if lock then (d.encDisable e, s) else (d, s))
    else d.writePlain s U.MFE o v lock
  else if 0x200 ≤ o ∧ o < 0x400 then
    let lock := d.on (F.MFE_MK_CFG_EN m)
    if o % 0x40 = 0 then
      d.writeWith s U.MFE o v lock 1 0 (onDev (fun d =>
        if bit v 0 then d.markEnable m else if lock then d.markDisable m else d))
    else d.writePlain s U.MFE o v lock
  else d.writePlain s U.MFE o v false

/-- Cam engines. CAM_OUT_EN claims and releases pins (Table 21.2). -/
def Device.writeCAM (d : Device) (s : Stores) (o v : Nat) : (Device × Stores) × Bool :=
  let e := (o - 0x400) / 0x40
  if o = 0x000 then d.writeWith s U.CAM o v false 0 0 (onDev Device.ioxFollow)
  else if 0x400 ≤ o ∧ o < 0x800 then
    let lock := d.on (F.CAM_ENG_CTL_EN e)
    if o % 0x40 = 0 then
      d.writeWith s U.CAM o v lock 1 0 (fun d s =>
        if bit v 0 then d.camEnable s e else if lock then (d.camDisable e, s) else (d, s))
    else d.writePlain s U.CAM o v lock
  else d.writePlain s U.CAM o v false

/-- Identity reader. -/
def Device.writeIDR (d : Device) (s : Stores) (o v : Nat) : (Device × Stores) × Bool :=
  let k := (o - 0x100) / 0x40
  if o = 0x000 then
    d.writeWith s U.IDR o v false 0 31 (onBit v 31 (fun d =>
      d.idCommand (bits v 27 24) (bits v 18 16) (bits v 13 8) (bits v 7 0)))
  else if 0x100 ≤ o ∧ o < 0x300 ∧ o % 0x40 = 0 then
    d.writeWith s U.IDR o v (d.on (F.IDR_PORT_CFG_EN k)) 1 0 (onDev (fun d =>
      if bit v 0 then d.idEnable k else d.idDisable k))
  else d.writePlain s U.IDR o v false

/-- Setting GAF_CTL.EN (R412). -/
def Device.gafEnable (d : Device) (en : Bool) : Device :=
  if !en then d.set F.GAF_CTL_EN 0
  else if d.on F.GAF_CTL_EN then d
  else if d.lcDead then d.refuseAt F.GAF_REFUSE_REASON .lcForbids F.GAF_CTL_EN
  else d.set F.GAF_CTL_EN 1

/-- Gaffer. -/
def Device.writeGAF (d : Device) (s : Stores) (o v : Nat) : (Device × Stores) × Bool :=
  if o = 0x000 then d.writeWith s U.GAF o v (d.on F.GAF_CTL_EN) 1 0 (onDev (fun d => d.gafEnable (bit v 0)))
  else if o = 0x004 then
    d.writeWith s U.GAF o v false 0 31 (fun d s => if bit v 31 then (d.gafCommand s (bits v 27 24), s) else (d, s))
  else d.writePlain s U.GAF o v false

/-- DR_RING_CTL.CLR clears the counters at 0x004 to 0x00C and DR_ERR_LAST.VALID (Tables 09.10, 09.11). -/
def Device.ringClear (d : Device) (u : Nat) : Device :=
  (d.each [4, 8, 12] (fun d o => d.wr (u * 4096 + o) 0)).wr (u * 4096 + 0x18)
    (clearBit (d.rd (u * 4096 + 0x18)) 31)

/-- The ring unit of a die: DR, or SPN for die 0. -/
def Device.writeDR (d : Device) (s : Stores) (die o v : Nat) : (Device × Stores) × Bool :=
  let u := ringUnit die
  if o = 0x000 then d.writeWith s u o v false 0 0 (onBit v 0 (fun d => d.ringClear u))
  else if o = 0x10C then
    d.writeOwn s u o (onDev (fun d =>
      if stopExists die (bits v 6 0) then d.wr (u * 4096 + o) (bits v 6 0)
      else d.refuse (u * 4096 + 0x124) .reservedValue (o / 4)))
  else if o = 0x118 then d.writeOwn s u o (onBit v 0 (fun d => d.isoReleaseCommand die))
  else if o = 0x218 ∧ die ≠ 0 then d.writeWith s u o v false 0 31 (onBit v 31 (fun d => d.paceClear die))
  else d.writePlain s u o v false

/-- A write to a register of P-die unit `u`. The page buffer is refused while a commit runs (R101), with that commit's page as
the index (assumption log 132). -/
def Device.writeP (d : Device) (s : Stores) (who u o v : Nat) : (Device × Stores) × Bool :=
  if 0x300 ≤ o ∧ o ≤ 0x32C ∧ (u ≤ 0x018 ∨ u = 0x023 ∨ u = 0x024) ∧ u ≠ 0x021 then d.writePlain s u o v false
  else if u = 0x000 then d.writeMG s o v
  else if u = 0x002 then d.writeRS s o v
  else if u = 0x003 ∧ o = 0x000 then
    d.writeWith s u o v false 0 31 (onBit v 31 (fun d => d.ormCommit (bits v 7 0)))
  else if u = 0x003 ∧ 0x040 ≤ o ∧ o < 0x080 ∧ d.orm.write.isSome then
    d.writeOwn s u o (onDev (fun d => d.refuse F.ORM_REFUSE_REASON.key .busy (d.get F.ORM_STATUS_LAST_PAGE)))
  else if u = 0x004 then d.writeCK s o v
  else if u = 0x005 then d.writePW s o v
  else if u = 0x006 then d.writeEV s who o v
  else if u = 0x007 then d.writeKS s o v
  else if u = 0x008 then d.writeBG s o v
  else if u = 0x009 then d.writeLC s o v
  else if u = 0x00A then d.writeDA s o v
  else if u = 0x00B ∧ o = 0x000 then d.writeWith s u o v false 0 1 (onBit v 1 Device.trngRestart)
  else if 0x010 ≤ u ∧ u ≤ 0x017 then d.writePL s (u - 0x010) o v
  else if u = 0x018 then d.writeSMV s o v
  else if u = 0x020 then d.writeIOX s who o v
  else if u = 0x021 then d.writeIDR s o v
  else if u = 0x022 then d.writeMFE s o v
  else if u = 0x023 then d.writeCAM s o v
  else if u = 0x024 then d.writeGAF s o v
  else if u = 0x025 ∧ o = 0x000 then d.writeOwn s u o (onBit v 0 Device.culletClear)
  else if u = 0x025 ∧ o = 0x008 then d.writeOwn s u o (onDev (fun d => d.culletSelect (bits v 7 0)))
  else if u = 0x030 then d.writeDR s 0 o v
  else if 0x031 ≤ u ∧ u ≤ 0x034 ∧ o = 0x000 then d.writeOwn s u o (onBit v 0 (fun d => d.brClear (u - 0x030)))
  else d.writePlain s u o v false

/-! ## Fabric-die units -/

/-- Zone number `n`. -/
def Device.writeZN (d : Device) (s : Stores) (n o v : Nat) : (Device × Stores) × Bool :=
  let u := zoneUnit n
  let q := d.get (F.ZN_QC_SEL_QUEUE u)
  if o = 0x100 then
    d.writeWith s u o v false 0 17 (fun d s =>
      if bit v 16 || bit v 17 then (d.clkCommand n (bit v 16) (bit v 17) (bit v 13) (bits v 12 0), s) else (d, s))
  else if o = 0x238 then d.writeOwn s u o (onDev (fun d => d.thresholds n q (bits v 14 0) (bits v 30 16)))
  else if o = 0x23C then
    let x := d.queue n q
    ((d.setQueue n q { x with ovf := x.ovf && !bit v 4, unf := x.unf && !bit v 5 }, s), false)
  else if 0x280 ≤ o ∧ o ≤ 0x29C then d.writeECC s u o v
  else if o = 0x340 then d.writeWith s u o v false 0 31 (onBit v 31 (fun d => d.resetGo n (bit v 0)))
  else d.writePlain s u o v false

/-- Lane quad `k`. While a sweep runs, LQ_LANEl_RX is not written (R624). -/
def Device.writeLQ (d : Device) (s : Stores) (k o v : Nat) : (Device × Stores) × Bool :=
  let u := quadUnit k
  let l := (o - 0x100) / 0x80
  let r := o % 0x80
  if o < 0x100 ∨ 0x300 ≤ o then d.writePlain s u o v false
  else
    let lock := d.laneOn k l
    if r = 0x00 then
      d.writeWith s u o v lock 1 0 (onDev (fun d =>
        if bit v 0 then d.laneEnable k l else if lock then d.laneDisable k l else d))
    else if r = 0x0C ∧ d.on (F.LQ_LANE_SWEEP_CTL_GO u l) then
      d.writeOwn s u o (onDev (fun d => d.refuse (F.LQ_REFUSE_REASON u).key .busy l))
    else if r = 0x30 then d.writeWith s u o v false 0 31 (onBit v 31 (fun d => d.sweepGo k l))
    else d.writePlain s u o v lock

/-- Bank `k`: VCCIO and OWNER are locked while EN is 1; a new owner's image configures the pins (R517, R527). -/
def Device.writeIOB (d : Device) (s : Stores) (k o v : Nat) : (Device × Stores) × Bool :=
  let u := bankUnit k
  if o = 0x000 then
    let lock := d.on (F.IOB_CTL_EN u)
    let owner := d.get (F.IOB_CTL_OWNER u)
    d.writeWith s u o v lock 1 0 (onDev (fun d =>
      let d := if d.get (F.IOB_CTL_OWNER u) = owner then d else d.bankImport k
      if bit v 0 then d.bankEnable k else d.set (F.IOB_CTL_EN u) 0))
  else if o = 0x014 then ((d.dlyWrite k (bits v 24 16) (bits v 8 0), s), false)
  else d.writePlain s u o v false

/-- LHR_CTL.EN is written to 1: a reserved policy stops it (R12, Table 15.2). -/
def Device.lehrEnable (d : Device) (die : Nat) (en : Bool) : Device :=
  let u := U.GTH die
  let f := F.LHR_CTL_EN u
  if !en then d.set f 0
  else if d.on f then d
  else if (List.range 64).any (fun z => d.lehrPolicy die z == 3) then
    d.refuseAt (F.LHR_REFUSE_REASON u) .reservedValue f
  else d.set f 1

/-- Gather and Lehr of a die. A write of GTH_CMD with GO is judged whole (R386); the directory that STAGE_ENTRY is judged by
is the one last read. -/
def Device.writeGTH (d : Device) (s : Stores) (die o v : Nat) : (Device × Stores) × Bool :=
  let u := U.GTH die
  if o = 0x000 ∧ bit v 31 then
    d.writeOwn s u o (onDev (fun d => (d.gthCommand die (bits v 27 24) (bits v 10 0) (d.cmpOf die).dir).settle))
  else if o = 0x100 then d.writeWith s u o v false 1 0 (onDev (fun d => d.lehrEnable die (bit v 0)))
  else if 0x120 ≤ o ∧ o ≤ 0x12C then d.writePlain s u o v (d.on (F.LHR_CTL_EN u))
  else if o = 0x130 then
    d.writeWith s u o v false 0 31 (fun d s =>
      if bit v 31 then ((d.lhrCommand s die (bits v 27 24) (bits v 5 0) (bit v 8)).settle, s) else (d, s))
  else d.writePlain s u o v false

/-- The configuration port of a die. REINIT reads 1 until the flash has been read (CMP_REINIT). -/
def Device.writeCMP (d : Device) (s : Stores) (die o v : Nat) : (Device × Stores) × Bool :=
  let u := U.CMP die
  if o = 0x004 then
    d.writeOwn s u o (onBit v 0 (fun d =>
      if d.cmpInUse die then d.refuseAt (F.CMP_REFUSE_REASON u) .busy (F.CMP_CMD_REINIT u)
      else d.set (F.CMP_CMD_REINIT u) 1))
  else if o = 0x00C then d.writeOwn s u o (onDev (fun d => d.ptOpen die (bit v 0)))
  else if o = 0x010 then
    d.writeWith s u o v false 0 31 (onBit v 31 (fun d => d.ptGo die))
  else d.writePlain s u o v false

/-- A write to a register of fabric-die unit `u`. -/
def Device.writeF (d : Device) (s : Stores) (u o v : Nat) : (Device × Stores) × Bool :=
  let die := u / 512
  let n := u % 512
  if n ≤ 0x03F then d.writeZN s ((die - 1) * 64 + n) o v
  else if n ≤ 0x045 then d.writeLQ s ((die - 1) * 6 + (n - 0x040)) o v
  else if 0x050 ≤ n ∧ n ≤ 0x057 then d.writeIOB s ((die - 1) * 8 + (n - 0x050)) o v
  else if n = 0x060 then d.writeGTH s die o v
  else if n = 0x063 then d.writeDR s die o v
  else if n = 0x065 then d.writeCMP s die o v
  else d.writePlain s u o v false

/-- A write of `v` to the register at `key` by the initiator with key `who`: the device and memories after it, and
whether any field was refused; none where no register is. -/
def Device.regWrite (d : Device) (s : Stores) (who key v : Nat) : Option ((Device × Stores) × Bool) :=
  let u := key / 4096
  let o := key % 4096
  match regDesc key with
  | none => none
  | some _ => some (if u / 512 = 0 then d.writeP s who u o v else d.writeF s u o v)

/-- REGISTER_WRITE (R7, R628 to R632, R655): a write to a register of any unit. A P-die unit takes it in an MCK cycle
(R79, R628), a fabric-die unit while its die is not fenced and has room for a refusal (R632). Where no register is,
nothing is written (R69, R257). -/
def execRegisterWrite (who : Initiator) (unit : BitVec 12) (off : BitVec 12) (value : Word) (s : State) :
    Host.Outcome State Fault Refusal :=
  .next (s.onBoth (fun d m =>
    let die := unit.toNat / 512
    let open_ := if die = 0 then d.board.mck else !d.refusalsFull die && !d.fenced die
    if open_ then
      match d.regWrite m who.key (unit.toNat * 4096 + off.toNat) value.toNat with
      | some r => r.1
      | none => (d, m)
    else (d, m)))

end Sys2Proof.Machine
end

