-- ==== Sys2Proof/Machine/RingServe.lean ====
section
/-! DEFINITION. What a stop does with a request that it has taken (chapter 09): the windows of Table 09.2, register
windows (R257, R258), lent memories (R233 to R235), frame slots (R382, R424), set-point injection (R579), the event
port (R513) and a zone's user target port, whose answer the zone's logic gives (an operand). The WRR of a WR or MSG is
sent when the request is served, since it carries the status of the write (DEDUCED from R257, assumption log 14). -/

namespace Sys2Proof

/-- The status code of a zone's answer (Table 09.7). -/
def PortStatus.code : PortStatus → Nat
  | .ok => 0 | .error => 1 | .poisoned => 4 | .refused => 5

end Sys2Proof

namespace Sys2Proof.Machine

/-! ## Register windows (R256 to R258) -/

/-- The unit whose registers lie at offset `a` of a stop, if the offset is in a register window (Table 09.2). -/
def windowUnit (key a : Nat) : Option Nat :=
  let die := key / 128
  let stop := key % 128
  let n := a / 4096
  if die = 0 ∧ stop = 0 then
    (if n = 0 ∨ (2 ≤ n ∧ n ≤ 5) ∨ (8 ≤ n ∧ n ≤ 11) then some n else none)
  else if die ≠ 0 ∧ stop = 98 then
    (if (0x050 ≤ n ∧ n ≤ 0x057) ∨ (0x062 ≤ n ∧ n ≤ 0x065) then some (die * 512 + n) else none)
  else if n = 0 then some (stopUnit key)
  else none

/-- The register at offset `a` of a stop's windows, if there is one. -/
def windowReg (key a : Nat) : Option Nat :=
  match windowUnit key a with
  | some u => (regDesc (u * 4096 + a % 4096)).map (fun _ => u * 4096 + a % 4096)
  | none => none

/-- The words that a request covers: word `w` of the transfer, by its place (R257). -/
def Packet.coversWord (p : Packet) (w : Nat) : Bool := p.len != 1 || bits p.be (4 * w + 3) (4 * w) == 15

/-- Are the byte enables whole aligned groups of 4 (R257)? -/
def Packet.wholeWords (p : Packet) : Bool :=
  p.len != 1 || (List.range 4).all (fun w => bits p.be (4 * w + 3) (4 * w) == 0 || bits p.be (4 * w + 3) (4 * w) == 15)

/-- Word `w` of a packet's data, and its poison. -/
def Packet.word (p : Packet) (w : Nat) : Nat × Bool :=
  match p.data[w / 4]? with
  | some u => (u.val.toNat / 2 ^ (32 * (w % 4)) % 2 ^ 32, u.poison)
  | none => (0, false)

/-- Data units from words, the first at the lowest address (Table 09.3). -/
def wordUnits : List Nat → List DataUnit
  | a :: b :: c :: e :: r =>
    { val := BitVec.ofNat 128 (a + b * 2 ^ 32 + c * 2 ^ 64 + e * 2 ^ 96), poison := false, corrected := false } :: wordUnits r
  | _ => []

/-- Registers are read in ascending address order (R257); a word that the request does not cover reads 0. -/
def Device.readWords (d : Device) (key : Nat) (p : Packet) : List Nat → Device × List Nat
  | [] => (d, [])
  | w :: r =>
    let x : Nat × Device :=
      if p.coversWord w then
        match windowReg key (p.off + 4 * w) with
        | some k => (d.readReg k).getD (0, d)
        | none => (0, d)
      else (0, d)
    let t := Device.readWords x.2 key p r
    (t.1, x.1 :: t.2)

/-- Registers are written in ascending address order; the status is the first that is not 0 (R257). A poisoned write is
not performed and has status 4 (Table 11.4). -/
def Device.writeWords (d : Device) (s : Stores) (key : Nat) (p : Packet) : List Nat → (Device × Stores) × Nat
  | [] => ((d, s), 0)
  | w :: r =>
    if !p.coversWord w then Device.writeWords d s key p r
    else if (p.word w).2 then ((Device.writeWords d s key p r).1, 4)
    else
      match windowReg key (p.off + 4 * w) with
      | none => Device.writeWords d s key p r
      | some k =>
        match d.regWrite s p.src k (p.word w).1 with
        | none => Device.writeWords d s key p r
        | some x =>
          let t := Device.writeWords x.1.1 x.1.2 key p r
          (t.1, if x.2 then 5 else t.2)

/-- POISON_CONSUMED and its record for a register write that carries poison (R332). -/
def Device.poisonedWrite (d : Device) (u : Nat) (p : Packet) : Device :=
  d.poisonConsumed u (stopUnit p.src) p.tag p.cls p.addr true

/-- Does a word of a zone stop's register window lie in ZN_EP_INJ (R579)? -/
def injWord (key a : Nat) : Bool := isZoneKey key && decide (0xF00 ≤ a) && decide (a < 0xF80)

/-- A write to ZN_EP_INJk (R579): only a single 8-byte write from P-die stop 35; its token goes to inbound endpoint k of a
released zone (R145) unless the active plane connects that, or a queue holds it, or its buffer is full. -/
def Device.injectToken (d : Device) (s : Stores) (key : Nat) (p : Packet) : (Device × Stores) × Nat :=
  let n := keyZone key
  let w := if p.be = 0xFF00 then 2 else 0
  let ep := (p.off + 4 * w - 0xF00) / 8 % 16
  if p.src ≠ 35 ∨ p.len ≠ 1 ∨ (p.be ≠ 0x00FF ∧ p.be ≠ 0xFF00) then ((d, s), 5)
  else if d.inUsed n ep || (d.endpointQueue n ep .channelIn).isSome then ((d, s), 1)
  else if !d.inRoom n ep || (d.zone n).stage == .none then ((d, s), 5)
  else (d.landAt s n ep (BitVec.ofNat 36 ((p.word w).1 + (p.word (w + 1)).1 % 16 * 2 ^ 32)) false, 0)

/-- The status of a command that no table gives for the window that it names: a target error or a refusal, the model
leaves open which (Table 09.7, assumption log 49). -/
def Device.openStatus (d : Device) (s : Stores) : (Device × Stores) × (Nat × List DataUnit) :=
  ((d.tick, s), (if d.freeBool then 5 else 1, []))

/-- A request to a register window (R257, R258, R265): its status and data. -/
def Device.serveRegs (d : Device) (s : Stores) (key : Nat) (p : Packet) : (Device × Stores) × (Nat × List DataUnit) :=
  let ws := List.range (4 * p.len)
  let covered := ws.filter p.coversWord
  if p.atomic then ((d, s), (5, []))
  else if p.cmd ≠ Cmd.RD ∧ p.cmd ≠ Cmd.WR ∧ p.cmd ≠ Cmd.WRN then d.openStatus s
  else if !p.wholeWords || covered.any (fun w => (windowReg key (p.off + 4 * w)).isNone) then ((d, s), (1, []))
  else if p.cmd = Cmd.RD then
    let r := d.readWords key p ws
    ((r.1, s), (0, wordUnits r.2))
  else if (key = 0 ∨ key = 7) ∧ p.src ≠ 1 then ((d, s), (5, []))
  else
    let d := if covered.any (fun w => (p.word w).2) then d.poisonedWrite ((windowUnit key p.off).getD 0) p else d
    if covered.any (fun w => injWord key (p.off + 4 * w)) then
      let r := if covered.any (fun w => (p.word w).2) then ((d, s), 4) else d.injectToken s key p
      (r.1, (r.2, []))
    else
      let r := d.writeWords s key p ws
      (r.1, (r.2, []))

/-! ## Lent memories (R233 to R235, R334, R335, Table 08.3) -/

/-- Is port B of a memory lent to the ring? -/
def Device.memLent (d : Device) (n m : Nat) : Bool := decide (m < 48) && d.memsUp n && (d.memCfg n m).lent

/-- A row's 8 data bytes replaced under 8 byte enables, in a memory without ECC: the ninth bits stay (R233). -/
def mergeRow (row : Code72) (v en : Nat) : Code72 := cwToRow (cwOf (mergeBytes 8 (rowData row) v en) (rowCheck row))

/-- The ring reads a row: its data and judgement (R232, R335). -/
def Device.lentRead (d : Device) (s : Stores) (n m row : Nat) : Device × Nat × Judged :=
  if (d.memCfg n m).ecc && !d.rawMode (zoneUnit n) m then d.bmEccRead s n m row portRing
  else (d, rowData (s.row (bmAddr n m row)), .good)

/-- A row is stored under 8 byte enables (R326, R328, R334): the device, the memories and the status. -/
def Device.lentStore (d : Device) (s : Stores) (n m row v en chk : Nat) (poison : Bool) : (Device × Stores) × Nat :=
  let u := zoneUnit n
  let a := bmAddr n m row
  if en % 256 = 0 then ((d, s), 0)
  else if !(d.memCfg n m).ecc then ((d, s.setRow a (mergeRow (s.row a) v en)), 0)
  else if d.rawMode u m then
    let f := d.flipApply u m (cwOf (mergeBytes 8 (rowData (s.row a)) v en) chk)
    ((f.1, s.setRow a (cwToRow f.2)), 0)
  else if en % 256 = 255 then (d.bmEccWrite s n m row v poison, 0)
  else
    match d.bmEccRead s n m row portRing with
    | (d, old, j) =>
      if j = .uncorrectable then ((d, s), 4) else (d.bmEccWrite s n m row (mergeBytes 8 old v en) poison, 0)

/-- The ring writes a row under 8 byte enables: through the arbiter that it shares with port A (R228). -/
def Device.lentWrite (d : Device) (s : Stores) (n m row v en chk : Nat) (poison : Bool) : (Device × Stores) × Nat :=
  let r := d.lentStore s n m row v en chk poison
  if en % 256 ≠ 0 ∧ r.2 = 0 then ((r.1.1.arbiterWrite n m true, r.1.2), 0) else r

/-- Data units read from row `row` on. -/
def Device.lentReadUnits (d : Device) (s : Stores) (n m row be : Nat) : Nat → Device × List DataUnit
  | 0 => (d, [])
  | k + 1 =>
    let r0 : Device × Nat × Judged := if be % 256 = 0 then (d, 0, .good) else d.lentRead s n m row
    let r1 : Device × Nat × Judged :=
      if be / 256 % 256 = 0 then (r0.1, 0, .good) else r0.1.lentRead s n m (row + 1)
    let d := r1.1
    let u := zoneUnit n
    let d := if (d.memCfg n m).ecc && d.rawMode u m then
        d.setAll [(F.ZN_ECC_RAW_CHK_LO u, rowCheck (s.row (bmAddr n m row))),
          (F.ZN_ECC_RAW_CHK_HI u, rowCheck (s.row (bmAddr n m (row + 1))))]
      else d
    let unit : DataUnit :=
      { val := BitVec.ofNat 128 (r0.2.1 % 2 ^ 64 + r1.2.1 % 2 ^ 64 * 2 ^ 64)
        poison := decide (r0.2.2 = .uncorrectable) || decide (r1.2.2 = .uncorrectable)
        corrected := decide (r0.2.2 = .corrected) || decide (r1.2.2 = .corrected) }
    let q := Device.lentReadUnits d s n m (row + 2) be k
    (q.1, unit :: q.2)

/-- Data units written from row `row` on: the first status that is not 0. -/
def Device.lentWriteUnits (d : Device) (s : Stores) (n m row be : Nat) : List DataUnit → (Device × Stores) × Nat
  | [] => ((d, s), 0)
  | x :: r =>
    let u := zoneUnit n
    let w0 := d.lentWrite s n m row (x.val.toNat % 2 ^ 64) (be % 256) (d.get (F.ZN_ECC_CHK_LO u)) x.poison
    let w1 := w0.1.1.lentWrite w0.1.2 n m (row + 1) (x.val.toNat / 2 ^ 64) (be / 256 % 256)
      (d.get (F.ZN_ECC_CHK_HI u)) x.poison
    let q := Device.lentWriteUnits w1.1.1 w1.1.2 n m (row + 2) be r
    (q.1, if w0.2 ≠ 0 then w0.2 else if w1.2 ≠ 0 then w1.2 else q.2)

/-- A request to the window of memory `m` of zone number `n` (Table 08.3). -/
def Device.serveLent (d : Device) (s : Stores) (n m : Nat) (p : Packet) : (Device × Stores) × (Nat × List DataUnit) :=
  let row := p.off % 4096 / 8
  if !d.memLent n m then ((d, s), (1, []))
  else if p.cmd = Cmd.RD then
    let r := d.lentReadUnits s n m row p.be p.len
    ((r.1, s), (0, r.2))
  else if p.cmd = Cmd.WR ∨ p.cmd = Cmd.WRN then
    let r := d.lentWriteUnits s n m row p.be p.data
    (r.1, (r.2, []))
  else ((d, s), (5, []))

/-! ## Frame slots (R382, R424) -/

/-- The 20 words of a CFG packet's data units. -/
def cfgWords (l : List DataUnit) : List Nat := l.flatMap (fun u => [u.val.toNat % 2 ^ 64, u.val.toNat / 2 ^ 64])

/-- A unit of 16 bytes, byte 0 lowest. -/
def byteUnit (l : List Nat) : DataUnit :=
  { val := BitVec.ofNat 128 (l.foldr (fun b a => b % 256 + 256 * a) 0), poison := false, corrected := false }

/-- A frame as the 12 units of a raw read (R424). -/
def Frame.units (f : Frame) : List DataUnit :=
  (List.range 10).map (fun k =>
    ({ val := BitVec.ofNat 128 (cwData (f.word (2 * k)) + cwData (f.word (2 * k + 1)) * 2 ^ 64),
       poison := false, corrected := false } : DataUnit))
  ++ [byteUnit ((List.range 16).map (fun k => cwCheck (f.word k))),
    byteUnit ((List.range 4).map (fun k => cwCheck (f.word (16 + k))) ++ [f.crc.toNat / 256, f.crc.toNat % 256])]

/-- A request to the frame slots of zone number `n`: CFG and frame reads from stop 96 of its die; status 5 for every
other source (Table 09.2). -/
def Device.serveFrame (d : Device) (s : Stores) (n : Nat) (p : Packet) : (Device × Stores) × (Nat × List DataUnit) :=
  let fa := p.off % 2 ^ 24 / 256
  let k := n * 65536 + fa
  if p.src ≠ stopKey (n / 64 + 1) 96 then ((d, s), (5, []))
  else if p.off % 256 ≠ 0 ∨ frameCount (fa % 16) ≤ fa / 16 % 2048 then ((d, s), (1, []))
  else if p.cmd = Cmd.CFG then ((d, s.setFrame k (frameStore (cfgWords p.data))), (0, []))
  else if p.cmd = Cmd.RD ∧ p.len ≤ 12 then ((d, s), (0, (s.frame k).units.take p.len))
  else if p.atomic then ((d, s), (5, []))
  else if p.cmd = Cmd.RD then ((d, s), (1, []))
  else d.openStatus s

/-! ## Serving -/

/-- The data units that the answer to a request carries when its status is 0. -/
def Packet.answerLen (p : Packet) : Nat := if p.cmd = Cmd.RD then p.len else if p.atomic then 1 else 0

/-- A request to a zone stop (Table 09.2). None where the zone's logic cannot answer now, or gives no answer of this
shape. -/
def Device.serveZone (d : Device) (s : Stores) (key : Nat) (p : Packet) (reply : PortReply) :
    Option ((Device × Stores) × (Nat × List DataUnit)) :=
  let n := keyZone key
  if p.cmd = Cmd.CFG ∧ p.src ≠ stopKey (n / 64 + 1) 96 then some ((d, s), (5, []))
  else if 2 ^ 32 ≤ p.off then
    if p.cmd = Cmd.CFG then some (d.openStatus s)
    else if !d.logicRuns n then none
    else if reply.status = .ok ∧ reply.data.length ≠ p.answerLen then none
    else some ((d, s), (reply.status.code, if reply.status = .ok then reply.data else []))
  else if 0x2000000 ≤ p.off ∧ p.off < 0x3000000 then some (d.serveFrame s n p)
  else if 0x1000000 ≤ p.off ∧ p.off < 0x2000000 then some (d.serveLent s n ((p.off - 0x1000000) / 4096) p)
  else if (windowUnit key p.off).isNone then some ((d, s), (1, []))
  else if d.refusalsFull (key / 128) ∧ (p.cmd = Cmd.WR ∨ p.cmd = Cmd.WRN) then none
  else some (d.serveRegs s key p)

/-- A request to any other stop: a register window, which on the P-die advances with MCK (R79), or a bank window of the
pool (R343). -/
def Device.serveOther (d : Device) (s : Stores) (key : Nat) (p : Packet) :
    Option ((Device × Stores) × (Nat × List DataUnit)) :=
  if 16 ≤ key ∧ key ≤ 23 ∧ (poolBank p.addr).isSome then some (d.poolRing s p)
  else if (windowUnit key p.off).isNone then some ((d, s), (1, []))
  else if key < 128 ∧ !d.board.mck then none
  else if d.refusalsFull (key / 128) ∧ (p.cmd = Cmd.WR ∨ p.cmd = Cmd.WRN) then none
  else some (d.serveRegs s key p)

/-- May a stop perform its `k`-th taken request `p` now? A port of a bank performs its requests in arrival order, and the
stream port only while no word of the compute port is pending (R347, R351); a compute request waits for nothing else, since
only its answer has a turn. Any other request waits as `Packet.after` says, and atomics are performed in arrival order
(R284), which at a bank is the order in which it performs accesses (R351). -/
def Device.mayServe (d : Device) (key k : Nat) (p : Packet) : Bool :=
  let t := d.target key
  let before := t.taken.take k
  let mine (e : Packet) : Bool := e.bankWords && poolBank p.addr == poolBank e.addr
  let pending (e : Packet) : Bool := mine e && d.ringCompute e && !t.finished e
  if decide (16 ≤ key) && decide (key ≤ 23) && p.bankWords then
    if d.ringCompute p then !before.any pending
    else !before.any (fun e => p.after e || (mine e && !d.ringCompute e)) && !t.taken.any pending
  else !before.any (fun e => p.after e || (p.atomic && e.atomic))

/-- A bank has performed a request whose answer must wait for its turn (R281). -/
def Device.keepAnswer (d : Device) (key : Nat) (p : Packet) (status : Nat) (data : List DataUnit) : Device :=
  let t := d.target key
  d.setTarget key { t with performed := t.performed ++ [{ req := p, done := p.poolWords, data := data, status := status }] }

/-- A stop's `k`-th taken request is a stream request of a bank, and some words of it have been performed or a compute
access now falls between its words (R348): the next words are performed, and with the last it is answered. -/
def Device.servePart (d : Device) (s : Stores) (key k words : Nat) (p : Packet) : Option (Device × Stores) :=
  match poolBank p.addr with
  | none => none
  | some n =>
    let old := (d.target key).parts.find? (fun x => x.req == p)
    if !(decide (16 ≤ key) && decide (key ≤ 23)) || d.ringCompute p || (words == 0 && old.isNone)
        || !(p.cmd == Cmd.RD || p.cmd == Cmd.WR || p.cmd == Cmd.WRN) then none
    else
      let x := old.getD { req := p, done := 0, data := [], status := 0 }
      let left := p.poolWords - x.done
      let part := words != 0 && decide (words < left)
      let r := (d.starveEnd n).poolRun s n x (if part then words else left)
      let d := r.1.1
      let t := d.target key
      let rest := t.parts.filter (fun y => y.req != p)
      if part then some (d.setTarget key { t with parts := r.2 :: rest }, r.1.2)
      else
        let d := d.setTarget key { t with taken := t.taken.eraseIdx k, parts := rest }
        some ((d.respond p r.2.status r.2.data).settleTurn key, r.1.2)

/-- A stop performs and answers its `k`-th taken request, if that is a `cmd` and may be served now. A malformed request
performs nothing and is answered with status 6 (R267). -/
def Device.serveAt (d : Device) (s : Stores) (key k cmd : Nat) (reply : PortReply) : Device × Stores :=
  let t := d.target key
  match t.taken[k]? with
  | none => (d, s)
  | some p =>
    if p.cmd ≠ cmd ∨ t.finished p ∨ !d.mayServe key k p then (d, s)
    else
      let t' := { t with taken := t.taken.eraseIdx k }
      if p.malformed then ((((d.setTarget key t').malformedCount key p).respond p 6 []).settleTurn key, s)
      else match d.servePart s key k reply.words p with
      | some r => r
      | none =>
        let wait := (t.taken.take k).any p.after
        let e := if wait then d else d.setTarget key t'
        match (if isZoneKey key then e.serveZone s key p reply else e.serveOther s key p) with
        | none => (d, s)
        | some r => if wait then (r.1.1.keepAnswer key p r.2.1 r.2.2, r.1.2) else ((r.1.1.respond p r.2.1 r.2.2).settleTurn key, r.1.2)

/-- A zone stop passes an EVT to the event port (R513); any other stop has none and discards it, as a malformed one is
(R267). -/
def Device.serveEvt (d : Device) (key k : Nat) (near : Bool) : Device :=
  let t := d.target key
  match t.taken[k]? with
  | none => d
  | some p =>
    if p.cmd ≠ Cmd.EVT ∨ (t.taken.take k).any (fun e => e.cmd == Cmd.EVT) then d
    else
      let d := (d.setTarget key { t with taken := t.taken.eraseIdx k }).settleTurn key
      if p.malformed then d.malformedCount key p
      else match isZoneKey key, p.data with
        | true, u :: _ => d.eventArrive (keyZone key) (raiseOf u) near
        | _, _ => d

/-! ## Commands -/

/-- What the rows RING_RD to RING_MSG share: the stop `t` serves its `k`-th taken request if its command is `cmd`. -/
def serveCmd (cmd : Nat) (t : StopId) (k : Nat) (reply : PortReply) (s : State) : Host.Outcome State Fault Refusal :=
  .next (s.onBoth (fun d m => if stopExists t.die.val t.stop.val then d.serveAt m t.key k cmd reply else (d, m)))

/-- RING_RD (R233, R256, R257, R329, R343, R424). -/
def execRingRd (t : StopId) (k : Nat) (reply : PortReply) (s : State) : Host.Outcome State Fault Refusal :=
  serveCmd Cmd.RD t k reply s

/-- RING_WR (R256 to R258, R266, R326 to R328, R332). -/
def execRingWr (t : StopId) (k : Nat) (reply : PortReply) (s : State) : Host.Outcome State Fault Refusal :=
  serveCmd Cmd.WR t k reply s

/-- RING_WRN (R256 to R258, R266, R326 to R328, R332). -/
def execRingWrn (t : StopId) (k : Nat) (reply : PortReply) (s : State) : Host.Outcome State Fault Refusal :=
  serveCmd Cmd.WRN t k reply s

/-- RING_AADD (R265, R284, R327, R332, R350). -/
def execRingAadd (t : StopId) (k : Nat) (reply : PortReply) (s : State) : Host.Outcome State Fault Refusal :=
  serveCmd Cmd.AADD t k reply s

/-- RING_ASWP (R265, R284, R327, R332, R350). -/
def execRingAswp (t : StopId) (k : Nat) (reply : PortReply) (s : State) : Host.Outcome State Fault Refusal :=
  serveCmd Cmd.ASWP t k reply s

/-- RING_CFG (R382). -/
def execRingCfg (t : StopId) (k : Nat) (reply : PortReply) (s : State) : Host.Outcome State Fault Refusal :=
  serveCmd Cmd.CFG t k reply s

/-- RING_MSG (R266). -/
def execRingMsg (t : StopId) (k : Nat) (reply : PortReply) (s : State) : Host.Outcome State Fault Refusal :=
  serveCmd Cmd.MSG t k reply s

/-- RING_EVT (R513): `near` as the EVT lands within 0.1 ns of a zone edge. -/
def execRingEvt (t : StopId) (k : Nat) (near : Bool) (s : State) : Host.Outcome State Fault Refusal :=
  .next (s.on (fun d => if stopExists t.die.val t.stop.val then d.serveEvt t.key k near else d))

/-- Is a taken request a write to ZN_EP_INJ? -/
def Packet.injects (p : Packet) : Bool :=
  (p.cmd == Cmd.WR || p.cmd == Cmd.WRN) && injWord p.dst p.off

/-- ZN_EP_INJ_WRITE (R579): the zone's stop serves the oldest taken write to ZN_EP_INJk. -/
def execZnEpInjWrite (z : ZoneId) (s : State) : Host.Outcome State Fault Refusal :=
  .next (s.onBoth (fun d m =>
    let key := zoneStop z.no
    let l := (d.target key).taken
    match l.findIdx? Packet.injects with
    | some k => d.serveAt m key k (match l[k]? with | some p => p.cmd | none => 0) { status := .ok, data := [], words := 0 }
    | none => (d, m)))

end Sys2Proof.Machine
end

