-- ==== Sys2Proof/Machine/Mlink.lean ====
section
/-! DEFINITION. MLINK frames (chapter 03): a frame is one command, with its fields as they were received and its CRC; the
reply is kept from its ready token on. Wait tokens are timing and do not show. -/

namespace Sys2Proof.Machine

/-! ## Replies (Table 03.3, Table 03.5) -/

namespace Ml
abbrev OK : Nat := 0x00
abbrev CRC_BAD : Nat := 0x01
abbrev CMD_UNKNOWN : Nat := 0x02
abbrev ADDR_INVALID : Nat := 0x03
abbrev COUNT_INVALID : Nat := 0x04
abbrev REFUSED : Nat := 0x05
abbrev UNCORRECTABLE : Nat := 0x06
end Ml

/-- The reply with a status and data, from its ready token (R61, R63). -/
def replyBytes (status : Nat) (data : List Byte) : List Byte :=
  let b := BitVec.ofNat 8 status :: (if status = Ml.OK then data else [])
  BitVec.ofNat 8 0xA5 :: (b ++ beBytes 2 (crc16 b))

/-- The device sends a reply, which completes the frame: LAST_STATUS (Table 03.8). -/
def Device.mlReply (d : Device) (status : Nat) (data : List Byte) : Device :=
  { d with ml := { d.ml with access := none, reply := replyBytes status data } }.set F.HL_STATUS_LAST_STATUS status

/-! ## Receiving a frame (R57, R61 to R64, R75, R133) -/

/-- MCS_N rises before the ready token of a ring access: it is abandoned (R75, R298). One that has not been launched
keeps its place in the port; one that R76 still holds back is never issued. -/
def Device.mlAbandon (d : Device) : Device :=
  match d.ml.access with
  | none => d
  | some a =>
    let d := { d with ml := { d.ml with access := none } }.inc F.HL_ABANDON_CNT_COUNT
    if a.waiting then d
    else
      let x := d.init 1
      let own (r : PortReq) : PortReq := if r.cmd = Cmd.FENCE then r else { r with who := 1 }
      let left := x.inbox.length
      let d := d.setInit 1 { x with
        out := x.out.map (fun (o : Outst) => { o with abandoned := true }),
        port := x.port.map own, held := x.held.map own, inbox := [] }
      d.each (List.range left) (fun d _ => d.inc (initField 1 F.INIT_ABANDON_CNT_COUNT))

/-- The bytes of a request before its CRC (Table 03.2). -/
def frameHead (cmd addr count : Nat) (payload : List Byte) : List Byte :=
  BitVec.ofNat 8 cmd :: (beBytes 4 addr ++ beBytes 2 count ++ payload)

/-- MCS_N after a frame's command: low while the frame's ring access waits for its response, or where an accepted
RS_CMD.DEVICE waits for the frame's end; else high again (R56, R57; assumption log 127). -/
def Device.csAfter (d : Device) : Device :=
  { d with board := { d.board with mcsLow := d.ml.access.isSome || d.rst.cmdReset } }

/-- A request has arrived whole (R64): ignored before step 4 of start-up (R133) and without MCK (R79); answered with
CRC_BAD where the CRC fails and is checked (R62); else acted on. A frame after one that carried an accepted
RS_CMD.DEVICE falls into the reset that began as MCS_N rose between them (R117, R133). -/
def Device.frame (d : Device) (s : Stores) (cmd addr count : Nat) (payload : List Byte) (crc : BitVec 16)
    (act : Device → Stores → Device × Stores) : Device × Stores :=
  if !d.rst.served || !d.board.mck then (d, s)
  else if d.rst.cmdReset then d.commandReset s
  else
    let d := d.mlAbandon
    if d.orm.opt.crcOn && crc16 (frameHead cmd addr count payload) != crc.toNat then
      ((d.inc F.HL_CRC_ERR_CNT_COUNT).mlReply Ml.CRC_BAD [] |>.csAfter, s)
    else
      let r := act d s
      (r.1.csAfter, r.2)

/-! ## Words of P-die registers and the ORM window (R64 to R69) -/

/-- The big-endian words of a payload (R55). -/
def payloadWords : List Byte → List Nat
  | a :: b :: c :: e :: r => beNat [a, b, c, e] :: payloadWords r
  | _ => []

/-- Is an address one of a P-die register (Table 03.6, R69)? The address of a register is its key. -/
def mlReg (a : Nat) : Bool := decide (a < 0x35000) && decide (a % 4 = 0) && (regDesc a).isSome

/-- Is an address one of the ORM window (Table 03.6)? -/
def mlOrm (a : Nat) : Bool := decide (0x100000 ≤ a) && decide (a < 0x104000) && decide (a % 4 = 0)

/-- Is a count one that RD and WR allow (Table 03.4)? -/
def mlCount (n : Nat) : Bool := decide (4 ≤ n) && decide (n ≤ 256) && decide (n % 4 = 0)

/-- Do the words of an access all hold registers of one unit (R69)? -/
def mlRegs (a n : Nat) : Bool :=
  decide (a / 4096 = (a + n - 4) / 4096) && (List.range (n / 4)).all (fun k => mlReg (a + 4 * k))

/-- Registers are read in ascending order, each word most significant byte first (R55). -/
def Device.mlRead (d : Device) (a : Nat) : Nat → Device × List Byte
  | 0 => (d, [])
  | k + 1 =>
    let r := (d.readReg a).getD (0, d)
    let t := Device.mlRead r.2 (a + 4) k
    (t.1, beBytes 4 r.1 ++ t.2)

/-- Registers are written in ascending order; was any word refused (R65)? -/
def Device.mlWrite (d : Device) (s : Stores) (a : Nat) : List Nat → (Device × Stores) × Bool
  | [] => ((d, s), false)
  | v :: r =>
    match d.regWrite s 1 a v with
    | none => Device.mlWrite d s (a + 4) r
    | some x =>
      let t := Device.mlWrite x.1.1 x.1.2 (a + 4) r
      (t.1, x.2 || t.2)

/-- The bytes of words of the ORM window; none where one holds an uncorrectable group (R66). -/
def Device.ormBytes (d : Device) (o : Nat) : Nat → Option (List Byte)
  | 0 => some []
  | k + 1 =>
    match d.ormWord o, Device.ormBytes d (o + 4) k with
    | some w, some r => some (w.map (BitVec.ofNat 8) ++ r)
    | _, _ => none

/-- Does one of `k` words of the ORM window from offset `o` on lie in a TORN group that no write is going on in (R66, R89)? -/
def Device.ormTorn (d : Device) (o k : Nat) : Bool :=
  (List.range k).any (fun i =>
    let a := o + 4 * i
    !d.ormWriting (a / 64 % 256) && groupStatus ((d.page (a / 64 % 256)).group (a % 64 / 8)) == 3)

/-- RD (R64, R66, R69). An uncorrectable word is poison that MLINK consumes (Table 11.4; what its record holds is assumption
log 138). -/
def Device.mlRd (d : Device) (a n : Nat) : Device :=
  if !(mlReg a || mlOrm a) then d.mlReply Ml.ADDR_INVALID []
  else if !mlCount n then d.mlReply Ml.COUNT_INVALID []
  else if mlOrm a then
    if 0x104000 < a + n then d.mlReply Ml.ADDR_INVALID []
    else match d.ormBytes (a - 0x100000) (n / 4) with
      | some b => d.mlReply Ml.OK b
      | none =>
        let d := if d.ormTorn (a - 0x100000) (n / 4) then d.poisonConsumed U.HL U.ORM 0 0 0 false else d
        d.mlReply Ml.UNCORRECTABLE []
  else if !mlRegs a n then d.mlReply Ml.ADDR_INVALID []
  else
    let r := d.mlRead a (n / 4)
    r.1.mlReply Ml.OK r.2

/-- WR (R65, R67, R69). -/
def Device.mlWr (d : Device) (s : Stores) (a n : Nat) (payload : List Byte) : Device × Stores :=
  if !mlReg a then (d.mlReply Ml.ADDR_INVALID [], s)
  else if !mlCount n then (d.mlReply Ml.COUNT_INVALID [], s)
  else if !mlRegs a n then (d.mlReply Ml.ADDR_INVALID [], s)
  else
    let r := d.mlWrite s a (payloadWords payload)
    (r.1.1.mlReply (if r.2 then Ml.REFUSED else Ml.OK) [], r.1.2)

/-! ## The ring window (R70 to R76, R656) -/

/-- What is wrong with a ring access (R71), if anything is. -/
def ringAccessStatus (a n : Nat) : Option Nat :=
  if a < 2 ^ 31 ∨ a % 4 ≠ 0 then some Ml.ADDR_INVALID
  else if n < 4 ∨ 256 < n ∨ n % 4 ≠ 0 ∨ (16 < n ∧ n % 16 ≠ 0) then some Ml.COUNT_INVALID
  else if n ≤ 16 then (if 16 < a % 16 + n then some Ml.ADDR_INVALID else none)
  else if a % 16 ≠ 0 ∨ 256 < a % 256 + n then some Ml.ADDR_INVALID
  else none

/-- The ring address that a window address maps to (R70). -/
def Device.windowAddr (d : Device) (a : Nat) : Nat := d.get F.HL_WIN_BASE_BASE * 2 ^ 31 + a % 2 ^ 31

/-- Data units from the words of a write, whose first word lies `o` bytes into the first unit (R656). -/
def linkUnits (o : Nat) (words : List Nat) : List DataUnit :=
  wordUnits (List.replicate (o / 4) 0 ++ words ++ List.replicate ((16 - (o + 4 * words.length) % 16) % 16 / 4) 0)

/-- The words of a read's data units, `n` bytes from `o` bytes into the first (R656). -/
def linkWords (o n : Nat) (data : List DataUnit) : List Nat :=
  ((data.flatMap (fun u => (List.range 4).map (fun k => u.val.toNat / 2 ^ (32 * k) % 2 ^ 32))).drop (o / 4)).take (n / 4)

/-- A ring access is issued at stop 1 in class 3 (R71, R72). -/
def Device.linkIssue (d : Device) (a : LinkAccess) : Device :=
  let o := a.addr % 16
  let single := decide (a.count ≤ 16)
  d.issue 1 (if a.write then Cmd.WRN else Cmd.RD) 3 (d.windowAddr (a.addr - o)) (if single then 1 else a.count / 16)
    (if single then (2 ^ a.count - 1) * 2 ^ o else 0xFFFF) (if a.write then linkUnits o a.words else []) 0

/-- RDW or WRW: a valid access is issued, or waits while an abandoned one is outstanding (R76). -/
def Device.mlRing (d : Device) (write : Bool) (a n : Nat) (payload : List Byte) : Device :=
  match ringAccessStatus a n with
  | some st => d.mlReply st []
  | none =>
    let x : LinkAccess := { write := write, addr := a, count := n, words := payloadWords payload, waiting := d.abandonPending }
    let d := { d with ml := { d.ml with access := some x } }
    if d.abandonPending then d else d.linkIssue x

/-- The ring response is present at stop 1: the reply (R73, R74); an access that waited is issued once no abandoned one
is outstanding (R76). -/
def Device.mlRingReply (d : Device) : Device :=
  match d.ml.access with
  | none => d
  | some a =>
    if a.waiting then
      if d.abandonPending then d
      else { d with ml := { d.ml with access := some { a with waiting := false } } }.linkIssue a
    else match d.takeAnswer 1 0 with
      | none => d
      | some (v, d) =>
        if v.status ≠ 0 then d.mlReply (0x10 + v.status) []
        else d.mlReply Ml.OK (if a.write then []
          else (linkWords (a.addr % 16) a.count v.data).flatMap (fun w => beBytes 4 w))

/-! ## STAT and EVT (R64, R68) -/

/-- STAT: HL_STATUS, then MG_SUPPLY (Table 03.4). -/
def Device.mlStat (d : Device) (a n : Nat) : Device :=
  if a ≠ 0 then d.mlReply Ml.ADDR_INVALID []
  else if n ≠ 8 then d.mlReply Ml.COUNT_INVALID []
  else d.mlReply Ml.OK (beBytes 4 ((d.regShow F.HL_STATUS_LAST_STATUS.key).getD 0)
    ++ beBytes 4 ((d.regShow F.MG_SUPPLY_VCCP_GOOD.key).getD 0))

/-- EVT: the snapshot, bit 127 first; with address 1 every latch set in it is cleared (R68). -/
def Device.mlEvt (d : Device) (a n : Nat) : Device :=
  if 1 < a then d.mlReply Ml.ADDR_INVALID []
  else if n ≠ 16 then d.mlReply Ml.COUNT_INVALID []
  else
    let snap := d.evSnapshot
    (if a = 1 then d.evClear snap else d).mlReply Ml.OK (beBytes 16 snap)

/-! ## Commands -/

/-- MLINK_NOP (R64, R79). -/
def execMlinkNop (addr : BitVec 32) (count crc : BitVec 16) (s : State) : Host.Outcome State Fault Refusal :=
  .next (s.onBoth (fun d m => d.frame m 0x00 addr.toNat count.toNat [] crc (onDev (fun d =>
    if addr.toNat ≠ 0 then d.mlReply Ml.ADDR_INVALID []
    else if count.toNat ≠ 0 then d.mlReply Ml.COUNT_INVALID [] else d.mlReply Ml.OK []))))

/-- MLINK_RD (R64, R66, R69). -/
def execMlinkRd (addr : BitVec 32) (count crc : BitVec 16) (s : State) : Host.Outcome State Fault Refusal :=
  .next (s.onBoth (fun d m => d.frame m 0x01 addr.toNat count.toNat [] crc (onDev (fun d =>
    d.mlRd addr.toNat count.toNat))))

/-- MLINK_WR (R64, R65, R67, R69): the payload holds as many bytes as COUNT says (Table 03.2). -/
def execMlinkWr (addr : BitVec 32) (count : BitVec 16) (payload : List Byte) (crc : BitVec 16) (s : State) :
    Host.Outcome State Fault Refusal :=
  if payloadFormed count payload then
    .next (s.onBoth (fun d m => d.frame m 0x02 addr.toNat count.toNat payload crc (fun d s =>
      d.mlWr s addr.toNat count.toNat payload)))
  else .fault (.illFormed "MLINK_WR")

/-- MLINK_RDW (R70 to R72, R76). -/
def execMlinkRdw (addr : BitVec 32) (count crc : BitVec 16) (s : State) : Host.Outcome State Fault Refusal :=
  .next (s.onBoth (fun d m => d.frame m 0x11 addr.toNat count.toNat [] crc (onDev (fun d =>
    d.mlRing false addr.toNat count.toNat []))))

/-- MLINK_WRW (R70 to R72, R76, R656): the payload holds as many bytes as COUNT says (Table 03.2). -/
def execMlinkWrw (addr : BitVec 32) (count : BitVec 16) (payload : List Byte) (crc : BitVec 16) (s : State) :
    Host.Outcome State Fault Refusal :=
  if payloadFormed count payload then
    .next (s.onBoth (fun d m => d.frame m 0x12 addr.toNat count.toNat payload crc (onDev (fun d =>
      d.mlRing true addr.toNat count.toNat payload))))
  else .fault (.illFormed "MLINK_WRW")

/-- MLINK_STAT (R64). -/
def execMlinkStat (addr : BitVec 32) (count crc : BitVec 16) (s : State) : Host.Outcome State Fault Refusal :=
  .next (s.onBoth (fun d m => d.frame m 0x20 addr.toNat count.toNat [] crc (onDev (fun d =>
    d.mlStat addr.toNat count.toNat))))

/-- MLINK_EVT (R68): an EVT frame with the address as given. -/
def execMlinkEvt (addr : BitVec 32) (count crc : BitVec 16) (s : State) : Host.Outcome State Fault Refusal :=
  .next (s.onBoth (fun d m => d.frame m 0x21 addr.toNat count.toNat [] crc (onDev (fun d =>
    d.mlEvt addr.toNat count.toNat))))

/-- MLINK_EVT_CLEAR (R68): an EVT frame with address 1. -/
def execMlinkEvtClear (count crc : BitVec 16) (s : State) : Host.Outcome State Fault Refusal :=
  .next (s.onBoth (fun d m => d.frame m 0x21 1 count.toNat [] crc (onDev (fun d => d.mlEvt 1 count.toNat))))

/-- The command codes of Table 03.4. -/
def mlCodes : List Nat := [0x00, 0x01, 0x02, 0x11, 0x12, 0x20, 0x21]

/-- MLINK_CMD_UNKNOWN (R64): a frame with a reserved command code. -/
def execMlinkCmdUnknown (code : BitVec 8) (addr : BitVec 32) (count crc : BitVec 16) (s : State) :
    Host.Outcome State Fault Refusal :=
  .next (s.onBoth (fun d m =>
    if mlCodes.contains code.toNat then (d, m)
    else d.frame m code.toNat addr.toNat count.toNat [] crc (onDev (fun d => d.mlReply Ml.CMD_UNKNOWN []))))

/-- What a rise of MCS_N inside a frame does on MCK: a short frame is counted (R78), a ring access abandoned (R75). The
rise that a COMMAND reset waits for is a reset source (R117). -/
def Device.csRise (d : Device) : CsRise → Device
  | .short => d.mlAbandon.inc F.HL_SHORT_CNT_COUNT
  | .abandon => d.mlAbandon
  | .command => d

/-- MCS_N rises inside a frame: at once while MCK runs, else at its next edge (R79). -/
def Device.csRises (d : Device) (r : CsRise) : Device :=
  let d := { d with board := { d.board with mcsLow := false } }
  if d.board.mck then d.csRise r
  else { d with ml := { d.ml with rose := some r } }

/-- MLINK_SHORT_FRAME (R78): MCS_N rises before the last byte of a request. -/
def execMlinkShortFrame (s : State) : Host.Outcome State Fault Refusal :=
  .next (s.on (fun d => if d.rst.served then d.csRises .short else d))

/-- MLINK_ABANDON (R75, R298): MCS_N rises before the ready token of a ring access. -/
def execMlinkAbandon (s : State) : Host.Outcome State Fault Refusal :=
  .next (s.on (fun d => if d.ml.access.isSome then d.csRises .abandon else d))

/-- MLINK_RING_REPLY (R73, R74, R76). -/
def execMlinkRingReply (s : State) : Host.Outcome State Fault Refusal :=
  .next (s.on (fun d => d.onMck (fun d => if d.ml.access.isSome then d.mlRingReply.csAfter else d)))

/-! ## The link's outputs (R44, R52, R53, R56, R133) -/

/-- Are the MLINK pads disabled: POR, RST_N low, or VCCP or VCCAUX not good (R44, R48)? -/
def Device.linkPadsOff (d : Device) : Bool := d.rst.por || d.board.rstLow || !d.board.vccp || !d.board.vccaux

/-- What MDO outputs: nothing (high impedance) while MCS_N is high or its pad is disabled; else 0xFF before step 4 of
start-up, wait tokens while a ring access runs, and 0xFF around the reply (R52, R56, R73, R124, R133). -/
def Device.mdo (d : Device) : Option Byte :=
  if d.linkPadsOff || !d.board.mcsLow then none
  else if d.rst.served && d.ml.access.isSome then some 0x00
  else some 0xFF

/-- Does the device pull MIRQ_N low (R44, R53, R58)? -/
def Device.mirqDriven (d : Device) : Bool := d.ev.mirqLow && !d.linkPadsOff

/-- What TDO shifts out: the register that the TAP has selected, as it captured it; nothing while the pad is disabled
(R44, R48). -/
def Device.tdo (d : Device) : Option Nat := if d.linkPadsOff then none else some d.tap.dr

/-- Are the CMP pads of a fabric die disabled: POR, RST_N low, or VCCINT or VCCAUX not good (R44, R48)? -/
def Device.cmpPadsOff (d : Device) : Bool := d.rst.por || d.board.rstLow || !d.board.vccint || !d.board.vccaux

/-- What the flash of a die sees of its port's last step (R365): nothing while the pads are disabled. -/
def Device.cmpShown (d : Device) (die : Nat) : List CmpXfer := if d.cmpPadsOff then [] else (d.cmpOf die).bus

end Sys2Proof.Machine
end

