-- ==== Sys2Proof/Machine/Mck.lean ====
section
/-! DEFINITION. The host clock (chapter 03): the management tick, the loss detector and its safe state, the rate measure,
and what waited for MCK. -/

namespace Sys2Proof.Machine

/-- MANAGEMENT_TICK (R80, R125): the watchdog's count goes down; WDOG_WARN and WATCHDOG_EXPIRE act on it. -/
def execManagementTick (s : State) : Host.Outcome State Fault Refusal :=
  .next (s.on (fun d => d.onMck (fun d =>
    if d.wdogOn then d.set F.RS_WDOG_LEFT_TICKS (d.get F.RS_WDOG_LEFT_TICKS - 1) else d)))

/-- Is the loss detector armed (R83)? -/
def Device.mckArmed (d : Device) : Bool :=
  d.on F.MG_MCK_LOSS_CTL_EN && d.clk.osc == Osc.STABLE && !d.rst.por

/-- MCK has had no rising edge for longer than LOSS_US: management stops (R79, R87); the armed detector latches LOST,
raises MCK_RANGE, and with SAFE sends machine I/O to its safe state (R84, R86). -/
def Device.mckLost (d : Device) : Device :=
  let d := { d with board := { d.board with mck := false } }
  if d.mckArmed then
    let d := d.set F.MG_MCK_STATUS_LOST 1
    let d := if d.on F.MG_MCK_LOSS_CTL_SAFE then d.set F.MG_MCK_STATUS_SAFE_ACTIVE 1 else d
    d.raise Ev.MCK_RANGE U.MG 0
  else d

/-- MCK_LOST (R84, R86, R87). -/
def execMckLost (s : State) : Host.Outcome State Fault Refusal := .next (s.on Device.mckLost)

/-- MCK_SAFE_RELEASE (R86): a write of 1 to SAFE_ACTIVE. -/
def execMckSafeRelease (s : State) : Host.Outcome State Fault Refusal :=
  .next (s.on (fun d => d.onMck (fun d => d.set F.MG_MCK_STATUS_SAFE_ACTIVE 0)))

/-- MCK_RATE_MEASURE (R85): `khz` rising edges of MCK in the last millisecond of reference time. -/
def Device.mckMeasure (d : Device) (khz : Nat) : Device :=
  if d.clk.osc ≠ Osc.STABLE ∨ d.rst.por then d
  else
    let hz := d.get F.MG_MCK_HZ_HZ
    let d := d.set F.MG_MCK_MEAS_KHZ khz
    if 11 * hz < 10000 * khz ∨ 10000 * khz < 9 * hz then
      (d.set F.MG_MCK_STATUS_OFF_RATE 1).raise Ev.MCK_RANGE U.MG 0
    else d

/-- MCK_RATE_MEASURE (R85). -/
def execMckRateMeasure (khz : BitVec 16) (s : State) : Host.Outcome State Fault Refusal :=
  .next (s.on (fun d => d.mckMeasure khz.toNat))

/-- Raises, refusals of P-die units (in ascending unit ID, R633), supply latches and a denial of the TAP that waited for MCK
are recorded. -/
def Device.mckRecords (d : Device) : Device :=
  let raises := d.ev.waiting
  let refs := d.refusals.waiting
  let falls := d.rst.latchWait
  let d := { d with ev := { d.ev with waiting := [] }, refusals := { d.refusals with waiting := [] },
                    rst := { d.rst with latchWait := [] } }
  let d := raises.foldl Device.latchRaise d
  let d := ((List.range 512).flatMap (fun u => refs.filter (fun r => r.unit == u))).foldl Device.applyRefusal d
  (d.each falls Device.latchSet).tapDeniedShow

/-- A rise of MCS_N that waited is taken: what it does, and whether it was the one that a COMMAND reset waited for. -/
def Device.mckRise (d : Device) : Device × Bool :=
  match d.ml.rose with
  | none => (d, false)
  | some r => ({ d with ml := { d.ml with rose := none } }.csRise r, decide (r = .command))

/-- The power states' work that waited: an abort of an entry (R495), or a wake (R499). -/
def Device.mckPower (d : Device) : Device :=
  let d := match d.pw.abortLater with
    | some (ev, unit) =>
      if d.get F.PW_STATUS_PHASE = 2 then d.pwAbort unit .busy ev else { d with pw := { d.pw with abortLater := none } }
    | none => d
  match d.pw.wakeLater with
  | some ev => if d.get F.PW_STATUS_PHASE = 4 then d.wakeBegin ev else d
  | none => d

/-- The start-up and bring-up that waited goes on: step 5, steps 7 and 8 without a root, and dies that wait for VCCINT or
for their loop, with what their bring-up finds as it was kept (R79, R136, R139; assumption log 20). -/
def Device.mckStart (d : Device) (s : Stores) : Device × Stores :=
  let ups := d.rst.found
  let d := if d.get F.RS_STATUS_STATE = Rs.OSC ∧ d.clk.osc = Osc.STABLE then d.stepOsc else d
  let r := if d.bridgesDue then d.stepBridges s ups else (d, s)
  let d := r.1.vccintWork ups
  (d.each fabricDies (fun d k => d.lateGo k (ups.die k)), r.2)

/-- The management work that waited goes on (R79): a start-up after POR (R112), or a due reset (R111), or start-up, power
states, a life-cycle step, the Gaffer and step 3 of a swap (R399). -/
def Device.mckWork (d : Device) (s : Stores) : Device × Stores :=
  let r := d.mckRise
  let d := r.1
  if d.rst.startPending then (if d.rst.rstActive || d.board.rstLow then d else d.startUp, s)
  else match d.rst.fatal with
    | some die => d.resetNow s .bridgeFatal die
    | none =>
      if d.lc.resetDue then d.lcReset s
      else if r.2 then d.resetNow s .command 0
      else
        let r := d.mckStart s
        (r.1.mckPower.gafLate.settle.swapFix, r.2)

/-- MCK edges resume (R79), and a TAP submission that waited is judged (R478). -/
def Device.mckResume (d : Device) (s : Stores) : Device × Stores :=
  if d.board.mck then (d, s)
  else
    let d := { d with board := { d.board with mck := true } }
    if d.rst.por then (d, s)
    else
      let r := d.mckRecords.mckWork s
      (if r.1.rst.startPending then r.1 else r.1.tapResume, r.2)

/-- MCK_RESUME (R75, R78, R79, R111, R112, R117, R139, R399, R478, R495, R499, R505, R633). -/
def execMckResume (s : State) : Host.Outcome State Fault Refusal :=
  .next (s.onBoth (fun d m => d.mckResume m))

end Sys2Proof.Machine
end

