-- ==== Sys2Proof/Machine/Dispatch.lean ====
section
/-! DEFINITION. One arm per command: each is one direct call of that command's meaning. -/

namespace Sys2Proof.Machine

/-- The effect of a command on everything but the queue. -/
def exec (i : Instr) (s : State) : Host.Outcome State Fault Refusal :=
  match i with
  | .porAssert aux => Sys2Proof.Machine.execPorAssert aux s
  | .porRelease unstable => Sys2Proof.Machine.execPorRelease unstable s
  | .brownoutP => Sys2Proof.Machine.execBrownoutP s
  | .rstNFall => Sys2Proof.Machine.execRstNFall s
  | .rstNReset => Sys2Proof.Machine.execRstNReset s
  | .rstNRise => Sys2Proof.Machine.execRstNRise s
  | .rstNRelease unstable => Sys2Proof.Machine.execRstNRelease unstable s
  | .vccintFall => Sys2Proof.Machine.execVccintFall s
  | .brownoutInt ups => Sys2Proof.Machine.execBrownoutInt ups s
  | .vccintGood ups => Sys2Proof.Machine.execVccintGood ups s
  | .padSupplyFall p => Sys2Proof.Machine.execPadSupplyFall p s
  | .wdogWarn => Sys2Proof.Machine.execWdogWarn s
  | .watchdogExpire => Sys2Proof.Machine.execWatchdogExpire s
  | .rsWdogKick value => Sys2Proof.Machine.execRsWdogKick value s
  | .rsCmdDevice key => Sys2Proof.Machine.execRsCmdDevice key s
  | .commandReset => Sys2Proof.Machine.execCommandReset s
  | .optionRead refsel => Sys2Proof.Machine.execOptionRead refsel s
  | .oscStable => Sys2Proof.Machine.execOscStable s
  | .oscStartTimeout => Sys2Proof.Machine.execOscStartTimeout s
  | .oscFail => Sys2Proof.Machine.execOscFail s
  | .oscRestart => Sys2Proof.Machine.execOscRestart s
  | .rootLock => Sys2Proof.Machine.execRootLock s
  | .rootLockTimeout ups => Sys2Proof.Machine.execRootLockTimeout ups s
  | .slaveLock die up => Sys2Proof.Machine.execSlaveLock die up s
  | .slaveLockTimeout die up => Sys2Proof.Machine.execSlaveLockTimeout die up s
  | .epochDeclared ups => Sys2Proof.Machine.execEpochDeclared ups s
  | .rootUnlock => Sys2Proof.Machine.execRootUnlock s
  | .slaveUnlock die => Sys2Proof.Machine.execSlaveUnlock die s
  | .holdoverExpire l => Sys2Proof.Machine.execHoldoverExpire l s
  | .ckRelock => Sys2Proof.Machine.execCkRelock s
  | .ckMtLoRead => Sys2Proof.Machine.execCkMtLoRead s
  | .rootMonUpdate => Sys2Proof.Machine.execRootMonUpdate s
  | .znClkGo z ref div => Sys2Proof.Machine.execZnClkGo z ref div s
  | .znClkRamp z ref div => Sys2Proof.Machine.execZnClkRamp z ref div s
  | .zoneClkRestart z => Sys2Proof.Machine.execZoneClkRestart z s
  | .rampDividerStep z => Sys2Proof.Machine.execRampDividerStep z s
  | .rideLimitExpire z => Sys2Proof.Machine.execRideLimitExpire z s
  | .zonePolicyRestart z => Sys2Proof.Machine.execZonePolicyRestart z s
  | .flipflopAsyncSr z cell ff1 => Sys2Proof.Machine.execFlipflopAsyncSr z cell ff1 s
  | .channelTokenAccept z ep token => Sys2Proof.Machine.execChannelTokenAccept z ep token s
  | .channelTokenLand z ep near => Sys2Proof.Machine.execChannelTokenLand z ep near s
  | .channelTokenDeliver z ep => Sys2Proof.Machine.execChannelTokenDeliver z ep s
  | .paceWindowEnd die q0 q1 q2 q3 => Sys2Proof.Machine.execPaceWindowEnd die q0 q1 q2 q3 s
  | .drPaceClrMin die => Sys2Proof.Machine.execDrPaceClrMin die s
  | .bmPortAccess z mem a b => Sys2Proof.Machine.execBmPortAccess z mem a b s
  | .eccFlipArm u => Sys2Proof.Machine.execEccFlipArm u s
  | .queueZoneAccess z queue write din poison read => Sys2Proof.Machine.execQueueZoneAccess z queue write din poison read s
  | .znQcThreshWrite z ae af => Sys2Proof.Machine.execZnQcThreshWrite z ae af s
  | .requestIssue who req => Sys2Proof.Machine.execRequestIssue who req s
  | .requestLaunch who => Sys2Proof.Machine.execRequestLaunch who s
  | .ringHop node flip => Sys2Proof.Machine.execRingHop node flip s
  | .bridgeParityError die path units => Sys2Proof.Machine.execBridgeParityError die path units s
  | .bridgeStallFatal die path => Sys2Proof.Machine.execBridgeStallFatal die path s
  | .brClrCnt die => Sys2Proof.Machine.execBrClrCnt die s
  | .targetTake t => Sys2Proof.Machine.execTargetTake t s
  | .ringRd t k reply => Sys2Proof.Machine.execRingRd t k reply s
  | .ringWr t k reply => Sys2Proof.Machine.execRingWr t k reply s
  | .ringWrn t k reply => Sys2Proof.Machine.execRingWrn t k reply s
  | .ringAadd t k reply => Sys2Proof.Machine.execRingAadd t k reply s
  | .ringAswp t k reply => Sys2Proof.Machine.execRingAswp t k reply s
  | .ringFence who cls => Sys2Proof.Machine.execRingFence who cls s
  | .fenceComplete who => Sys2Proof.Machine.execFenceComplete who s
  | .ringEvt t k near => Sys2Proof.Machine.execRingEvt t k near s
  | .ringCfg t k reply => Sys2Proof.Machine.execRingCfg t k reply s
  | .ringMsg t k reply => Sys2Proof.Machine.execRingMsg t k reply s
  | .ringRdr who => Sys2Proof.Machine.execRingRdr who s
  | .ringWrr who => Sys2Proof.Machine.execRingWrr who s
  | .ringAtr who => Sys2Proof.Machine.execRingAtr who s
  | .responseDeliver who => Sys2Proof.Machine.execResponseDeliver who s
  | .orderHoldLimit who k => Sys2Proof.Machine.execOrderHoldLimit who k s
  | .timeoutExpire who tag => Sys2Proof.Machine.execTimeoutExpire who tag s
  | .tagQuarantineEnd who tag => Sys2Proof.Machine.execTagQuarantineEnd who tag s
  | .targetDead t => Sys2Proof.Machine.execTargetDead t s
  | .drIsoRelease die => Sys2Proof.Machine.execDrIsoRelease die s
  | .znResetGo z force => Sys2Proof.Machine.execZnResetGo z force s
  | .zoneResetDrained z => Sys2Proof.Machine.execZoneResetDrained z s
  | .zoneResetDrainLimit z => Sys2Proof.Machine.execZoneResetDrainLimit z s
  | .zoneResetClockResume z => Sys2Proof.Machine.execZoneResetClockResume z s
  | .culletRecordForward die => Sys2Proof.Machine.execCulletRecordForward die s
  | .refusalForward die => Sys2Proof.Machine.execRefusalForward die s
  | .culSelWrite index => Sys2Proof.Machine.execCulSelWrite index s
  | .culClear => Sys2Proof.Machine.execCulClear s
  | .mlinkNop addr count crc => Sys2Proof.Machine.execMlinkNop addr count crc s
  | .mlinkRd addr count crc => Sys2Proof.Machine.execMlinkRd addr count crc s
  | .mlinkWr addr count payload crc => Sys2Proof.Machine.execMlinkWr addr count payload crc s
  | .mlinkRdw addr count crc => Sys2Proof.Machine.execMlinkRdw addr count crc s
  | .mlinkWrw addr count payload crc => Sys2Proof.Machine.execMlinkWrw addr count payload crc s
  | .mlinkStat addr count crc => Sys2Proof.Machine.execMlinkStat addr count crc s
  | .mlinkEvt addr count crc => Sys2Proof.Machine.execMlinkEvt addr count crc s
  | .mlinkEvtClear count crc => Sys2Proof.Machine.execMlinkEvtClear count crc s
  | .mlinkShortFrame => Sys2Proof.Machine.execMlinkShortFrame s
  | .mlinkAbandon => Sys2Proof.Machine.execMlinkAbandon s
  | .mlinkRingReply => Sys2Proof.Machine.execMlinkRingReply s
  | .managementTick => Sys2Proof.Machine.execManagementTick s
  | .mckLost => Sys2Proof.Machine.execMckLost s
  | .mckSafeRelease => Sys2Proof.Machine.execMckSafeRelease s
  | .mckRateMeasure khz => Sys2Proof.Machine.execMckRateMeasure khz s
  | .ormCommit page => Sys2Proof.Machine.execOrmCommit page s
  | .ormCommitDone => Sys2Proof.Machine.execOrmCommitDone s
  | .runHoursTick => Sys2Proof.Machine.execRunHoursTick s
  | .lifetimeCounterWrite counter => Sys2Proof.Machine.execLifetimeCounterWrite counter s
  | .dieLimitExpire => Sys2Proof.Machine.execDieLimitExpire s
  | .diesetPolicyApply => Sys2Proof.Machine.execDiesetPolicyApply s
  | .releaseGoe => Sys2Proof.Machine.execReleaseGoe s
  | .releaseGwe => Sys2Proof.Machine.execReleaseGwe s
  | .releaseGrr => Sys2Proof.Machine.execReleaseGrr s
  | .cmpBurstFail die => Sys2Proof.Machine.execCmpBurstFail die s
  | .cmpReinit die dir again => Sys2Proof.Machine.execCmpReinit die dir again s
  | .cmpPtOpen die on => Sys2Proof.Machine.execCmpPtOpen die on s
  | .cmpPtCmd die read dummy addrLen len op => Sys2Proof.Machine.execCmpPtCmd die read dummy addrLen len op s
  | .cmpPtCmdDone die data => Sys2Proof.Machine.execCmpPtCmdDone die data s
  | .gthStageKey die => Sys2Proof.Machine.execGthStageKey die s
  | .gthStageEntry die entry dir => Sys2Proof.Machine.execGthStageEntry die entry dir s
  | .gthAbort die => Sys2Proof.Machine.execGthAbort die s
  | .gatherSegmentRead die seg bad => Sys2Proof.Machine.execGatherSegmentRead die seg bad s
  | .gafConfirm => Sys2Proof.Machine.execGafConfirm s
  | .gafSwap => Sys2Proof.Machine.execGafSwap s
  | .gafCancel => Sys2Proof.Machine.execGafCancel s
  | .swapZoneDrained z => Sys2Proof.Machine.execSwapZoneDrained z s
  | .swapDrainLimit z => Sys2Proof.Machine.execSwapDrainLimit z s
  | .swapSwitchEdge => Sys2Proof.Machine.execSwapSwitchEdge s
  | .swapMemInitDone z => Sys2Proof.Machine.execSwapMemInitDone z s
  | .swapZoneReleased z => Sys2Proof.Machine.execSwapZoneReleased z s
  | .gafLookupStart => Sys2Proof.Machine.execGafLookupStart s
  | .gafLookupDone d1 d2 d3 d4 => Sys2Proof.Machine.execGafLookupDone d1 d2 d3 d4 s
  | .gafStageRetry => Sys2Proof.Machine.execGafStageRetry s
  | .lehrSlot die => Sys2Proof.Machine.execLehrSlot die s
  | .lehrFrameJudged die => Sys2Proof.Machine.execLehrFrameJudged die s
  | .lehrVerifyStart die => Sys2Proof.Machine.execLehrVerifyStart die s
  | .lehrRefetchStart die => Sys2Proof.Machine.execLehrRefetchStart die s
  | .lehrRefetchDone die segments => Sys2Proof.Machine.execLehrRefetchDone die segments s
  | .lhrCmdVerify die zone => Sys2Proof.Machine.execLhrCmdVerify die zone s
  | .lhrCmdRefetch die => Sys2Proof.Machine.execLhrCmdRefetch die s
  | .lhrCmdRelease die zone force => Sys2Proof.Machine.execLhrCmdRelease die zone force s
  | .lhrCmdReadback die => Sys2Proof.Machine.execLhrCmdReadback die s
  | .ksLoad slot defer => Sys2Proof.Machine.execKsLoad slot defer s
  | .ksLoadWrapped slot defer wrapSlot => Sys2Proof.Machine.execKsLoadWrapped slot defer wrapSlot s
  | .ksErase slot => Sys2Proof.Machine.execKsErase slot s
  | .ksRevoke slot => Sys2Proof.Machine.execKsRevoke slot s
  | .ksFuseProg slot => Sys2Proof.Machine.execKsFuseProg slot s
  | .ksCancelDefer => Sys2Proof.Machine.execKsCancelDefer s
  | .ksFuseOpDone => Sys2Proof.Machine.execKsFuseOpDone s
  | .trngBlock samples => Sys2Proof.Machine.execTrngBlock samples s
  | .trngDataRead => Sys2Proof.Machine.execTrngDataRead s
  | .trngRestart => Sys2Proof.Machine.execTrngRestart s
  | .trngStartTestDone samples => Sys2Proof.Machine.execTrngStartTestDone samples s
  | .vbatCrossing which above => Sys2Proof.Machine.execVbatCrossing which above s
  | .gaugeQuantum => Sys2Proof.Machine.execGaugeQuantum s
  | .bgChargeWrite low v => Sys2Proof.Machine.execBgChargeWrite low v s
  | .lcTransition target key => Sys2Proof.Machine.execLcTransition target key s
  | .lcProgDebugHash key => Sys2Proof.Machine.execLcProgDebugHash key s
  | .lcProgCfgHash key => Sys2Proof.Machine.execLcProgCfgHash key s
  | .lcAdvanceGen key => Sys2Proof.Machine.execLcAdvanceGen key s
  | .lcTransitionComplete weak => Sys2Proof.Machine.execLcTransitionComplete weak s
  | .daCert => Sys2Proof.Machine.execDaCert s
  | .daChallenge => Sys2Proof.Machine.execDaChallenge s
  | .daResponse => Sys2Proof.Machine.execDaResponse s
  | .nonceExpire => Sys2Proof.Machine.execNonceExpire s
  | .tapExtest => Sys2Proof.Machine.execTapExtest s
  | .tapSamplePreload v => Sys2Proof.Machine.execTapSamplePreload v s
  | .tapIdcode => Sys2Proof.Machine.execTapIdcode s
  | .tapDaCert v => Sys2Proof.Machine.execTapDaCert v s
  | .tapDaChal => Sys2Proof.Machine.execTapDaChal s
  | .tapDaResp v => Sys2Proof.Machine.execTapDaResp v s
  | .tapDaStatus => Sys2Proof.Machine.execTapDaStatus s
  | .tapRing v => Sys2Proof.Machine.execTapRing v s
  | .tapProbe => Sys2Proof.Machine.execTapProbe s
  | .tapReadback die fa => Sys2Proof.Machine.execTapReadback die fa s
  | .tapScan => Sys2Proof.Machine.execTapScan s
  | .tapBypass => Sys2Proof.Machine.execTapBypass s
  | .pwEnterDoze => Sys2Proof.Machine.execPwEnterDoze s
  | .pwEnterNap => Sys2Proof.Machine.execPwEnterNap s
  | .pwEnterSlumber => Sys2Proof.Machine.execPwEnterSlumber s
  | .pwEnterDormant => Sys2Proof.Machine.execPwEnterDormant s
  | .pwWakeCommand => Sys2Proof.Machine.execPwWakeCommand s
  | .pwDrainDone => Sys2Proof.Machine.execPwDrainDone s
  | .pwDrainLimit => Sys2Proof.Machine.execPwDrainLimit s
  | .pwStateReached => Sys2Proof.Machine.execPwStateReached s
  | .dormantGateClosed ups => Sys2Proof.Machine.execDormantGateClosed ups s
  | .pwWakeDone => Sys2Proof.Machine.execPwWakeDone s
  | .eventRaise ev unit payload => Sys2Proof.Machine.execEventRaise ev unit payload s
  | .evtDelivery => Sys2Proof.Machine.execEvtDelivery s
  | .evUserRaise who user => Sys2Proof.Machine.execEvUserRaise who user s
  | .poolStarveLimit bank => Sys2Proof.Machine.execPoolStarveLimit bank s
  | .plBankOwnerWrite bank owner => Sys2Proof.Machine.execPlBankOwnerWrite bank owner s
  | .ownerChangeEffect bank => Sys2Proof.Machine.execOwnerChangeEffect bank s
  | .plLinkEnable die en => Sys2Proof.Machine.execPlLinkEnable die en s
  | .linkRequest die req => Sys2Proof.Machine.execLinkRequest die req s
  | .smvChEnable ch => Sys2Proof.Machine.execSmvChEnable ch s
  | .smvChDisable ch => Sys2Proof.Machine.execSmvChDisable ch s
  | .smvDescFetched ch => Sys2Proof.Machine.execSmvDescFetched ch s
  | .smvChunkReadDone ch => Sys2Proof.Machine.execSmvChunkReadDone ch s
  | .smvChunkWriteDone ch => Sys2Proof.Machine.execSmvChunkWriteDone ch s
  | .iobEnable bank => Sys2Proof.Machine.execIobEnable bank s
  | .vccioClassChange bank cls => Sys2Proof.Machine.execVccioClassChange bank cls s
  | .ioCalibration => Sys2Proof.Machine.execIoCalibration s
  | .iobDlyWrite bank out inp => Sys2Proof.Machine.execIobDlyWrite bank out inp s
  | .ioDelayStep bank => Sys2Proof.Machine.execIoDelayStep bank s
  | .ioxGroupEnable who group => Sys2Proof.Machine.execIoxGroupEnable who group s
  | .ioxPinMapWrite who pin inp outB outA => Sys2Proof.Machine.execIoxPinMapWrite who pin inp outB outA s
  | .ioxPinOwnerWrite who pin kind unit => Sys2Proof.Machine.execIoxPinOwnerWrite who pin kind unit s
  | .ioxGenCfgWrite gen en defOe defVal dir zone => Sys2Proof.Machine.execIoxGenCfgWrite gen en defOe defVal dir zone s
  | .ioxForceSafe on => Sys2Proof.Machine.execIoxForceSafe on s
  | .eviEdge k level => Sys2Proof.Machine.execEviEdge k level s
  | .mfeEncEnable ch => Sys2Proof.Machine.execMfeEncEnable ch s
  | .encoderTransition ch a b => Sys2Proof.Machine.execEncoderTransition ch a b s
  | .encoderZPulse ch => Sys2Proof.Machine.execEncoderZPulse ch s
  | .ssiPoll ch b => Sys2Proof.Machine.execSsiPoll ch b s
  | .ssiFrameEnd ch raw b => Sys2Proof.Machine.execSsiFrameEnd ch raw b s
  | .mfePosLoRead ch => Sys2Proof.Machine.execMfePosLoRead ch s
  | .markEdge ch level => Sys2Proof.Machine.execMarkEdge ch level s
  | .markChannelEnable ch => Sys2Proof.Machine.execMarkChannelEnable ch s
  | .standstillWindow => Sys2Proof.Machine.execStandstillWindow s
  | .camEnable eng => Sys2Proof.Machine.execCamEnable eng s
  | .camSegmentFetched eng => Sys2Proof.Machine.execCamSegmentFetched eng s
  | .camSetpointPeriod eng => Sys2Proof.Machine.execCamSetpointPeriod eng s
  | .znEpInjWrite z => Sys2Proof.Machine.execZnEpInjWrite z s
  | .presenceChange port level => Sys2Proof.Machine.execPresenceChange port level s
  | .presenceDebounced port => Sys2Proof.Machine.execPresenceDebounced port s
  | .descriptorReadDone port reason bytes => Sys2Proof.Machine.execDescriptorReadDone port reason bytes s
  | .descriptorReadRetry port => Sys2Proof.Machine.execDescriptorReadRetry port s
  | .busStretchTimeout port => Sys2Proof.Machine.execBusStretchTimeout port s
  | .idrAdd port => Sys2Proof.Machine.execIdrAdd port s
  | .idrCntInit port => Sys2Proof.Machine.execIdrCntInit port s
  | .idrWrite port len addr => Sys2Proof.Machine.execIdrWrite port len addr s
  | .idrReread port => Sys2Proof.Machine.execIdrReread port s
  | .idrPortEnable port en => Sys2Proof.Machine.execIdrPortEnable port en s
  | .counterCellWriteStart port => Sys2Proof.Machine.execCounterCellWriteStart port s
  | .eepromPoll port ack expired => Sys2Proof.Machine.execEepromPoll port ack expired s
  | .cellWriteVerify port reason data => Sys2Proof.Machine.execCellWriteVerify port reason data s
  | .laneEnable quad lane => Sys2Proof.Machine.execLaneEnable quad lane s
  | .laneDisable quad lane => Sys2Proof.Machine.execLaneDisable quad lane s
  | .quadLoopLock quad => Sys2Proof.Machine.execQuadLoopLock quad s
  | .cdrLock quad lane => Sys2Proof.Machine.execCdrLock quad lane s
  | .laneRxBlock quad lane hdr payload upset hit => Sys2Proof.Machine.execLaneRxBlock quad lane hdr payload upset hit s
  | .laneTxBlockSlot quad lane upset => Sys2Proof.Machine.execLaneTxBlockSlot quad lane upset s
  | .laneSweepGo quad lane => Sys2Proof.Machine.execLaneSweepGo quad lane s
  | .sweepStep quad lane => Sys2Proof.Machine.execSweepStep quad lane s
  | .tempSample p f1 f2 f3 f4 => Sys2Proof.Machine.execTempSample p f1 f2 f3 f4 s
  | .thermTripClear => Sys2Proof.Machine.execThermTripClear s
  | .registerWrite who unit off value => Sys2Proof.Machine.execRegisterWrite who unit off value s
  | .padSupplyGood p => Sys2Proof.Machine.execPadSupplyGood p s
  | .zoneEdge z edge => Sys2Proof.Machine.execZoneEdge z edge s
  | .mlinkCmdUnknown code addr count crc => Sys2Proof.Machine.execMlinkCmdUnknown code addr count crc s
  | .tapTestLogicReset => Sys2Proof.Machine.execTapTestLogicReset s
  | .cdrLockLost quad lane => Sys2Proof.Machine.execCdrLockLost quad lane s
  | .prbsCheck quad lane rx => Sys2Proof.Machine.execPrbsCheck quad lane rx s
  | .mckResume => Sys2Proof.Machine.execMckResume s
  | .streamHeaderRead die refetch dir header prefixes images => Sys2Proof.Machine.execStreamHeaderRead die refetch dir header prefixes images s

end Sys2Proof.Machine
end

