-- ==== Sys2Proof/Safety.lean ====
section
/-! DEFINITION. What claims about runs speak of: a step that answers a next state, a queue of well-formed commands, and
the canonical form of the memories. -/

namespace Sys2Proof.Machine

/-- The outcome is a next state. -/
def isNext : Host.Outcome State Fault Refusal → Bool
  | .next _ => true
  | .fault _ => false
  | .refused _ => false

/-- Every command that waits is well formed. -/
def State.queueFormed (s : State) : Bool := s.pending.all Instr.wellFormed

/-- The memories are in their canonical form: addresses strictly rising, nothing listed that reads as an unlisted
address does. -/
def Stores.wf (m : Stores) : Bool :=
  m.pool.wf && m.bm.wf && Tab.wf (fun _ => Frame.none) m.frames

/-- The memories of a state are in their canonical form. -/
def State.memWf (s : State) : Bool := s.mem.wf

/-! ## Events and what raising one may write -/

/-- Is an event latched (EV_LATCH, R505)? -/
def Device.latched (d : Device) (ev : Nat) : Bool := bit (d.get (F.EV_LATCH_EVENTS (ev / 32))) (ev % 32)

/-- The registers that an event or a refusal writes beside the refusing unit's own record: EV_LATCH0 to 3,
EV_DELIV_LOST (R505, R511), SMV_CHc_STATUS (R363), MG_REFUSAL_LAST and MG_REFUSAL_CNT (R632), and the power unit's
PW_CMD, PW_STATUS, PW_REFUSE_CNT, PW_REFUSER, PW_WAKE_SRC and PW_REFUSE (R495, R496, R499). -/
def noticeReg (k : Nat) : Bool :=
  (decide (0x6000 ≤ k) && decide (k ≤ 0x600C)) || k == 0x6060
    || (decide (0x1810C ≤ k) && decide (k ≤ 0x182EC) && k % 32 == 0x0C)
    || [0x80, 0x84, 0x5000, 0x5004, 0x5008, 0x500C, 0x5010, 0x5018].contains k

/-- MCK runs, and no power entry, power state or wake is under way (PW_STATUS.PHASE 0). -/
def Device.running (d : Device) : Bool := d.board.mck && d.get F.PW_STATUS_PHASE == 0

/-! ## Frames -/

/-- The parts of a device beside its registers. -/
inductive Part
  | free | board | rst | clk | zones | ring | brErrs | ev | cul | refusals | pw | banks | orm | fuses | keys | trng | lc | tap | bat | gath | cmp | lehr | gaf | pool | smv | smvTurn | bankVolt | calSeen | lanes | warnOn | enc | marks | cams | eviSeen | xbConf | ident | ml
  deriving DecidableEq, Repr

/-- The type of a part. -/
def Part.Ty : Part → Type
  | .free => Nat
  | .board => BoardState
  | .rst => ResetState
  | .clk => ClockState
  | .zones => Tab Zone
  | .ring => RingState
  | .brErrs => Tab (List Nat)
  | .ev => EventState
  | .cul => CulletState
  | .refusals => RefusalState
  | .pw => PowerState
  | .banks => Tab BankPins
  | .orm => OrmState
  | .fuses => FuseState
  | .keys => KeyState
  | .trng => TrngState
  | .lc => LcState
  | .tap => TapState
  | .bat => BatState
  | .gath => Tab GatherJob
  | .cmp => Tab CmpState
  | .lehr => Tab LehrState
  | .gaf => GafferState
  | .pool => PoolState
  | .smv => Tab SmvChannel
  | .smvTurn => Nat
  | .bankVolt => List Nat
  | .calSeen => Nat
  | .lanes => Tab LaneState
  | .warnOn => Bool
  | .enc => Tab Encoder
  | .marks => Tab MarkChannel
  | .cams => Tab CamEngine
  | .eviSeen => Nat
  | .xbConf => List Nat
  | .ident => Tab IdPort
  | .ml => MlinkState

/-- A part of a device. -/
def Device.part (d : Device) : (p : Part) → p.Ty
  | .free => d.free
  | .board => d.board
  | .rst => d.rst
  | .clk => d.clk
  | .zones => d.zones
  | .ring => d.ring
  | .brErrs => d.brErrs
  | .ev => d.ev
  | .cul => d.cul
  | .refusals => d.refusals
  | .pw => d.pw
  | .banks => d.banks
  | .orm => d.orm
  | .fuses => d.fuses
  | .keys => d.keys
  | .trng => d.trng
  | .lc => d.lc
  | .tap => d.tap
  | .bat => d.bat
  | .gath => d.gath
  | .cmp => d.cmp
  | .lehr => d.lehr
  | .gaf => d.gaf
  | .pool => d.pool
  | .smv => d.smv
  | .smvTurn => d.smvTurn
  | .bankVolt => d.bankVolt
  | .calSeen => d.calSeen
  | .lanes => d.lanes
  | .warnOn => d.warnOn
  | .enc => d.enc
  | .marks => d.marks
  | .cams => d.cams
  | .eviSeen => d.eviSeen
  | .xbConf => d.xbConf
  | .ident => d.ident
  | .ml => d.ml

/-- From `d` to `e` the parts of `K` and the register fields of `R` keep their values. -/
def Device.Keeps (K : Part → Bool) (R : Field → Bool) (d e : Device) : Prop :=
  (∀ p, K p = true → e.part p = d.part p) ∧ ∀ f, R f = true → e.get f = d.get f

/-- Do two fields share a bit of a register? -/
def Field.overlaps (g f : Field) : Bool := g.key == f.key && decide (f.lo ≤ g.hi) && decide (g.lo ≤ f.hi)

/-- The whole register of a field. -/
def Field.reg (f : Field) : Field := ⟨f.key, 31, 0⟩

/-- The fields that share a bit with one of a list. -/
def fieldsOf (l : List Field) : Field → Bool := fun g => l.any (fun f => g.overlaps f)

/-- A register of a zone: ZN_CLK_CTL or ZN_CLK_STATUS (Table 06.11). -/
def zoneClkReg (k : Nat) : Bool :=
  decide (512 ≤ k / 4096) && decide (k / 4096 % 512 < 64) && (k % 4096 == 0x100 || k % 4096 == 0x104)

/-- From `d` to `e` nothing changes but the listed parts and the fields of `written`. -/
def Device.Only (d e : Device) (parts : List Part) (written : Field → Bool) : Prop :=
  d.Keeps (fun p => !parts.contains p) (fun f => decide (f.lo ≤ 31) && !written f) e

/-- From `d` to `e` nothing changes but the listed parts, the fields of `written`, and what an event or a refusal writes:
the event controller, the refusal records and the registers of `noticeReg`. -/
def Device.OnlyNoted (d e : Device) (parts : List Part) (written : Field → Bool) : Prop :=
  d.Only e (.ev :: .refusals :: parts) (fun f => written f || noticeReg f.key)

/-- The parts that an event may change beside the event controller: none, or while a power entry, a power state or a wake is
under way (PW_STATUS.PHASE not 0) the power unit, the loops and the ring (R495, R499). -/
def Device.hookParts (d : Device) : List Part := if d.get F.PW_STATUS_PHASE = 0 then [] else [.pw, .clk, .ring]

/-! ## Commands that complete -/

/-- Command `c` at state `s` answers a next state: the queue and the memories stay, and the device is one of which `P`
holds. -/
def completes (c : Instr) (s : State) (P : Device → Prop) : Prop :=
  ∃ t, exec c s = .next t ∧ t.pending = s.pending ∧ t.mem = s.mem ∧ P t.dev

/-- Command `c` at state `s` answers a next state: the queue stays, and `P` holds of the device and the memories. -/
def completesMem (c : Instr) (s : State) (P : Device → Stores → Prop) : Prop :=
  ∃ t, exec c s = .next t ∧ t.pending = s.pending ∧ P t.dev t.mem

/-! ## Names that claims use -/

/-- A request as its port holds it, with its place in the port's issue order. -/
def portReq (q : Request) (seq : Nat) : PortReq :=
  { seq := seq, cmd := q.cmd.toNat, cls := q.cls.val, addr := q.addr.toNat, len := q.len.toNat, be := q.be.toNat,
    data := q.data, who := 0 }

/-- Does no packet for the stop wait at a ring position for room in its input buffer (R277)? -/
def Device.clearAt (d : Device) (r pos : Nat) : Bool :=
  [false, true].all (fun ccw => (d.node (nodeKey r pos ccw false)).head?.all (fun p => !p.arrived r pos))

/-- Does no packet wait at a stop's ring positions for room in its input buffer? The hub is on two rings. -/
def Device.noneStalled (d : Device) (key : Nat) : Bool :=
  d.clearAt (stopNode key).1 (stopNode key).2 && (key != 48 || d.clearAt 5 0)

/-- A port without a request that leaves it. -/
def InitState.without (x : InitState) (r : PortReq) : InitState :=
  { x with port := x.port.filter (fun q => q.seq != r.seq) }

/-- The packet of a launched request. -/
def launchPacket (k : Nat) (r : PortReq) (tag : Nat) (ccw : Bool) : Packet :=
  mkPacket k (addrKey r.addr) ccw r.cmd tag r.cls r.len 0 r.be r.addr r.data

/-- The key of a node of the ring network. -/
def nodeOf (n : RingNode) : Nat := nodeKey n.ring.val n.pos.val n.ccw n.resp

/-- The node where the packet of a node goes next. -/
def nextNode (n : RingNode) (p : Packet) : Nat × Nat × Bool := p.next n.ring.val n.pos.val n.ccw

/-- The key of the node where the packet of a node goes next, in its lane. -/
def nextKey (n : RingNode) (p : Packet) : Nat :=
  nodeKey (nextNode n p).1 (nextNode n p).2.1 (nextNode n p).2.2 n.resp

/-- The device after a stop has let go of its `k`-th taken request. -/
def Device.served (d : Device) (key k : Nat) : Device :=
  d.setTarget key { d.target key with taken := (d.target key).taken.eraseIdx k }

/-- A stop holds `p` as its `k`-th taken request, may perform it now (R281, R282, R284, R347), and answers it at once; no
other request that it has taken waits for its answer's turn alone. -/
def Device.canServe (d : Device) (t : StopId) (k : Nat) (p : Packet) : Bool :=
  stopExists t.die.val t.stop.val && (d.target t.key).taken[k]? == some p && !(d.target t.key).finished p
    && d.mayServe t.key k p && !((d.target t.key).taken.take k).any p.after
    && ((d.target t.key).taken.eraseIdx k).all (fun q => !(d.target t.key).finished q)

/-- A zone whose stop is not isolated, has nothing taken, offered or waiting to launch and stalls no packet, which anchors
no compute link and owns no bank. -/
def Device.calmZone (d : Device) (n : Nat) : Bool :=
  let k := zoneStop n
  let node := stopNode k
  (d.target k).iso == 0 && (d.target k).taken.isEmpty && (d.target k).inq.isEmpty && (d.init k).port.isEmpty
    && (d.init k).held.isEmpty && !d.anchored n && (d.zoneBank n).isNone
    && (d.node (nodeKey node.1 node.2 false false)).isEmpty && (d.node (nodeKey node.1 node.2 true false)).isEmpty

/-- The refusal records that management takes (R632). -/
def RefusalRec.formed (r : RefusalRec) : Bool :=
  decide (r.unit < 4096) && decide (r.reason < 256) && decide (r.index < 256)

/-- MLINK acts on a frame with these fields: it is served, MCK runs, no ring access and no COMMAND reset is under way, and the
CRC is right where it is checked (R61, R62, R79, R117, R133). -/
def Device.hears (d : Device) (cmd addr count : Nat) (payload : List Byte) (crc : BitVec 16) : Bool :=
  d.rst.served && d.board.mck && d.ml.access.isNone && !d.rst.cmdReset
    && (!d.orm.opt.crcOn || crc16 (frameHead cmd addr count payload) == crc.toNat)

/-- From `d` to `e` MLINK has replied with a status and data; beside that only `parts` and `written` change. -/
def Device.Replied (d e : Device) (status : Nat) (data : List Byte) (parts : List Part) (written : Field → Bool) : Prop :=
  e.ml = { access := none, reply := replyBytes status data, rose := d.ml.rose }
    ∧ e.board = { d.board with mcsLow := false } ∧ e.get F.HL_STATUS_LAST_STATUS = status
    ∧ d.Only e (.ml :: .board :: parts) (fun f => written f || fieldsOf [F.HL_STATUS_LAST_STATUS] f)

/-- Nothing follows from a job that ends but its own effect: every die that is ready is joined, none that failed waits to
be fenced, and no changeover is staging or ready (R138, R141, R143, R414, R415). -/
def Device.settled (d : Device) : Bool :=
  decide (d.gaf.co < 2) && fabricDies.all (fun k => !(d.dieReady k && d.fenced k)
    && !(d.dieHasFailed k && !d.fenced k && d.orm.opt.present))

/-- A job of a die that is not a base load, holds no key slot and has no plane in STAGING. -/
def Device.lightJob (d : Device) (k : Nat) : Bool :=
  d.jobRuns k && !d.baseRuns k && (d.gjob k).held.isEmpty && (d.gjob k).staging.isEmpty

/-- No job and no refetch has lost its key slot (R389, R431). -/
def Device.noneLost (d : Device) : Bool :=
  fabricDies.all (fun k => !(d.gjob k).lost
    && (match (d.lehrOf k).refetch with | some r => !r.lost | none => true))

/-- Nothing but its own effect follows from a write of the option and record memory that ends: no key slot in use was
lost, no journal entry waits, no transition is due to reset, the oscillator runs on for its own sake. -/
def Device.endsAlone (d : Device) : Bool :=
  d.noneLost && d.settled && d.orm.entry.isNone && !d.lc.resetDue && !d.rst.oscStop

/-- The counters of the units that pass position 64 of a die's ring (Table 09.10). -/
def unitCounts (die : Nat) : List Field := [F.DR_UNITS_CW_COUNT (U.DR die), F.DR_UNITS_CCW_COUNT (U.DR die)]

/-- The registers that a GO of KS_CMD writes: KS_CMD, KS_KEY0 to KS_KEY7 and KS_WRAP0 to KS_WRAP11. -/
def ksGoFields : List Field :=
  F.KS_CMD_GO.reg :: ((List.range 8).map F.KS_KEY_KEY ++ (List.range 12).map F.KS_WRAP_WRAP)
/-- Every identity port is off. -/
def Device.portsOff (d : Device) : Bool := (List.range 8).all (fun k => d.idState k == 0)

/-- No running cam engine and no mark channel in TRACK follows the position of encoder `k`. -/
def Device.unfollowed (d : Device) (k : Nat) : Bool :=
  (List.range 16).all (fun e => d.get (F.CAM_ENG_CTL_MASTER e) != k || (d.camState e != 2 && d.camState e != 3))
    && (List.range 8).all (fun m => d.get (F.MFE_MK_CFG_ENC m) != k || !d.on (F.MFE_MK_CFG_EN m)
      || !d.on (F.MFE_MK_STATUS_STATE m))

/-- Every cam engine idles, with no chain of predictions. -/
def Device.camsIdle (d : Device) : Bool := (List.range 16).all (fun e => d.camState e == 0 && (d.cam e).chain.isNone)

/-- The board's level reaches an input signal: it is routed from this pin alone, which the device does not drive and whose
supply is good. -/
def Device.routed (d : Device) (c p : Nat) : Bool :=
  d.sigPins c == [p] && d.board.vmio && !(d.pinDrive p).2

/-- A packet with HOPS one less. -/
def Packet.hopped (p : Packet) : Packet := p.withHops (p.hops - 1)

end Sys2Proof.Machine
end

