-- ==== Sys2Proof/Certificates/Slice0/Obligations.lean ====
section
/-! DEFINITION. The statements for the provers: what the commands of each family do, what the block does as a whole, and
the code of stored words. -/

open Sys2Proof Sys2Proof.Machine

/-! ## The block as a whole -/

/-- When a command waits at the front of the queue, a step runs it on the state whose queue is the rest. -/
def Obligations.StepRunsTheFrontCommand : Prop :=
  ∀ (c : Instr) (rest : List Instr) (s : State), s.pending = c :: rest → step s = exec c { s with pending := rest }

/-- On an empty queue a step lets one reference cycle pass (the model's choice, assumption log 1): the queue and the memories
stay, and of the device nothing but the clocks and the count of free values changes. The count of reference cycles advances
by one while the reference is STABLE. Machine time: it stays where it has not started, and where the root is gated and the
reference has failed as well; else it advances by MULT, and in HOLDOVER (with the root not gated, and less than one cycle
kept over from before) by a number of cycles within 2 % of MULT. A die's copy stays where machine time has not started; else
it follows machine time without stepping back while its loop is LOCKED, stays within 2 % of MULT cycles in HOLDOVER, and in
any other state advances by MULT while the reference is STABLE and stays while it is not. -/
def Obligations.IdleStepIsOneReferenceCycle : Prop :=
  ∀ s : State, s.pending = [] → ∃ t, step s = .next t ∧ t.pending = [] ∧ t.mem = s.mem
    ∧ s.dev.Only t.dev [.clk, .free] (fieldsOf [])
    ∧ t.dev.clk.refCycles = s.dev.clk.refCycles + b2n (s.dev.clk.osc == Osc.STABLE)
    ∧ (s.dev.mtAdvances = false → t.dev.clk.mt = s.dev.clk.mt)
    ∧ (s.dev.mtAdvances = true → s.dev.clk.root ≠ Loop.HOLDOVER ∨ s.dev.clk.rootGated = true →
        t.dev.clk.mt = s.dev.clk.mt + s.dev.clk.mult)
    ∧ (s.dev.mtAdvances = true → s.dev.clk.root = Loop.HOLDOVER → s.dev.clk.rootGated = false →
        Tab.get (fun _ => 0) s.dev.clk.fracs 0 < 50 →
        50 * s.dev.clk.mt + 49 * s.dev.clk.mult < 50 * t.dev.clk.mt + 50
        ∧ 50 * t.dev.clk.mt < 50 * s.dev.clk.mt + 51 * s.dev.clk.mult + 50)
    ∧ (s.dev.clk.mtStarted = false → t.dev.clk.copies = s.dev.clk.copies)
    ∧ ∀ k ∈ fabricDies, s.dev.clk.mtStarted = true →
        let old := Tab.get (fun _ => 0) s.dev.clk.copies k
        let now := Tab.get (fun _ => 0) t.dev.clk.copies k
        (s.dev.slave k = Loop.LOCKED → now = max old t.dev.clk.mt)
        ∧ (s.dev.slave k = Loop.HOLDOVER → Tab.get (fun _ => 0) s.dev.clk.fracs k < 50 →
            50 * old + 49 * s.dev.clk.mult < 50 * now + 50 ∧ 50 * now < 50 * old + 51 * s.dev.clk.mult + 50)
        ∧ (s.dev.slave k ≠ Loop.LOCKED → s.dev.slave k ≠ Loop.HOLDOVER →
            now = old + (if s.dev.clk.osc = Osc.STABLE then s.dev.clk.mult else 0))

/-- After reset no command waits, every word of the pool and every row of a block memory reads zero, every register field
reads the reset value of its table, RS_CAUSE is POR, and ZN_INFO tells each zone its die, row and column. A field that a
table gives as live, sensed, scanned or from an image reads 0 until its unit writes it, which is the model's choice
(assumption log 4); of BG_STATUS, which the model starts with a good cell, nothing is claimed. -/
def Obligations.ResetValues : Prop :=
  State.reset.pending = []
  ∧ (∀ a, State.reset.mem.poolRd a = 0 ∧ State.reset.mem.row a = 0)
  ∧ (∀ (key : Nat) (r : RegDesc), regDesc key = some r → key ≠ F.RS_CAUSE_CAUSE.key → key ≠ F.BG_STATUS_ABOVE_WARN.key →
      ¬ (key % 4096 = 0x080 ∧ 512 ≤ key / 4096 ∧ key / 4096 % 512 < 64) →
      ∀ f ∈ r.fields, bits (State.reset.dev.rd key) f.hi f.lo = f.reset)
  ∧ State.reset.dev.get F.RS_CAUSE_CAUSE = 1
  ∧ (∀ z : ZoneId, State.reset.dev.get ⟨zoneUnit z.no * 4096 + 0x080, 10, 8⟩ = zoneDie z.no
      ∧ State.reset.dev.get ⟨zoneUnit z.no * 4096 + 0x080, 5, 3⟩ = z.no % 64 / 8
      ∧ State.reset.dev.get ⟨zoneUnit z.no * 4096 + 0x080, 2, 0⟩ = z.no % 8)

/-- The invariant of StepsKeepCanonicalMemories holds at reset. -/
def Obligations.ResetIsCanonical : Prop :=
  State.reset.memWf = true ∧ State.reset.queueFormed = true

/-- A command whose operands have the lengths that the frames and streams give them answers a next state in every state; any
other stops with the fault that names it. None is refused. -/
def Obligations.FormedCommandsComplete : Prop :=
  ∀ (c : Instr) (s : State), isNext (exec c s) = c.wellFormed
    ∧ (c.wellFormed = false → ∃ mnemonic, exec c s = .fault (.illFormed mnemonic)
        ∧ mnemonic ∈ ["STREAM_HEADER_READ", "GATHER_SEGMENT_READ", "MLINK_WR", "MLINK_WRW"])

/-- A step that answers a next state leaves of the queue what stood behind the front command; a command changes nothing of
the queue it runs with. -/
def Obligations.EveryStepTakesOneCommand : Prop :=
  (∀ (s t : State), step s = .next t → t.pending = s.pending.tail)
  ∧ (∀ (c : Instr) (s t : State), exec c s = .next t → t.pending = s.pending)

/-- From every state whose memories (pool, block memories and configuration frames) are in their canonical form and whose
queue holds well-formed commands, a step answers a next state of which the same is true. -/
def Obligations.StepsKeepCanonicalMemories : Prop :=
  ∀ s : State, s.memWf = true → s.queueFormed = true →
    ∃ t, step s = .next t ∧ t.memWf = true ∧ t.queueFormed = true

/-! ## Reset (chapters 02 and 05) -/

/-- While POR is not asserted, POR_ASSERT by either rail resets the device with RS_CAUSE 1; with MCK running as well,
BROWNOUT_P resets it with 2, RST_N_RESET while RST_N is low and no RST_N reset is under way with 3, WATCHDOG_EXPIRE with the
watchdog on and its count at 0 with 6, and COMMAND_RESET after an accepted RS_CMD.DEVICE with 7. Each puts the pins in phase
A and leaves no state of a zone, no configuration frame, and the listed words of the pool (step 8 of start-up fills them).
POR_ASSERT and BROWNOUT_P mark the rail that fell, and leave an empty Cullet; BROWNOUT_P keeps the life-cycle fuses. An
RST_N reset keeps the option and record memory, the fuses, the battery state, the Cullet log and the pins, and its start-up
waits for the release; the watchdog and the command keep the battery state and the Cullet log. All but POR_ASSERT and
RST_N_RESET bring start-up to step 3; COMMAND_RESET is where MCS_N rises. -/
def Obligations.DeviceResetRecordsItsSource : Prop :=
  let cleared (s : State) (d : Device) (m : Stores) : Prop :=
    d.rst.phase = 0 ∧ d.zones = [] ∧ m.frames = [] ∧ m.pool = s.mem.pool
  (∀ (s : State) (aux : Bool), s.dev.rst.por = false →
    completesMem (.porAssert aux) s (fun d m => d.get F.RS_CAUSE_CAUSE = 1 ∧ cleared s d m ∧ d.rst.por = true
      ∧ d.cul = .idle
      ∧ d.board = if aux then { s.dev.board with vccaux := false } else { s.dev.board with vccp := false }))
  ∧ (∀ s : State, s.dev.rst.por = false → s.dev.board.mck = true →
    completesMem .brownoutP s (fun d m => d.get F.RS_CAUSE_CAUSE = 2 ∧ cleared s d m
      ∧ d.get F.RS_STATUS_STATE = Rs.OPTIONS ∧ d.cul = .idle ∧ d.fuses.lc0 = s.dev.fuses.lc0
      ∧ d.fuses.lc1 = s.dev.fuses.lc1 ∧ d.board = { s.dev.board with vccp := false }))
  ∧ (∀ s : State, s.dev.rst.por = false → s.dev.board.mck = true → s.dev.board.rstLow = true →
      s.dev.rst.rstActive = false →
    completesMem .rstNReset s (fun d m => d.get F.RS_CAUSE_CAUSE = 3 ∧ cleared s d m ∧ d.rst.rstActive = true
      ∧ d.rst.startPending = true ∧ d.orm = s.dev.orm ∧ d.fuses = s.dev.fuses ∧ d.bat = s.dev.bat
      ∧ d.cul.log = s.dev.cul.log ∧ d.board = s.dev.board))
  ∧ (∀ s : State, s.dev.rst.por = false → s.dev.board.mck = true → s.dev.wdogOn = true →
      s.dev.get F.RS_WDOG_LEFT_TICKS = 0 →
    completesMem .watchdogExpire s (fun d m => d.get F.RS_CAUSE_CAUSE = 6 ∧ cleared s d m
      ∧ d.get F.RS_STATUS_STATE = Rs.OPTIONS ∧ d.bat = s.dev.bat ∧ d.cul.log = s.dev.cul.log
      ∧ d.board = s.dev.board))
  ∧ (∀ s : State, s.dev.rst.por = false → s.dev.board.mck = true → s.dev.rst.cmdReset = true →
    completesMem .commandReset s (fun d m => d.get F.RS_CAUSE_CAUSE = 7 ∧ cleared s d m
      ∧ d.get F.RS_STATUS_STATE = Rs.OPTIONS ∧ d.rst.cmdReset = false ∧ d.bat = s.dev.bat
      ∧ d.cul.log = s.dev.cul.log ∧ d.board = { s.dev.board with mcsLow := false }))

/-- With MCK running and RST_N high, POR_RELEASE under POR ends POR with both rails good, and RST_N_RELEASE begins a start-up
that waits; each brings start-up to step 3, with FUSE_UNSTABLE as the fuse reads were. RST_N_FALL outside POR clamps and
sets CLAMP_SEEN, RST_N_RISE ends the clamp, and neither changes anything else. While MCK runs and no power entry, power state
or wake is under way, WDOG_WARN at half of WDOG_TICKS raises its event. While MCK runs, a kick with 0x6B1C loads
RS_WDOG_LEFT with WDOG_TICKS and changes nothing else; a kick with another value, and RS_CMD without its key 0xC3, are
refused with RESERVED_VALUE and change nothing but what a refusal does; RS_CMD with its key waits for MCS_N, low until the
frame ends, and changes nothing else. -/
def Obligations.ResetPinsAndWatchdog : Prop :=
  (∀ (s : State) (u : Bool), s.dev.rst.por = true → s.dev.board.mck = true → s.dev.board.rstLow = false →
    completes (.porRelease u) s (fun d => d.rst.por = false
      ∧ d.board = { s.dev.board with vccp := true, vccaux := true } ∧ d.get F.RS_STATUS_STATE = Rs.OPTIONS
      ∧ d.get F.RS_STATUS_FUSE_UNSTABLE = b2n u ∧ d.rst.startPending = false))
  ∧ (∀ (s : State) (u : Bool), s.dev.rst.startPending = true → s.dev.rst.por = false → s.dev.board.mck = true →
      s.dev.board.rstLow = false →
    completes (.rstNRelease u) s (fun d => d.get F.RS_STATUS_STATE = Rs.OPTIONS
      ∧ d.get F.RS_STATUS_FUSE_UNSTABLE = b2n u ∧ d.rst.startPending = false ∧ d.rst.rstActive = false
      ∧ d.board = s.dev.board))
  ∧ (∀ s : State, s.dev.rst.por = false →
    completes .rstNFall s (fun d => d.board = { s.dev.board with rstLow := true }
      ∧ d.get F.RS_STATUS_CLAMP_SEEN = 1
      ∧ s.dev.Only d [.board] (fieldsOf [F.RS_STATUS_CLAMP_SEEN])))
  ∧ (∀ s : State,
    completes .rstNRise s (fun d => d = { s.dev with board := { s.dev.board with rstLow := false } }))
  ∧ (∀ s : State, s.dev.running = true → s.dev.wdogOn = true →
      s.dev.get F.RS_WDOG_LEFT_TICKS = s.dev.orm.opt.wdogTicks / 2 →
    completes .wdogWarn s (fun d => d.latched Ev.WDOG_WARN = true ∧ s.dev.OnlyNoted d [] (fieldsOf [])))
  ∧ (∀ s : State, s.dev.board.mck = true → s.dev.wdogOn = true →
    completes (.rsWdogKick 0x6B1C) s (fun d =>
      d.get F.RS_WDOG_LEFT_TICKS = s.dev.orm.opt.wdogTicks % 65536 ∧ s.dev.Only d [] (fieldsOf [F.RS_WDOG_LEFT_TICKS])))
  ∧ (∀ (s : State) (v : BitVec 16), s.dev.board.mck = true → v ≠ 0x6B1C →
    completes (.rsWdogKick v) s (fun d => d.get F.RS_REFUSE_REASON = Reason.reservedValue.code
      ∧ s.dev.OnlyNoted d s.dev.hookParts (fieldsOf [F.RS_REFUSE_REASON.reg])))
  ∧ (∀ s : State, s.dev.board.mck = true →
    completes (.rsCmdDevice 0xC3) s (fun d =>
      d = { s.dev with rst := { s.dev.rst with cmdReset := true }, board := { s.dev.board with mcsLow := true } }))
  ∧ (∀ (s : State) (k : BitVec 8), s.dev.board.mck = true → k ≠ 0xC3 →
    completes (.rsCmdDevice k) s (fun d => d.get F.RS_REFUSE_REASON = Reason.reservedValue.code
      ∧ s.dev.OnlyNoted d s.dev.hookParts (fieldsOf [F.RS_REFUSE_REASON.reg])))

/-- All on a running MCK. The 100 ms limit, while it counts, ends and fails every die that is neither ready nor failed: under
DIESET_POLICY = ALL with no die fenced its reason reads 1 without VCCINT, else 4, a reason recorded before stays, and nothing
else changes; under PRESENT every die that is not ready is then fenced. DIESET_POLICY_APPLY in STATE LOADING, once every die
is ready or has failed: with no die ready STATE reads MGMT_ONLY; with some, but not all, ready under ALL it reads STALLED;
with some ready under PRESENT, or with all ready, it reads WAIT_DIES and the ready dies go to step 10; the limit ends, and
nothing else changes. In WAIT_DIES with dies in step 10 and HOLD_GOE 0, RELEASE_GOE reads GOE, begins pin phase C, and puts
the loaded zones of those dies at GOE with plane 0 ACTIVE; pins, option and record memory, keys, pool and Gaffer stay. In
GOE with HOLD_GWE 0, RELEASE_GWE puts their zones that stand at GOE at GWE and reads GWE, with nothing else changed. In GWE
with HOLD_GRR 0 and no power entry, power state or wake under way, RELEASE_GRR puts those that stand at GWE at GRR, reads
RUN, marks the dies released and raises RELEASE_DONE, with nothing else changed but their Lehrs. With its hold bit 1 each of
the three changes nothing. -/
def Obligations.DieSetAndStagedRelease : Prop :=
  (∀ s : State, s.dev.board.mck = true → s.dev.rst.limitOn = true → s.dev.orm.opt.present = false →
      s.dev.get F.RS_STATUS_DIE_FENCED = 0 →
    completes .dieLimitExpire s (fun d => d.rst = { s.dev.rst with limitOn := false, late := [] }
      ∧ (∀ k ∈ fabricDies, s.dev.dieReady k = false → s.dev.dieHasFailed k = false →
          bits (d.rd F.RS_DIE_FAIL_F1.key) (4 * k - 1) (4 * k - 4) = if s.dev.board.vccint then 4 else 1)
      ∧ (∀ k ∈ fabricDies, (s.dev.dieReady k || s.dev.dieHasFailed k) = true →
          bits (d.rd F.RS_DIE_FAIL_F1.key) (4 * k - 1) (4 * k - 4)
            = bits (s.dev.rd F.RS_DIE_FAIL_F1.key) (4 * k - 1) (4 * k - 4))
      ∧ s.dev.Only d [.rst] (fieldsOf [F.RS_DIE_FAIL_F1.reg])))
  ∧ (∀ s : State, s.dev.board.mck = true → s.dev.rst.limitOn = true → s.dev.orm.opt.present = true →
    completes .dieLimitExpire s (fun d => d.rst.limitOn = false
      ∧ ∀ k ∈ fabricDies, s.dev.dieReady k = false → d.fenced k = true))
  ∧ (∀ s : State, s.dev.board.mck = true → s.dev.get F.RS_STATUS_STATE = Rs.LOADING →
      (∀ k ∈ fabricDies, (s.dev.dieReady k || s.dev.dieHasFailed k) = true) →
    completes .diesetPolicyApply s (fun d =>
      ((∀ k ∈ fabricDies, s.dev.dieReady k = false) → d.get F.RS_STATUS_STATE = Rs.MGMT_ONLY ∧ d.rst.rel = s.dev.rst.rel)
      ∧ ((∃ k ∈ fabricDies, s.dev.dieReady k = true) → (∃ k ∈ fabricDies, s.dev.dieReady k = false) →
          s.dev.orm.opt.present = false → d.get F.RS_STATUS_STATE = Rs.STALLED ∧ d.rst.rel = s.dev.rst.rel)
      ∧ ((∃ k ∈ fabricDies, s.dev.dieReady k = true) → s.dev.orm.opt.present = true →
          d.get F.RS_STATUS_STATE = Rs.WAIT_DIES ∧ d.rst.rel = fabricDies.filter s.dev.dieReady)
      ∧ ((∀ k ∈ fabricDies, s.dev.dieReady k = true) →
          d.get F.RS_STATUS_STATE = Rs.WAIT_DIES ∧ d.rst.rel = fabricDies)
      ∧ d.rst = { s.dev.rst with limitOn := false, rel := d.rst.rel }
      ∧ s.dev.Only d [.rst] (fieldsOf [F.RS_STATUS_STATE])))
  ∧ (∀ s : State, s.dev.board.mck = true → s.dev.get F.RS_STATUS_STATE = Rs.WAIT_DIES → s.dev.rst.rel ≠ [] →
      s.dev.get F.RS_RELEASE_HOLD_HOLD_GOE = 0 → (∀ k ∈ s.dev.rst.rel, k ∈ fabricDies) →
    completes .releaseGoe s (fun d => d.rst.phase = 2 ∧ d.rst.brownActive = false ∧ d.rst.rel = s.dev.rst.rel
      ∧ d.get F.RS_STATUS_STATE = Rs.GOE ∧ d.board = s.dev.board ∧ d.orm = s.dev.orm ∧ d.keys = s.dev.keys
      ∧ d.pool = s.dev.pool ∧ d.gaf = s.dev.gaf
      ∧ (∀ k ∈ s.dev.rst.rel, ∀ n ∈ s.dev.loadedZones k, (d.zone n).stage = .goe
          ∧ d.get (F.ZN_PLANE_STATE0 (zoneUnit n)) = Pl.ACTIVE)))
  ∧ (∀ s : State, s.dev.get F.RS_STATUS_STATE = Rs.WAIT_DIES → s.dev.get F.RS_RELEASE_HOLD_HOLD_GOE = 1 →
    completes .releaseGoe s (fun d => d = s.dev))
  ∧ (∀ s : State, s.dev.board.mck = true → s.dev.get F.RS_STATUS_STATE = Rs.GOE →
      s.dev.get F.RS_RELEASE_HOLD_HOLD_GWE = 0 →
    completes .releaseGwe s (fun d => d.get F.RS_STATUS_STATE = Rs.GWE
      ∧ (∀ k ∈ s.dev.rst.rel, ∀ n ∈ dieZones k, (s.dev.zone n).stage = .goe → (d.zone n).stage = .gwe)
      ∧ s.dev.Only d [.zones] (fieldsOf [F.RS_STATUS_STATE])))
  ∧ (∀ s : State, s.dev.get F.RS_STATUS_STATE = Rs.GOE → s.dev.get F.RS_RELEASE_HOLD_HOLD_GWE = 1 →
    completes .releaseGwe s (fun d => d = s.dev))
  ∧ (∀ s : State, s.dev.running = true → s.dev.get F.RS_STATUS_STATE = Rs.GWE →
      s.dev.get F.RS_RELEASE_HOLD_HOLD_GRR = 0 →
    completes .releaseGrr s (fun d => d.get F.RS_STATUS_STATE = Rs.RUN ∧ d.latched Ev.RELEASE_DONE = true
      ∧ d.rst.rel = [] ∧ (∀ k ∈ s.dev.rst.rel, k ∈ d.rst.released)
      ∧ (∀ k ∈ s.dev.rst.rel, ∀ n ∈ dieZones k, (s.dev.zone n).stage = .gwe → (d.zone n).stage = .grr)
      ∧ s.dev.OnlyNoted d [.zones, .lehr, .rst] (fieldsOf [F.RS_STATUS_STATE])))
  ∧ (∀ s : State, s.dev.get F.RS_STATUS_STATE = Rs.GWE → s.dev.get F.RS_RELEASE_HOLD_HOLD_GRR = 1 →
    completes .releaseGrr s (fun d => d = s.dev))

/-- VCCINT_FALL outside POR with MCK running, no power entry, power state or wake under way and the latch clear: the rail is
marked, the brown-out is held pending, every fabric die is cut off and clamped, VCCINT_FELL latches with SUPPLY_WARN, and every
zone clock that is not STOPPED is GATED. BROWNOUT_INT in RUN, with VCCINT low, a stable reference and no job, refetch, swap or
changeover: RS_CAUSE 8, STATE LOOPS, the start limit counts, and zones, banks, lanes, frames, slave loops and readiness are
lost, the bridges DOWN. VCCINT_GOOD in RUN marks the rail (without MCK it also
keeps what the dies' bring-up will find); after a brown-out, with the root LOCKED and no die ready,
failed, fenced, loading or waiting, it marks the rail and sets every slave acquiring, its die waiting. PAD_SUPPLY_FALL marks
its rail and latches it (VCCP has no latch), without VLANE the loops that acquire or are locked are LOST; PAD_SUPPLY_GOOD
restores the rail. On a path of an open bridge where a packet waits: a fatal stall under BRIDGE_FATAL = FENCE fences the die
with reason 5 where DIESET_POLICY is PRESENT or its release has begun, else the bridge reads FAILED and the die is not ready
(the model's reading, assumption log 146); under RESET the device resets with cause BRIDGE_FATAL of that die. Parity errors in
units of that packet, fewer than ERR_LIMIT and with none noted before, are counted and noted one each with BRIDGE_ERROR; in
none of its units they change nothing. CLR_CNT clears the count and nothing else. -/
def Obligations.SuppliesAndBridges : Prop :=
  (∀ s : State, s.dev.running = true → s.dev.rst.por = false → s.dev.get F.MG_SUPPLY_LATCH_VCCINT_FELL = 0 →
    completes .vccintFall s (fun d => d.board = { s.dev.board with vccint := false }
      ∧ d.rst = { s.dev.rst with brownPending := true, brdFence := fabricDies, clamped := fabricDies }
      ∧ d.get F.MG_SUPPLY_LATCH_VCCINT_FELL = 1 ∧ d.latched Ev.SUPPLY_WARN = true
      ∧ (∀ n ∈ zoneNumbers, d.zcState n = if s.dev.zcState n = Zc.STOPPED then Zc.STOPPED else Zc.GATED)
      ∧ d.clk = s.dev.clk ∧ d.orm = s.dev.orm ∧ d.keys = s.dev.keys ∧ d.bat = s.dev.bat))
  ∧ (∀ (s : State) (ups : DiesUp), s.dev.rst.brownPending = true → s.dev.running = true → s.dev.rst.por = false →
      s.dev.get F.RS_STATUS_STATE = Rs.RUN → s.dev.clk.osc = Osc.STABLE → s.dev.board.vccint = false →
      s.dev.dormant = false → s.dev.gaf.co = 0 → s.dev.gaf.swapSet = [] →
      (∀ k ∈ fabricDies, s.dev.jobRuns k = false ∧ (s.dev.lehrOf k).refetch = none) →
    completesMem (.brownoutInt ups) s (fun d m => d.get F.RS_CAUSE_CAUSE = 8 ∧ d.get F.RS_STATUS_STATE = Rs.LOOPS
      ∧ d.rst.brownPending = false ∧ d.rst.brownActive = true ∧ d.rst.limitOn = true ∧ d.zones = [] ∧ d.banks = []
      ∧ d.lanes = [] ∧ d.clk.slaves = [] ∧ d.get F.RS_STATUS_DIE_READY = 0
      ∧ (∀ k ∈ fabricDies, d.get (F.BR_STATUS_STATE (U.BR k)) = Br.DOWN)
      ∧ d.board = s.dev.board ∧ d.orm = s.dev.orm ∧ d.keys = s.dev.keys ∧ d.bat = s.dev.bat
      ∧ m.frames = []))
  ∧ (∀ (s : State) (ups : DiesUp), s.dev.rst.por = false → s.dev.rst.brownPending = false →
      s.dev.rst.brownActive = false → s.dev.get F.RS_STATUS_STATE = Rs.RUN →
    completes (.vccintGood ups) s (fun d => d = { s.dev with
      board := { s.dev.board with vccint := true },
      rst := if s.dev.board.mck then s.dev.rst else { s.dev.rst with found := ups } }))
  ∧ (∀ (s : State) (ups : DiesUp), s.dev.board.mck = true → s.dev.rst.por = false → s.dev.rst.brownPending = false →
      s.dev.rst.brownActive = true → s.dev.clk.root = Loop.LOCKED → s.dev.get F.RS_STATUS_DIE_READY = 0 →
      s.dev.rd F.RS_DIE_FAIL_F1.key = 0 → s.dev.get F.RS_STATUS_DIE_FENCED = 0 → s.dev.rst.late = [] →
      (∀ k ∈ fabricDies, s.dev.jobRuns k = false) → s.dev.orm.opt.present = false →
    completes (.vccintGood ups) s (fun d => d.board = { s.dev.board with vccint := true }
      ∧ d.rst = { s.dev.rst with late := fabricDies, found := ups } ∧ (∀ k ∈ fabricDies, d.slave k = Loop.ACQUIRING)
      ∧ s.dev.Only d [.board, .rst, .clk] (fieldsOf [])))
  ∧ (∀ s : State, s.dev.running = true → s.dev.rst.por = false → s.dev.get F.MG_SUPPLY_LATCH_VMIO_FELL = 0 →
    completes (.padSupplyFall .vmio) s (fun d => d.board = { s.dev.board with vmio := false }
      ∧ d.get F.MG_SUPPLY_LATCH_VMIO_FELL = 1 ∧ d.latched Ev.SUPPLY_WARN = true
      ∧ s.dev.OnlyNoted d [.board] (fieldsOf [F.MG_SUPPLY_LATCH_VCCINT_FELL.reg])))
  ∧ (∀ (s : State) (k : Fin 32), s.dev.running = true → s.dev.rst.por = false → bit (s.dev.get F.MG_VCCIO_LATCH_BANK) k.val = false →
    completes (.padSupplyFall (.vccio k)) s (fun d => k.val ∈ d.board.vccioBad
      ∧ bit (d.get F.MG_VCCIO_LATCH_BANK) k.val = true ∧ d.get F.MG_SUPPLY_LATCH_VCCIO_ANY = 1
      ∧ d.latched Ev.SUPPLY_WARN = true
      ∧ s.dev.OnlyNoted d [.board] (fieldsOf [F.MG_SUPPLY_LATCH_VCCINT_FELL.reg, F.MG_VCCIO_LATCH_BANK])))
  ∧ (∀ s : State, s.dev.running = true → s.dev.rst.por = false →
    completes (.padSupplyFall .vlanet) s (fun d => d.board = { s.dev.board with vlanet := false }
      ∧ d.get F.MG_SUPPLY_LATCH_VLANET_FELL = 1
      ∧ s.dev.OnlyNoted d [.board] (fieldsOf [F.MG_SUPPLY_LATCH_VCCINT_FELL.reg]))
    ∧ completes (.padSupplyFall .vlane) s (fun d => d.board = { s.dev.board with vlane := false }
      ∧ d.get F.MG_SUPPLY_LATCH_VLANE_FELL = 1
      ∧ ∀ k, k < 24 → d.quadState k = if s.dev.quadState k = 1 ∨ s.dev.quadState k = 2 then 3 else s.dev.quadState k))
  ∧ (∀ s : State, completes (.padSupplyGood .vlane) s (fun d => d.board = { s.dev.board with vlane := true }
      ∧ ∀ k, k < 24 → s.dev.quadState k ≠ 3 → d.quadState k = s.dev.quadState k))
  ∧ (∀ s : State, completes (.padSupplyFall .vccp) s (fun d => d = { s.dev with board := { s.dev.board with vccp := false } })
      ∧ completes (.padSupplyGood .vccp) s (fun d => d = { s.dev with board := { s.dev.board with vccp := true } }))
  ∧ (∀ s : State, completes (.padSupplyGood .vmio) s (fun d => d = { s.dev with board := { s.dev.board with vmio := true } })
      ∧ completes (.padSupplyGood .vlanet) s (fun d => d = { s.dev with board := { s.dev.board with vlanet := true } })
      ∧ ∀ k : Fin 32, completes (.padSupplyGood (.vccio k)) s (fun d => d = { s.dev with
          board := { s.dev.board with vccioBad := s.dev.board.vccioBad.filter (· != k.val) } }))
  ∧ (∀ (s : State) (k : Die) (p : Fin 4), s.dev.bridgeOpen k.no = true → (s.dev.pathNode k.no p.val).isSome = true →
      s.dev.orm.opt.bridgeReset = false → (s.dev.orm.opt.present || s.dev.dieOut k.no) = true →
      s.dev.get F.PW_STATUS_PHASE = 0 → s.dev.gaf.swapSet = [] →
    completes (.bridgeStallFatal k p) s (fun d => d.fenced k.no = true
      ∧ bits (d.rd F.RS_DIE_FAIL_F1.key) (4 * k.no - 1) (4 * k.no - 4) = 5
      ∧ d.board = s.dev.board ∧ d.orm = s.dev.orm ∧ d.clk = s.dev.clk))
  ∧ (∀ (s : State) (k : Die) (p : Fin 4), s.dev.bridgeOpen k.no = true → (s.dev.pathNode k.no p.val).isSome = true →
      s.dev.orm.opt.bridgeReset = false → s.dev.orm.opt.present = false → s.dev.dieOut k.no = false →
    completes (.bridgeStallFatal k p) s (fun d => d.get (F.BR_STATUS_STATE (U.BR k.no)) = Br.FAILED
      ∧ d.dieReady k.no = false ∧ d.dieHasFailed k.no = true ∧ d.fenced k.no = false
      ∧ (s.dev.get F.RS_STATUS_STATE = Rs.WAIT_DIES → d.get F.RS_STATUS_STATE = Rs.STALLED ∧ d.rst.rel = [])
      ∧ (s.dev.get F.RS_STATUS_STATE ≠ Rs.WAIT_DIES → d.get F.RS_STATUS_STATE = s.dev.get F.RS_STATUS_STATE
          ∧ d.rst = s.dev.rst)
      ∧ d.board = s.dev.board ∧ d.orm = s.dev.orm ∧ d.clk = s.dev.clk))
  ∧ (∀ (s : State) (k : Die) (p : Fin 4), s.dev.bridgeOpen k.no = true → (s.dev.pathNode k.no p.val).isSome = true →
      s.dev.orm.opt.bridgeReset = true → s.dev.board.mck = true →
    completesMem (.bridgeStallFatal k p) s (fun d m => d.get F.RS_CAUSE_DIE = k.no
      ∧ d.get F.RS_CAUSE_CAUSE = ResetSource.bridgeFatal.code ∧ d.get F.RS_STATUS_STATE = Rs.OPTIONS ∧ d.zones = []
      ∧ m.frames = []))
  ∧ (∀ (s : State) (k : Die) (p : Fin 4) (units : BitVec 17) (ccw resp : Bool) (q : Packet) (rest : List Packet),
      let r := if p.val % 2 = 0 then 5 else k.no
      let pos := if p.val % 2 = 0 then k.no else 64
      let bad := (List.range q.units).filter (bit units.toNat)
      s.dev.bridgeOpen k.no = true → s.dev.pathNode k.no p.val = some (ccw, resp) →
      s.dev.node (nodeKey r pos ccw resp) = q :: rest →
      (bad = [] → completes (.bridgeParityError k p units) s (fun d => d = s.dev))
      ∧ (bad ≠ [] → s.dev.running = true → s.dev.brErrs = [] →
          bad.length < s.dev.get (F.BR_FATAL_CFG_ERR_LIMIT (U.BR k.no)) →
        completes (.bridgeParityError k p units) s (fun d =>
          d.get (F.BR_ERR_CNT_COUNT (U.BR k.no)) = min (s.dev.get (F.BR_ERR_CNT_COUNT (U.BR k.no)) + bad.length) 65535
          ∧ Tab.get (fun _ => []) d.brErrs k.no = List.replicate bad.length s.dev.clk.refCycles
          ∧ d.latched Ev.BRIDGE_ERROR = true ∧ d.board = s.dev.board ∧ d.clk = s.dev.clk)))
  ∧ (∀ (s : State) (k : Die), s.dev.board.mck = true →
    completes (.brClrCnt k) s (fun d => d.get (F.BR_ERR_CNT_COUNT (U.BR k.no)) = 0
      ∧ s.dev.Only d [] (fieldsOf [F.BR_ERR_CNT_COUNT (U.BR k.no)])))

/-! ## Loops and the reference (chapter 06) -/

/-- With MCK running, RELOCK while it reads 0, the reference is STABLE and no zone with an active plane depends on the root
gates the root, which acquires at the new MULT, reacquires every slave that was not off, moves every service domain to the
reference, drops an epoch that was due, sets MT_COARSE and reads 1; while it reads 1 or a zone depends on the root it is
refused with BUSY, else without a stable reference with NO_TIMEBASE. OSC_RESTART starts a FAILED reference and reads 1; in any
other state of it it is refused with BUSY. A refusal changes nothing but what a refusal does. A read of CK_MT_LO captures the
high word of machine time and changes nothing else. The root monitor counts 400 × MULT with the root's output on and not in
HOLDOVER, within 2 % of that in HOLDOVER, and 0 while the output is gated or the reference is not stable. -/
def Obligations.ClockUnitCommands : Prop :=
  (∀ s : State, s.dev.board.mck = true → s.dev.on F.CK_CMD_RELOCK = false → s.dev.clk.osc = Osc.STABLE →
      zoneNumbers.any (fun n => s.dev.zoneActive n && s.dev.usesRoot n) = false →
    completes .ckRelock s (fun d => d.clk.root = Loop.ACQUIRING ∧ d.clk.rootGated = true ∧ d.clk.svcRef = 0xFFFFF
      ∧ d.clk.mult = s.dev.get F.CK_ROOT_CFG_MULT ∧ d.clk.epochDue = none ∧ d.clk.mt = s.dev.clk.mt
      ∧ (∀ k, k ∈ fabricDies → d.slave k = if s.dev.slave k = Loop.OFF then Loop.OFF else Loop.ACQUIRING)
      ∧ d.get F.CK_STATUS_MT_COARSE = 1 ∧ d.get F.CK_CMD_RELOCK = 1
      ∧ s.dev.Only d [.clk] (fieldsOf [F.CK_MT_PERIOD_PERIOD_FS, F.CK_STATUS_MT_COARSE, F.CK_CMD_RELOCK])))
  ∧ (∀ s : State, s.dev.board.mck = true → (s.dev.on F.CK_CMD_RELOCK = true
      ∨ ∃ n ∈ zoneNumbers, s.dev.zoneActive n = true ∧ s.dev.usesRoot n = true) →
    completes .ckRelock s (fun d => d.get F.CK_REFUSE_REASON = Reason.busy.code
      ∧ s.dev.OnlyNoted d s.dev.hookParts (fieldsOf [F.CK_REFUSE_REASON.reg])))
  ∧ (∀ s : State, s.dev.board.mck = true → s.dev.on F.CK_CMD_RELOCK = false → s.dev.clk.osc ≠ Osc.STABLE →
      zoneNumbers.any (fun n => s.dev.zoneActive n && s.dev.usesRoot n) = false →
    completes .ckRelock s (fun d => d.get F.CK_REFUSE_REASON = Reason.noTimebase.code
      ∧ s.dev.OnlyNoted d s.dev.hookParts (fieldsOf [F.CK_REFUSE_REASON.reg])))
  ∧ (∀ s : State, s.dev.board.mck = true → s.dev.clk.osc = Osc.FAILED →
    completes .oscRestart s (fun d => d.clk = { s.dev.clk with osc := Osc.STARTING }
      ∧ d.get F.CK_CMD_OSC_RESTART = 1 ∧ s.dev.Only d [.clk] (fieldsOf [F.CK_CMD_OSC_RESTART])))
  ∧ (∀ s : State, s.dev.board.mck = true → s.dev.clk.osc ≠ Osc.FAILED →
    completes .oscRestart s (fun d => d.get F.CK_REFUSE_REASON = Reason.busy.code
      ∧ s.dev.OnlyNoted d s.dev.hookParts (fieldsOf [F.CK_REFUSE_REASON.reg])))
  ∧ (∀ s : State,
    completes .ckMtLoRead s (fun d =>
      d = { s.dev with clk := { s.dev.clk with captMt := some (s.dev.clk.mt / 2 ^ 32 % 2 ^ 32) } }))
  ∧ (∀ s : State, s.dev.clk.rootGated = false → s.dev.clk.osc = Osc.STABLE → s.dev.clk.root ≠ Loop.HOLDOVER →
    completes .rootMonUpdate s (fun d => d.get F.CK_ROOT_MON_COUNT
        = 400 * s.dev.clk.mult % 2 ^ (F.CK_ROOT_MON_COUNT.hi + 1)
      ∧ s.dev.Only d [.free] (fieldsOf [F.CK_ROOT_MON_COUNT])))
  ∧ (∀ s : State, s.dev.clk.rootGated = false → s.dev.clk.osc = Osc.STABLE → s.dev.clk.root = Loop.HOLDOVER →
    completes .rootMonUpdate s (fun d => (∃ n, 392 * s.dev.clk.mult ≤ n ∧ n ≤ 408 * s.dev.clk.mult
        ∧ d.get F.CK_ROOT_MON_COUNT = n % 2 ^ (F.CK_ROOT_MON_COUNT.hi + 1))
      ∧ s.dev.Only d [.free] (fieldsOf [F.CK_ROOT_MON_COUNT])))
  ∧ (∀ s : State, s.dev.clk.rootGated = true ∨ s.dev.clk.osc ≠ Osc.STABLE →
    completes .rootMonUpdate s (fun d => d.get F.CK_ROOT_MON_COUNT = 0
      ∧ s.dev.Only d [.free] (fieldsOf [F.CK_ROOT_MON_COUNT])))

/-- A GO or RAMP written to a zone of a die whose refusal queue has room stores SRC and DIV, and is judged. While it switches or
ramps, or GO or RAMP reads 1, it is refused with BUSY; else, towards the root, with DIV_RANGE for a divider below 4, above
4096 or too fast for MULT, and with LOOP_UNLOCKED where the loop is not locked; a RAMP onto the reference, with its loop
locked, with RESERVED_VALUE. A refusal changes nothing else but what a refusal does. Accepted on a configured zone: a GO from
ROOT, REF or RIDING starts a stop-switch-restart to its target, STATE SWITCHING and GO 1; a RAMP from ROOT to another divider
starts with the STEP and DWELL of ZN_RAMP, STATE RAMPING and RAMP 1; to the divider in force it changes no clock and raises
RAMP_DONE at once (MCK running, no power entry, power state or wake, the zone's die not silent); from REF it is a switch,
STATE SWITCHING and RAMP 1. On a zone that is not configured, or STOPPED, it changes only what the next release takes. On one
that is GATED, or held by anything but its policy, GO or RAMP reads 1 and waits (the model's choice, assumption log 124). -/
def Obligations.ZoneClockCommands : Prop :=
  let idle (d : Device) (n : Nat) : Prop := d.refusalsFull (zoneDie n) = false ∧ d.zcState n ≠ Zc.SWITCHING
    ∧ d.zcState n ≠ Zc.RAMPING ∧ d.on (F.ZN_CLK_CTL_GO (zoneUnit n)) = false ∧ d.on (F.ZN_CLK_CTL_RAMP (zoneUnit n)) = false
  let fits (d : Device) (n div : Nat) : Prop := 4 ≤ div ∧ div ≤ 4096 ∧ d.clk.mult ≤ 15 * div ∧ d.loopLocked n = true
  let stored (n : Nat) : List Field := [F.ZN_CLK_CTL_SRC (zoneUnit n), F.ZN_CLK_CTL_DIV (zoneUnit n)]
  let refused (d : Device) (n : Nat) (why : Reason) (e : Device) : Prop :=
    e.get (F.ZN_REFUSE_REASON (zoneUnit n)) = why.code
      ∧ d.OnlyNoted e [] (fieldsOf ((F.ZN_REFUSE_REASON (zoneUnit n)).reg :: stored n))
  (∀ (s : State) (z : ZoneId) (ref : Bool) (div : BitVec 13), idle s.dev z.no → s.dev.zoneActive z.no = true →
      (s.dev.zcState z.no = Zc.ROOT ∨ s.dev.zcState z.no = Zc.REF ∨ s.dev.zcState z.no = Zc.RIDING) →
      (ref = true ∨ fits s.dev z.no div.toNat) →
    completes (.znClkGo z ref div) s (fun d => d.zcState z.no = Zc.SWITCHING
      ∧ d.get (F.ZN_CLK_CTL_GO (zoneUnit z.no)) = 1 ∧ d.get (F.ZN_CLK_CTL_SRC (zoneUnit z.no)) = b2n ref
      ∧ d.get (F.ZN_CLK_CTL_DIV (zoneUnit z.no)) = div.toNat ∧ (d.zone z.no).clk.toRef = ref
      ∧ (d.zone z.no).clk.toDiv = div.toNat ∧ (d.zone z.no).clk.ending = .switchDone
      ∧ (∀ m, m ≠ z.no → d.zone m = s.dev.zone m)
      ∧ s.dev.Only d [.zones] (fieldsOf (F.ZN_CLK_CTL_GO (zoneUnit z.no) :: F.ZN_CLK_STATUS_STATE (zoneUnit z.no)
          :: stored z.no))))
  ∧ (∀ (s : State) (z : ZoneId) (div : BitVec 13), idle s.dev z.no → s.dev.zoneActive z.no = true →
      s.dev.zcState z.no = Zc.ROOT → fits s.dev z.no div.toNat →
      s.dev.get (F.ZN_CLK_STATUS_DIV_NOW (zoneUnit z.no)) ≠ div.toNat →
    completes (.znClkRamp z false div) s (fun d => d.zcState z.no = Zc.RAMPING
      ∧ d.get (F.ZN_CLK_CTL_RAMP (zoneUnit z.no)) = 1 ∧ (d.zone z.no).clk.rampTo = div.toNat
      ∧ (d.zone z.no).clk.rampStep = s.dev.get (F.ZN_RAMP_STEP (zoneUnit z.no))
      ∧ (d.zone z.no).clk.rampDwell = s.dev.get (F.ZN_RAMP_DWELL (zoneUnit z.no))
      ∧ (d.zone z.no).clk.rampLeft = s.dev.get (F.ZN_RAMP_DWELL (zoneUnit z.no))
      ∧ (∀ m, m ≠ z.no → d.zone m = s.dev.zone m)
      ∧ s.dev.Only d [.zones] (fieldsOf (F.ZN_CLK_CTL_RAMP (zoneUnit z.no) :: F.ZN_CLK_STATUS_STATE (zoneUnit z.no)
          :: stored z.no))))
  ∧ (∀ (s : State) (z : ZoneId) (div : BitVec 13), idle s.dev z.no → s.dev.zoneActive z.no = true →
      s.dev.zcState z.no = Zc.ROOT → fits s.dev z.no div.toNat → s.dev.running = true →
      s.dev.silent (zoneUnit z.no) = false → s.dev.get (F.ZN_CLK_STATUS_DIV_NOW (zoneUnit z.no)) = div.toNat →
    completes (.znClkRamp z false div) s (fun d => d.latched Ev.RAMP_DONE = true
      ∧ s.dev.OnlyNoted d [] (fieldsOf (stored z.no))))
  ∧ (∀ (s : State) (z : ZoneId) (div : BitVec 13), idle s.dev z.no → s.dev.zoneActive z.no = true →
      s.dev.zcState z.no = Zc.REF → fits s.dev z.no div.toNat →
    completes (.znClkRamp z false div) s (fun d => d.zcState z.no = Zc.SWITCHING
      ∧ d.get (F.ZN_CLK_CTL_RAMP (zoneUnit z.no)) = 1 ∧ (d.zone z.no).clk.toRef = false
      ∧ (d.zone z.no).clk.toDiv = div.toNat ∧ (d.zone z.no).clk.ending = .rampDone
      ∧ s.dev.Only d [.zones] (fieldsOf (F.ZN_CLK_CTL_RAMP (zoneUnit z.no) :: F.ZN_CLK_STATUS_STATE (zoneUnit z.no)
          :: stored z.no))))
  ∧ (∀ (s : State) (z : ZoneId) (c : Instr) (ref : Bool) (div : BitVec 13), (c = .znClkGo z ref div ∧
        (ref = true ∨ fits s.dev z.no div.toNat)) ∨ (c = .znClkRamp z false div ∧ ref = false ∧ fits s.dev z.no div.toNat) →
      idle s.dev z.no → (s.dev.zoneActive z.no = false ∨ s.dev.zcState z.no = Zc.STOPPED) →
    completes c s (fun d => (d.zone z.no).clk = { (s.dev.zone z.no).clk with asked := some (ref, div.toNat) }
      ∧ (∀ m, m ≠ z.no → d.zone m = s.dev.zone m) ∧ s.dev.Only d [.zones] (fieldsOf (stored z.no))))
  ∧ (∀ (s : State) (z : ZoneId) (c : Instr) (go ref : Bool) (div : BitVec 13), (c = .znClkGo z ref div ∧ go = true ∧
        (ref = true ∨ fits s.dev z.no div.toNat))
        ∨ (c = .znClkRamp z false div ∧ go = false ∧ ref = false ∧ fits s.dev z.no div.toNat) →
      idle s.dev z.no → s.dev.zoneActive z.no = true →
      (s.dev.zcState z.no = Zc.GATED ∨ (s.dev.zcState z.no = Zc.HELD ∧ (s.dev.zone z.no).clk.held ≠ some .policy)) →
    completes c s (fun d => d.zcState z.no = s.dev.zcState z.no
      ∧ (d.zone z.no).clk = { (s.dev.zone z.no).clk with toRef := ref, toDiv := div.toNat, wait := .command }
      ∧ d.on (if go then F.ZN_CLK_CTL_GO (zoneUnit z.no) else F.ZN_CLK_CTL_RAMP (zoneUnit z.no)) = true
      ∧ s.dev.Only d [.zones] (fieldsOf ((if go then F.ZN_CLK_CTL_GO (zoneUnit z.no) else F.ZN_CLK_CTL_RAMP (zoneUnit z.no))
          :: stored z.no))))
  ∧ (∀ (s : State) (z : ZoneId) (c : Instr) (ref : Bool) (div : BitVec 13), (c = .znClkGo z ref div ∨
        c = .znClkRamp z ref div) → s.dev.refusalsFull (zoneDie z.no) = false →
      (s.dev.zcState z.no = Zc.SWITCHING ∨ s.dev.zcState z.no = Zc.RAMPING
        ∨ s.dev.on (F.ZN_CLK_CTL_GO (zoneUnit z.no)) = true ∨ s.dev.on (F.ZN_CLK_CTL_RAMP (zoneUnit z.no)) = true) →
    completes c s (refused s.dev z.no .busy))
  ∧ (∀ (s : State) (z : ZoneId) (c : Instr) (div : BitVec 13), (c = .znClkGo z false div ∨
        c = .znClkRamp z false div) → idle s.dev z.no →
      (div.toNat < 4 ∨ 4096 < div.toNat ∨ 15 * div.toNat < s.dev.clk.mult) →
    completes c s (refused s.dev z.no .divRange))
  ∧ (∀ (s : State) (z : ZoneId) (c : Instr) (div : BitVec 13), (c = .znClkGo z false div ∨
        c = .znClkRamp z false div) → idle s.dev z.no →
      4 ≤ div.toNat → div.toNat ≤ 4096 → s.dev.clk.mult ≤ 15 * div.toNat → s.dev.loopLocked z.no = false →
    completes c s (refused s.dev z.no .loopUnlocked))
  ∧ (∀ (s : State) (z : ZoneId) (div : BitVec 13), idle s.dev z.no → s.dev.loopLocked z.no = true →
    completes (.znClkRamp z true div) s (refused s.dev z.no .reservedValue))

/-- With MCK running, no power entry, power state or wake under way, no thermal hold, the zone's die not silent and its loop
locked: a switch onto the root restarts at the first aligned index at least 8 after the stop, STATE ROOT, aligned, with GAP
in root cycles, GO 0 and ZONE_CLK_SWITCH_DONE; a zone held by its policy, with no Lehr hold and nothing interrupted, restarts
aligned on the divider it stopped with and raises the event; a zone that fell back with RETURN 1 switches back to its divider,
aligned, with the event. A ramp whose dwell has not ended stays as it is; when it has, the divider moves by STEP towards its
target, off the grid, and the dwell begins again, or within one STEP of it the final switch begins. A riding zone at
RIDE_LIMIT is held, keeping its divider, where THEN at its loss was 0 or the reference is not stable, and else switches to the
reference, keeping its divider for RETURN; LOSS_SEEN reads 1. Nothing else changes, but what the event writes. -/
def Obligations.ZoneClockMovesOn : Prop :=
  (∀ (s : State) (z : ZoneId), s.dev.running = true → s.dev.silent (zoneUnit z.no) = false →
      s.dev.zcState z.no = Zc.SWITCHING → (s.dev.zone z.no).clk.toRef = false →
      (s.dev.zone z.no).clk.ending = .switchDone → s.dev.thermHold = false → s.dev.loopLocked z.no = true →
      (s.dev.zone z.no).clk.toDiv < 8192 →
    completes (.zoneClkRestart z) s (fun d => d.zcState z.no = Zc.ROOT
      ∧ d.get (F.ZN_CLK_STATUS_ALIGNED (zoneUnit z.no)) = 1
      ∧ d.get (F.ZN_CLK_STATUS_DIV_NOW (zoneUnit z.no)) = (s.dev.zone z.no).clk.toDiv
      ∧ d.get (F.ZN_CLK_GAP_UNIT (zoneUnit z.no)) = 0
      ∧ d.get (F.ZN_CLK_GAP_GAP (zoneUnit z.no)) = min (alignedFrom s.dev.clk.epoch (s.dev.zone z.no).clk.toDiv
          ((s.dev.zone z.no).clk.ts + 8) - (s.dev.zone z.no).clk.ts) 0xFFFF
      ∧ d.get (F.ZN_CLK_CTL_GO (zoneUnit z.no)) = 0 ∧ d.latched Ev.ZONE_CLK_SWITCH_DONE = true
      ∧ s.dev.OnlyNoted d [.zones] (fieldsOf [F.ZN_CLK_STATUS_STATE (zoneUnit z.no),
        F.ZN_CLK_STATUS_ALIGNED (zoneUnit z.no), F.ZN_CLK_STATUS_DIV_NOW (zoneUnit z.no),
        F.ZN_CLK_GAP_UNIT (zoneUnit z.no), F.ZN_CLK_GAP_GAP (zoneUnit z.no), F.ZN_CLK_LOST_COUNT (zoneUnit z.no),
        F.ZN_CLK_CTL_GO (zoneUnit z.no)])))
  ∧ (∀ (s : State) (z : ZoneId), s.dev.zcState z.no = Zc.RAMPING → (s.dev.zone z.no).clk.rampLeft ≠ 0 →
    completes (.rampDividerStep z) s (fun d => d = s.dev))
  ∧ (∀ (s : State) (z : ZoneId), s.dev.zcState z.no = Zc.RAMPING → (s.dev.zone z.no).clk.rampLeft = 0 →
      s.dev.get (F.ZN_CLK_STATUS_DIV_NOW (zoneUnit z.no)) + (s.dev.zone z.no).clk.rampStep
        < (s.dev.zone z.no).clk.rampTo → (s.dev.zone z.no).clk.rampTo < 8192 →
    completes (.rampDividerStep z) s (fun d => d.get (F.ZN_CLK_STATUS_DIV_NOW (zoneUnit z.no))
          = s.dev.get (F.ZN_CLK_STATUS_DIV_NOW (zoneUnit z.no)) + (s.dev.zone z.no).clk.rampStep
      ∧ d.get (F.ZN_CLK_STATUS_ALIGNED (zoneUnit z.no)) = 0 ∧ d.zcState z.no = Zc.RAMPING
      ∧ (d.zone z.no).clk.rampLeft = (s.dev.zone z.no).clk.rampDwell
      ∧ s.dev.Only d [.zones] (fieldsOf [F.ZN_CLK_STATUS_DIV_NOW (zoneUnit z.no),
        F.ZN_CLK_STATUS_ALIGNED (zoneUnit z.no)])))
  ∧ (∀ (s : State) (z : ZoneId), s.dev.zcState z.no = Zc.RAMPING → (s.dev.zone z.no).clk.rampLeft = 0 →
      (s.dev.zone z.no).clk.rampTo + (s.dev.zone z.no).clk.rampStep
        < s.dev.get (F.ZN_CLK_STATUS_DIV_NOW (zoneUnit z.no)) →
    completes (.rampDividerStep z) s (fun d => d.get (F.ZN_CLK_STATUS_DIV_NOW (zoneUnit z.no))
          = s.dev.get (F.ZN_CLK_STATUS_DIV_NOW (zoneUnit z.no)) - (s.dev.zone z.no).clk.rampStep
      ∧ d.get (F.ZN_CLK_STATUS_ALIGNED (zoneUnit z.no)) = 0 ∧ d.zcState z.no = Zc.RAMPING
      ∧ (d.zone z.no).clk.rampLeft = (s.dev.zone z.no).clk.rampDwell
      ∧ s.dev.Only d [.zones] (fieldsOf [F.ZN_CLK_STATUS_DIV_NOW (zoneUnit z.no),
        F.ZN_CLK_STATUS_ALIGNED (zoneUnit z.no)])))
  ∧ (∀ (s : State) (z : ZoneId), s.dev.zcState z.no = Zc.RAMPING → (s.dev.zone z.no).clk.rampLeft = 0 →
      s.dev.get (F.ZN_CLK_STATUS_DIV_NOW (zoneUnit z.no))
        ≤ (s.dev.zone z.no).clk.rampTo + (s.dev.zone z.no).clk.rampStep →
      (s.dev.zone z.no).clk.rampTo ≤ s.dev.get (F.ZN_CLK_STATUS_DIV_NOW (zoneUnit z.no))
        + (s.dev.zone z.no).clk.rampStep →
    completes (.rampDividerStep z) s (fun d => d.zcState z.no = Zc.SWITCHING
      ∧ (d.zone z.no).clk.toRef = false ∧ (d.zone z.no).clk.toDiv = (s.dev.zone z.no).clk.rampTo
      ∧ (d.zone z.no).clk.ending = .rampDone
      ∧ s.dev.Only d [.zones] (fieldsOf [F.ZN_CLK_STATUS_STATE (zoneUnit z.no)])))
  ∧ (∀ (s : State) (z : ZoneId), s.dev.zcState z.no = Zc.RIDING →
      ((s.dev.zone z.no).clk.thenBack = false ∨ s.dev.clk.osc ≠ Osc.STABLE) →
    completes (.rideLimitExpire z) s (fun d => d.zcState z.no = Zc.HELD
      ∧ (d.zone z.no).clk.held = some .policy
      ∧ (d.zone z.no).clk.heldDiv = s.dev.get (F.ZN_CLK_STATUS_DIV_NOW (zoneUnit z.no))
      ∧ d.get (F.ZN_CLK_STATUS_LOSS_SEEN (zoneUnit z.no)) = 1
      ∧ s.dev.Only d [.zones] (fieldsOf [F.ZN_CLK_STATUS_STATE (zoneUnit z.no),
        F.ZN_CLK_STATUS_ALIGNED (zoneUnit z.no), F.ZN_CLK_STATUS_LOSS_SEEN (zoneUnit z.no)])))
  ∧ (∀ (s : State) (z : ZoneId), s.dev.zcState z.no = Zc.RIDING → s.dev.clk.osc = Osc.STABLE →
      (s.dev.zone z.no).clk.thenBack = true →
    completes (.rideLimitExpire z) s (fun d => d.zcState z.no = Zc.SWITCHING
      ∧ (d.zone z.no).clk.toRef = true
      ∧ (d.zone z.no).clk.backDiv = some (s.dev.get (F.ZN_CLK_STATUS_DIV_NOW (zoneUnit z.no)))
      ∧ d.get (F.ZN_CLK_STATUS_LOSS_SEEN (zoneUnit z.no)) = 1
      ∧ s.dev.Only d [.zones] (fieldsOf [F.ZN_CLK_STATUS_STATE (zoneUnit z.no),
        F.ZN_CLK_STATUS_LOSS_SEEN (zoneUnit z.no)])))
  ∧ (∀ (s : State) (z : ZoneId), s.dev.running = true → s.dev.silent (zoneUnit z.no) = false →
      s.dev.zcState z.no = Zc.HELD → (s.dev.zone z.no).clk.held = some .policy →
      (s.dev.zone z.no).clk.heldRef = false → (s.dev.zone z.no).clk.wait = .none → s.dev.loopLocked z.no = true →
      s.dev.lehrHeld z.no = false → s.dev.thermHold = false → (s.dev.zone z.no).clk.heldDiv < 8192 →
    completes (.zonePolicyRestart z) s (fun d => d.zcState z.no = Zc.ROOT
      ∧ d.get (F.ZN_CLK_STATUS_ALIGNED (zoneUnit z.no)) = 1
      ∧ d.get (F.ZN_CLK_STATUS_DIV_NOW (zoneUnit z.no)) = (s.dev.zone z.no).clk.heldDiv
      ∧ (d.zone z.no).clk.held = none ∧ d.latched Ev.ZONE_CLK_SWITCH_DONE = true
      ∧ s.dev.OnlyNoted d [.zones] (fieldsOf [F.ZN_CLK_STATUS_STATE (zoneUnit z.no),
        F.ZN_CLK_STATUS_ALIGNED (zoneUnit z.no), F.ZN_CLK_STATUS_DIV_NOW (zoneUnit z.no)])))
  ∧ (∀ (s : State) (z : ZoneId) (div : Nat), s.dev.running = true → s.dev.silent (zoneUnit z.no) = false →
      s.dev.zcState z.no = Zc.REF → (s.dev.zone z.no).clk.returns = true →
      (s.dev.zone z.no).clk.backDiv = some div → s.dev.loopLocked z.no = true → s.dev.thermHold = false → div < 8192 →
    completes (.zonePolicyRestart z) s (fun d => d.zcState z.no = Zc.ROOT
      ∧ d.get (F.ZN_CLK_STATUS_ALIGNED (zoneUnit z.no)) = 1 ∧ d.get (F.ZN_CLK_STATUS_DIV_NOW (zoneUnit z.no)) = div
      ∧ d.latched Ev.ZONE_CLK_SWITCH_DONE = true
      ∧ s.dev.OnlyNoted d [.zones] (fieldsOf [F.ZN_CLK_STATUS_STATE (zoneUnit z.no),
        F.ZN_CLK_STATUS_ALIGNED (zoneUnit z.no), F.ZN_CLK_STATUS_DIV_NOW (zoneUnit z.no),
        F.ZN_CLK_GAP_UNIT (zoneUnit z.no), F.ZN_CLK_GAP_GAP (zoneUnit z.no), F.ZN_CLK_LOST_COUNT (zoneUnit z.no),
        F.ZN_CLK_CTL_GO (zoneUnit z.no)])))

/-- While MCK runs, no power entry, power state or wake is under way and no swap is: a LOCKED root that loses lock goes into
HOLDOVER, is counted (saturating) and raises ROOT_UNLOCK, a LOCKED slave of a die that is not silent SLAVE_UNLOCK, and a zone
on the root whose loop was locked then acts by the policy in force: RIDE (0) RIDING, HOLD (1) HELD, FALLBACK (2) SWITCHING to
the reference, with LOSS_SEEN 1. After HOLDOVER the root's output is gated, it acquires, the P-die's service domains move to
the reference, MT_COARSE reads 1, and locked slaves go into HOLDOVER; a slave's output is gated, it acquires, and its die's
domain moves. A root that acquires, has failed or is in HOLDOVER locks while the reference is stable: its output runs, machine
time has started and stays, the P-die's domains leave the reference, RELOCK reads 0, ROOT_RELOCK is raised, and the epoch is
due from now where no loop taking part still acquires; a slave in those states, whose die does not wait for it, locks while
the root's output runs, and its die's copy of machine time does not step back. A loop taking part in a start that misses its
limit is FAILED and raises its event (the root outside STATE LOOPS, a slave whose die does not wait). A due epoch is declared
as the first multiple of 16 at least 64 root cycles after the last lock (outside STATE LOOPS), with its generation counted.
Beside these nothing changes but the clocks of zones and what events write. -/
def Obligations.LoopsLoseAndGainLock : Prop :=
  (∀ s : State, s.dev.running = true → s.dev.clk.root = Loop.LOCKED → s.dev.gaf.swapSet = [] →
    completes .rootUnlock s (fun d => d.clk = { s.dev.clk with root := Loop.HOLDOVER }
      ∧ d.get F.CK_UNLOCK_CNT_COUNT = satInc 16 (s.dev.get F.CK_UNLOCK_CNT_COUNT)
      ∧ d.latched Ev.ROOT_UNLOCK = true
      ∧ (∀ n ∈ zoneNumbers, s.dev.zcState n = Zc.ROOT → s.dev.loopLocked n = true → s.dev.policyNow n = 0 →
          d.zcState n = Zc.RIDING ∧ d.get (F.ZN_CLK_STATUS_LOSS_SEEN (zoneUnit n)) = 1)
      ∧ (∀ n ∈ zoneNumbers, s.dev.zcState n = Zc.ROOT → s.dev.loopLocked n = true → s.dev.policyNow n = 1 →
          d.zcState n = Zc.HELD ∧ d.get (F.ZN_CLK_STATUS_LOSS_SEEN (zoneUnit n)) = 1)
      ∧ (∀ n ∈ zoneNumbers, s.dev.zcState n = Zc.ROOT → s.dev.loopLocked n = true → s.dev.policyNow n = 2 →
          d.zcState n = Zc.SWITCHING ∧ (d.zone n).clk.toRef = true ∧ d.get (F.ZN_CLK_STATUS_LOSS_SEEN (zoneUnit n)) = 1)
      ∧ s.dev.OnlyNoted d [.clk, .zones] (fun f => fieldsOf [F.CK_UNLOCK_CNT_COUNT] f || zoneClkReg f.key)))
  ∧ (∀ (s : State) (k : Die), s.dev.running = true → s.dev.silent (U.SLP k.no) = false →
      s.dev.slave k.no = Loop.LOCKED → s.dev.gaf.swapSet = [] →
    completes (.slaveUnlock k) s (fun d => d.clk = (s.dev.setSlave k.no Loop.HOLDOVER).clk
      ∧ d.get (F.SLP_UNLOCK_CNT_COUNT (U.SLP k.no)) = satInc 16 (s.dev.get (F.SLP_UNLOCK_CNT_COUNT (U.SLP k.no)))
      ∧ d.latched Ev.SLAVE_UNLOCK = true
      ∧ (∀ n ∈ dieZones k.no, s.dev.zcState n = Zc.ROOT → s.dev.loopLocked n = true → s.dev.policyNow n = 0 →
          d.zcState n = Zc.RIDING ∧ d.get (F.ZN_CLK_STATUS_LOSS_SEEN (zoneUnit n)) = 1)
      ∧ s.dev.OnlyNoted d [.clk, .zones]
        (fun f => fieldsOf [F.SLP_UNLOCK_CNT_COUNT (U.SLP k.no)] f || zoneClkReg f.key)))
  ∧ (∀ s : State, s.dev.clk.root = Loop.HOLDOVER → (∀ k ∈ fabricDies, s.dev.slave k ≠ Loop.LOCKED) →
    completes (.holdoverExpire .root) s (fun d => d.clk.root = Loop.ACQUIRING ∧ d.clk.rootGated = true
      ∧ d.clk.slaves = s.dev.clk.slaves ∧ (∀ i, i < 16 → d.clk.svcRef.testBit i = true)
      ∧ d.get F.CK_STATUS_MT_COARSE = 1
      ∧ s.dev.Only d [.clk, .pw] (fieldsOf [F.CK_STATUS_MT_COARSE])))
  ∧ (∀ s : State, s.dev.running = true → s.dev.clk.root = Loop.HOLDOVER → s.dev.gaf.swapSet = [] →
    completes (.holdoverExpire .root) s (fun d => d.clk.root = Loop.ACQUIRING ∧ d.clk.rootGated = true
      ∧ ∀ k ∈ fabricDies, d.slave k = if s.dev.slave k = Loop.LOCKED then Loop.HOLDOVER else s.dev.slave k))
  ∧ (∀ (s : State) (k : Die), s.dev.slave k.no = Loop.HOLDOVER →
    completes (.holdoverExpire (.slave k)) s (fun d => d.slave k.no = Loop.ACQUIRING
      ∧ d.slaveGatedOn k.no = true ∧ d.clk.svcRef.testBit (15 + k.no) = true ∧ d.clk.root = s.dev.clk.root
      ∧ s.dev.Only d [.clk] (fieldsOf [])))
  ∧ (∀ s : State, s.dev.running = true → s.dev.clk.osc = Osc.STABLE →
      (s.dev.clk.root = Loop.ACQUIRING ∨ s.dev.clk.root = Loop.FAILED ∨ s.dev.clk.root = Loop.HOLDOVER) →
    completes .rootLock s (fun d => d.clk.root = Loop.LOCKED ∧ d.clk.rootGated = false ∧ d.clk.mtStarted = true
      ∧ d.clk.mt = s.dev.clk.mt ∧ (∀ i, i < 16 → d.clk.svcRef.testBit i = false)
      ∧ (s.dev.clk.stepLoops = true → (∀ k ∈ fabricDies, s.dev.slave k ≠ Loop.ACQUIRING) →
          d.clk.epochDue = some s.dev.clk.mt)
      ∧ d.get F.CK_CMD_RELOCK = 0 ∧ d.latched Ev.ROOT_RELOCK = true
      ∧ s.dev.OnlyNoted d [.clk, .zones] (fun f => fieldsOf [F.CK_CMD_RELOCK] f || zoneClkReg f.key)))
  ∧ (∀ (s : State) (k : Die) (up : DieUp), s.dev.clk.rootGated = false →
      (s.dev.slave k.no = Loop.ACQUIRING ∨ s.dev.slave k.no = Loop.FAILED ∨ s.dev.slave k.no = Loop.HOLDOVER) →
      s.dev.rst.late.contains k.no = false →
    completes (.slaveLock k up) s (fun d => d.slave k.no = Loop.LOCKED ∧ d.slaveGatedOn k.no = false
      ∧ Tab.get (fun _ => 0) d.clk.copies k.no = max (Tab.get (fun _ => 0) s.dev.clk.copies k.no) s.dev.clk.mt
      ∧ s.dev.Only d [.clk, .zones] (fun f => zoneClkReg f.key)))
  ∧ (∀ (s : State) (ups : DiesUp), s.dev.running = true → s.dev.clk.root = Loop.ACQUIRING →
      s.dev.clk.stepLoops = true → s.dev.get F.RS_STATUS_STATE ≠ Rs.LOOPS →
    completes (.rootLockTimeout ups) s (fun d => d.clk = { s.dev.clk with root := Loop.FAILED }
      ∧ d.latched Ev.ROOT_UNLOCK = true ∧ s.dev.OnlyNoted d [.clk] (fieldsOf [])))
  ∧ (∀ (s : State) (k : Die) (up : DieUp), s.dev.running = true → s.dev.silent (U.SLP k.no) = false →
      s.dev.slave k.no = Loop.ACQUIRING → s.dev.clk.root = Loop.LOCKED → s.dev.clk.stepLoops = true →
      s.dev.rst.late.contains k.no = false →
    completes (.slaveLockTimeout k up) s (fun d => d.slave k.no = Loop.FAILED
      ∧ d.latched Ev.SLAVE_UNLOCK = true ∧ s.dev.OnlyNoted d [.clk] (fieldsOf [])))
  ∧ (∀ (s : State) (ups : DiesUp) (t : Nat), s.dev.board.mck = true → s.dev.clk.epochDue = some t →
      s.dev.get F.RS_STATUS_STATE ≠ Rs.LOOPS →
    completes (.epochDeclared ups) s (fun d => d.clk.epoch = roundUp (t + 64) 16 ∧ d.clk.epochDue = none
      ∧ d.get F.CK_EPOCH_LO_E = roundUp (t + 64) 16 % 2 ^ 32
      ∧ d.get F.CK_EPOCH_HI_E = roundUp (t + 64) 16 / 2 ^ 32 % 2 ^ 32
      ∧ d.get F.CK_STATUS_EPOCH_VALID = 1
      ∧ d.get F.CK_EPOCH_GEN_GEN = (s.dev.get F.CK_EPOCH_GEN_GEN + 1) % 2 ^ 16
      ∧ s.dev.Only d [.clk] (fieldsOf [F.CK_EPOCH_LO_E, F.CK_EPOCH_HI_E, F.CK_STATUS_EPOCH_VALID,
        F.CK_EPOCH_GEN_GEN])))

/-- With MCK running and no power entry, power state or wake under way. OPTION_READ at step 3, with no write in the option and
record memory and the reference not stable: STATE OSC, the reference starts, pin phase B, MLINK is served, the 100 ms limit
counts, RESET_DONE is raised; beside that only the option and record unit, the options that other registers show, the
watchdog's count, the battery and the life-cycle units change. In STATE OSC the reference passes its test, with VCCINT good,
no suspect keys and no journal entry waiting: root and slaves acquire at the MULT in force, every service domain on the
reference, STATE LOOPS, OSC_RESTART 0, machine time that ran on an output not gated is coarse, and nothing else changes. It
misses its limit, with no suspect keys: FAILED with OSC_FAIL, OSC_RESTART 0, STATE MGMT_ONLY where it read OSC, nothing else.
A stable reference that fails with the root LOCKED, no swap and no write: FAILED, the root in HOLDOVER, both events, the
standstill signal 0, no window of an encoder, the pace registers 0, every zone on the reference HELD; beside that only zone
clocks, lanes, identity ports and the calibration count change. -/
def Obligations.StartUpToTheLoops : Prop :=
  (∀ (s : State) (refsel : Bool), s.dev.running = true → s.dev.get F.RS_STATUS_STATE = Rs.OPTIONS → s.dev.ormBusy = false →
      s.dev.clk.osc ≠ Osc.STABLE →
    completes (.optionRead refsel) s (fun d => d.get F.RS_STATUS_STATE = Rs.OSC ∧ d.clk.osc = Osc.STARTING
      ∧ d.clk.refselUsed = refsel ∧ d.rst = { s.dev.rst with phase := 1, served := true, limitOn := true }
      ∧ d.latched Ev.RESET_DONE = true
      ∧ s.dev.OnlyNoted d [.rst, .clk, .orm, .bat, .lc] (fun f => f.key / 4096 == U.ORM
          || fieldsOf [F.RS_STATUS_STATE, F.RS_WDOG_LEFT_TICKS, F.HL_STATUS_CRC_ON.reg, F.GAF_STATUS_AUTOSWAP.reg,
            F.BG_STATUS_DISAGREE.reg] f)))
  ∧ (∀ s : State, s.dev.clk.osc = Osc.STARTING → s.dev.get F.RS_STATUS_STATE = Rs.OSC → s.dev.board.mck = true →
      s.dev.get F.BG_STATUS_KEEP_LATCH = 0 → s.dev.board.vccint = true → s.dev.orm.entry = none →
    completes .oscStable s (fun d => d.clk.osc = Osc.STABLE ∧ d.clk.root = Loop.ACQUIRING ∧ d.clk.rootGated = true
      ∧ (∀ k ∈ fabricDies, d.slave k = Loop.ACQUIRING) ∧ d.clk.svcRef = 0xFFFFF
      ∧ d.clk.mult = s.dev.get F.CK_ROOT_CFG_MULT ∧ d.get F.RS_STATUS_STATE = Rs.LOOPS
      ∧ d.get F.CK_MT_PERIOD_PERIOD_FS = 25000000 / s.dev.get F.CK_ROOT_CFG_MULT % 2 ^ 19
      ∧ d.get F.CK_CMD_OSC_RESTART = 0
      ∧ d.get F.CK_STATUS_MT_COARSE = (if s.dev.clk.mtStarted && !s.dev.clk.rootGated then 1
          else s.dev.get F.CK_STATUS_MT_COARSE)
      ∧ s.dev.Only d [.clk] (fieldsOf [F.CK_CMD_OSC_RESTART, F.CK_MT_PERIOD_PERIOD_FS, F.RS_STATUS_STATE,
        F.CK_STATUS_MT_COARSE])))
  ∧ (∀ s : State, s.dev.running = true → s.dev.clk.osc = Osc.STARTING → s.dev.get F.BG_STATUS_KEEP_LATCH = 0 →
    completes .oscStartTimeout s (fun d => d.clk = { s.dev.clk with osc := Osc.FAILED }
      ∧ d.get F.CK_CMD_OSC_RESTART = 0 ∧ d.latched Ev.OSC_FAIL = true
      ∧ d.get F.RS_STATUS_STATE = (if s.dev.get F.RS_STATUS_STATE = Rs.OSC then Rs.MGMT_ONLY
          else s.dev.get F.RS_STATUS_STATE)
      ∧ s.dev.OnlyNoted d [.clk] (fieldsOf [F.CK_CMD_OSC_RESTART, F.RS_STATUS_STATE])))
  ∧ (∀ s : State, s.dev.running = true → s.dev.clk.osc = Osc.STABLE → s.dev.gaf.swapSet = [] → s.dev.ormBusy = false →
      s.dev.rst.oscStop = false → s.dev.clk.root = Loop.LOCKED →
    completes .oscFail s (fun d => d.clk = { s.dev.clk with osc := Osc.FAILED, root := Loop.HOLDOVER }
      ∧ d.calSeen = 0 ∧ d.get F.MFE_STATUS_STILL = 0 ∧ d.latched Ev.OSC_FAIL = true ∧ d.latched Ev.ROOT_UNLOCK = true
      ∧ (∀ k, (d.encoder k).spans = [])
      ∧ (∀ n ∈ zoneNumbers, s.dev.zcState n = Zc.REF → d.zcState n = Zc.HELD)
      ∧ (∀ k ∈ fabricDies, d.get (F.DR_PACE_TOKENS (U.DR k)) = 0
          ∧ ∀ q, q < 4 → d.get (F.DR_PACE_Q_TOKENS (U.DR k) q) = 0)
      ∧ s.dev.OnlyNoted d [.clk, .zones, .calSeen, .lanes, .ident, .enc] (fun f =>
          fieldsOf [F.CK_UNLOCK_CNT_COUNT, F.IDR_CMD_GO.reg, F.MFE_STATUS_STILL] f || zoneClkReg f.key
          || fieldsOf (fabricDies.flatMap (fun k => F.DR_PACE_TOKENS (U.DR k)
              :: (List.range 4).map (F.DR_PACE_Q_TOKENS (U.DR k)))) f
          || (List.range 24).any (fun k => f.key / 4096 == quadUnit k))))

/-! ## The management link and the host clock (chapter 03) -/

/-- On a frame that MLINK hears (served, MCK running, no ring access and no COMMAND reset under way, the CRC right where it is
checked) the reply ends the frame, MCS_N is high again and LAST_STATUS holds the status; nothing else changes but what is
named. NOP replies OK. RD of one register whose read changes nothing replies its value, most significant byte first; with a
count not allowed COUNT_INVALID, at an address of neither a register nor the option and record window ADDR_INVALID. WR of one
register writes it and replies REFUSED or OK, and MCS_N stays low where the write was an accepted RS_CMD.DEVICE; HL_WIN_BASE
takes its value. STAT replies HL_STATUS and MG_SUPPLY; EVT replies the 128 latches, and with address 1 clears them and
releases MIRQ_N. A reserved code replies CMD_UNKNOWN. An RD frame with a wrong CRC where it is checked is counted and replies
CRC_BAD; one that is not served, or without MCK, changes nothing. A frame that ends early, while MLINK is served and no ring
access is under way, is counted; without MCK its end waits. -/
def Obligations.FramesAndReplies : Prop :=
  (∀ (s : State) (crc : BitVec 16), s.dev.hears 0x00 0 0 [] crc = true →
    completes (.mlinkNop 0 0 crc) s (fun d => s.dev.Replied d Ml.OK [] [] (fieldsOf [])))
  ∧ (∀ (s : State) (a : BitVec 32) (crc : BitVec 16) (v : Nat), s.dev.hears 0x01 a.toNat 4 [] crc = true →
      mlReg a.toNat = true → s.dev.readReg a.toNat = some (v, s.dev) →
    completes (.mlinkRd a 4 crc) s (fun d => s.dev.Replied d Ml.OK (beBytes 4 v) [] (fieldsOf [])))
  ∧ (∀ (s : State) (a : BitVec 32) (n crc : BitVec 16), s.dev.hears 0x01 a.toNat n.toNat [] crc = true →
      mlReg a.toNat = true → mlCount n.toNat = false →
    completes (.mlinkRd a n crc) s (fun d => s.dev.Replied d Ml.COUNT_INVALID [] [] (fieldsOf [])))
  ∧ (∀ (s : State) (a : BitVec 32) (n crc : BitVec 16), s.dev.hears 0x01 a.toNat n.toNat [] crc = true →
      mlReg a.toNat = false → mlOrm a.toNat = false →
    completes (.mlinkRd a n crc) s (fun d => s.dev.Replied d Ml.ADDR_INVALID [] [] (fieldsOf [])))
  ∧ (∀ (s : State) (a : BitVec 32) (b0 b1 b2 b3 : Byte) (crc : BitVec 16) (d1 : Device) (m1 : Stores) (bad : Bool),
      s.dev.hears 0x02 a.toNat 4 [b0, b1, b2, b3] crc = true → mlReg a.toNat = true →
      s.dev.regWrite s.mem 1 a.toNat (beNat [b0, b1, b2, b3]) = some ((d1, m1), bad) →
    completesMem (.mlinkWr a 4 [b0, b1, b2, b3] crc) s (fun d m => m = m1
      ∧ (d1.rst.cmdReset = false → d1.Replied d (if bad then Ml.REFUSED else Ml.OK) [] [] (fieldsOf []))
      ∧ (d1.rst.cmdReset = true → d.ml.reply = replyBytes (if bad then Ml.REFUSED else Ml.OK) []
          ∧ d.board = { d1.board with mcsLow := true }
          ∧ d1.Only d [.ml, .board] (fieldsOf [F.HL_STATUS_LAST_STATUS]))))
  ∧ (∀ (s : State) (b0 b1 b2 b3 : Byte) (crc : BitVec 16),
      s.dev.hears 0x02 F.HL_WIN_BASE_BASE.key 4 [b0, b1, b2, b3] crc = true → beNat [b0, b1, b2, b3] < 2 ^ 17 →
    completes (.mlinkWr 0x1004 4 [b0, b1, b2, b3] crc) s (fun d =>
      d.get F.HL_WIN_BASE_BASE = beNat [b0, b1, b2, b3]
      ∧ s.dev.Replied d Ml.OK [] [] (fieldsOf [F.HL_WIN_BASE_BASE])))
  ∧ (∀ (s : State) (crc : BitVec 16), s.dev.hears 0x20 0 8 [] crc = true →
    completes (.mlinkStat 0 8 crc) s (fun d => ∃ v w,
      s.dev.regShow F.HL_STATUS_LAST_STATUS.key = some v ∧ s.dev.regShow F.MG_SUPPLY_VCCP_GOOD.key = some w
      ∧ s.dev.Replied d Ml.OK (beBytes 4 v ++ beBytes 4 w) [] (fieldsOf [])))
  ∧ (∀ (s : State) (crc : BitVec 16), s.dev.hears 0x21 0 16 [] crc = true →
    completes (.mlinkEvt 0 16 crc) s (fun d =>
      s.dev.Replied d Ml.OK (beBytes 16 s.dev.evSnapshot) [] (fieldsOf [])))
  ∧ (∀ (s : State) (crc : BitVec 16), s.dev.hears 0x21 1 16 [] crc = true →
    completes (.mlinkEvtClear 16 crc) s (fun d => (∀ k, k < 4 → d.get (F.EV_LATCH_EVENTS k) = 0)
      ∧ d.ev = { s.dev.ev with mirqLow := false }
      ∧ s.dev.Replied d Ml.OK (beBytes 16 s.dev.evSnapshot) [.ev] (fieldsOf ((List.range 4).map F.EV_LATCH_EVENTS))))
  ∧ (∀ (s : State) (code : BitVec 8) (a : BitVec 32) (n crc : BitVec 16), mlCodes.contains code.toNat = false →
      s.dev.hears code.toNat a.toNat n.toNat [] crc = true →
    completes (.mlinkCmdUnknown code a n crc) s (fun d => s.dev.Replied d Ml.CMD_UNKNOWN [] [] (fieldsOf [])))
  ∧ (∀ (s : State) (a : BitVec 32) (n crc : BitVec 16), s.dev.rst.served = true → s.dev.board.mck = true →
      s.dev.ml.access = none → s.dev.rst.cmdReset = false → s.dev.orm.opt.crcOn = true → crc16 (frameHead 0x01 a.toNat n.toNat []) ≠ crc.toNat →
    completes (.mlinkRd a n crc) s (fun d =>
      d.get F.HL_CRC_ERR_CNT_COUNT = satInc 16 (s.dev.get F.HL_CRC_ERR_CNT_COUNT)
      ∧ s.dev.Replied d Ml.CRC_BAD [] [] (fieldsOf [F.HL_CRC_ERR_CNT_COUNT])))
  ∧ (∀ (s : State) (a : BitVec 32) (n crc : BitVec 16), (s.dev.rst.served = false ∨ s.dev.board.mck = false) →
    completes (.mlinkRd a n crc) s (fun d => d = s.dev))
  ∧ (∀ s : State, s.dev.rst.served = true → s.dev.board.mck = true → s.dev.ml.access = none →
    completes .mlinkShortFrame s (fun d => d.get F.HL_SHORT_CNT_COUNT = satInc 16 (s.dev.get F.HL_SHORT_CNT_COUNT)
      ∧ d.board = { s.dev.board with mcsLow := false } ∧ s.dev.Only d [.board] (fieldsOf [F.HL_SHORT_CNT_COUNT])))
  ∧ (∀ s : State, s.dev.rst.served = true → s.dev.board.mck = false →
    completes .mlinkShortFrame s (fun d => d = { s.dev with
      board := { s.dev.board with mcsLow := false }, ml := { s.dev.ml with rose := some .short } }))

/-- An RDW or WRW that MLINK hears with a valid address and count of at most 16 bytes, to a stop that exists on a die that is not
fenced, is issued at stop 1 in class 3, one unit long, with the byte enables of its bytes, when no abandoned access is
outstanding and no FENCE waits, and MCS_N stays low; an RDW while an abandoned access is outstanding waits instead. An RDW that
is not valid is answered with its reason. While MCK runs and no COMMAND reset is under way, an access's response, first in the
port's inbox, is its reply: its data with status 0, else 0x10 plus the status. An access abandoned before its reply, with no
answer waiting, is counted, its outstanding requests are marked and those not launched are disowned; without MCK its end
waits. With no access both commands change nothing. Nothing else changes. -/
def Obligations.RingWindow : Prop :=
  (∀ (s : State) (a : BitVec 32) (n crc : BitVec 16), s.dev.hears 0x11 a.toNat n.toNat [] crc = true →
      ringAccessStatus a.toNat n.toNat = none → n.toNat ≤ 16 → s.dev.abandonPending = false →
      (s.dev.init 1).fence = none →
      stopExists (s.dev.windowAddr a.toNat / 2 ^ 45) (s.dev.windowAddr a.toNat / 2 ^ 38 % 128) = true →
      s.dev.fenced (s.dev.windowAddr a.toNat / 2 ^ 45) = false →
    completes (.mlinkRdw a n crc) s (fun d =>
      d.ml = { s.dev.ml with
          access := some { write := false, addr := a.toNat, count := n.toNat, words := [], waiting := false } }
      ∧ d.init 1 = { s.dev.init 1 with
          nextSeq := (s.dev.init 1).nextSeq + 1,
          port := (s.dev.init 1).port ++ [{
            seq := (s.dev.init 1).nextSeq, cmd := Cmd.RD, cls := 3,
            addr := s.dev.windowAddr (a.toNat - a.toNat % 16), len := 1,
            be := (2 ^ n.toNat - 1) * 2 ^ (a.toNat % 16), data := [], who := 0 }] }
      ∧ d.board = { s.dev.board with mcsLow := true } ∧ s.dev.Only d [.ml, .ring, .board] (fieldsOf [])))
  ∧ (∀ (s : State) (a : BitVec 32) (n crc : BitVec 16) (p : List Byte), payloadFormed n p = true →
      s.dev.hears 0x12 a.toNat n.toNat p crc = true →
      ringAccessStatus a.toNat n.toNat = none → n.toNat ≤ 16 → s.dev.abandonPending = false →
      (s.dev.init 1).fence = none →
      stopExists (s.dev.windowAddr a.toNat / 2 ^ 45) (s.dev.windowAddr a.toNat / 2 ^ 38 % 128) = true →
      s.dev.fenced (s.dev.windowAddr a.toNat / 2 ^ 45) = false →
    completes (.mlinkWrw a n p crc) s (fun d =>
      d.ml = { s.dev.ml with
          access := some { write := true, addr := a.toNat, count := n.toNat, words := payloadWords p, waiting := false } }
      ∧ d.init 1 = { s.dev.init 1 with
          nextSeq := (s.dev.init 1).nextSeq + 1,
          port := (s.dev.init 1).port ++ [{
            seq := (s.dev.init 1).nextSeq, cmd := Cmd.WRN, cls := 3,
            addr := s.dev.windowAddr (a.toNat - a.toNat % 16), len := 1,
            be := (2 ^ n.toNat - 1) * 2 ^ (a.toNat % 16), data := linkUnits (a.toNat % 16) (payloadWords p),
            who := 0 }] }
      ∧ d.board = { s.dev.board with mcsLow := true } ∧ s.dev.Only d [.ml, .ring, .board] (fieldsOf [])))
  ∧ (∀ (s : State) (a : BitVec 32) (n crc : BitVec 16), s.dev.hears 0x11 a.toNat n.toNat [] crc = true →
      ringAccessStatus a.toNat n.toNat = none → s.dev.abandonPending = true →
    completes (.mlinkRdw a n crc) s (fun d => d = { s.dev with
      ml := { s.dev.ml with
        access := some { write := false, addr := a.toNat, count := n.toNat, words := [], waiting := true } },
      board := { s.dev.board with mcsLow := true } }))
  ∧ (∀ (s : State) (a : BitVec 32) (n crc : BitVec 16) (st : Nat), s.dev.hears 0x11 a.toNat n.toNat [] crc = true →
      ringAccessStatus a.toNat n.toNat = some st →
    completes (.mlinkRdw a n crc) s (fun d => s.dev.Replied d st [] [] (fieldsOf [])))
  ∧ (∀ (s : State) (a : LinkAccess) (v : Delivered) (rest : List Delivered), s.dev.board.mck = true →
      s.dev.rst.cmdReset = false →
      s.dev.ml.access = some a → a.waiting = false → (s.dev.init 1).inbox = v :: rest → v.who = 0 → v.status = 0 →
    completes .mlinkRingReply s (fun d => (d.init 1) = { s.dev.init 1 with inbox := rest }
      ∧ s.dev.Replied d Ml.OK (if a.write then [] else
          (linkWords (a.addr % 16) a.count v.data).flatMap (fun w => beBytes 4 w)) [.ring] (fieldsOf [])))
  ∧ (∀ (s : State) (a : LinkAccess) (v : Delivered) (rest : List Delivered), s.dev.board.mck = true →
      s.dev.rst.cmdReset = false →
      s.dev.ml.access = some a → a.waiting = false → (s.dev.init 1).inbox = v :: rest → v.who = 0 → v.status ≠ 0 →
      v.status < 8 →
    completes .mlinkRingReply s (fun d => (d.init 1) = { s.dev.init 1 with inbox := rest }
      ∧ s.dev.Replied d (0x10 + v.status) [] [.ring] (fieldsOf [])))
  ∧ (∀ (s : State) (a : LinkAccess), s.dev.board.mck = true → s.dev.ml.access = some a → a.waiting = false →
      (s.dev.init 1).inbox = [] →
    completes .mlinkAbandon s (fun d => d.ml = { s.dev.ml with access := none }
      ∧ d.get F.HL_ABANDON_CNT_COUNT = satInc 16 (s.dev.get F.HL_ABANDON_CNT_COUNT)
      ∧ (∀ o ∈ (d.init 1).out, o.abandoned = true) ∧ (∀ r ∈ (d.init 1).port, r.cmd ≠ Cmd.FENCE → r.who = 1)
      ∧ (d.init 1).out.length = (s.dev.init 1).out.length
      ∧ d.board = { s.dev.board with mcsLow := false }
      ∧ s.dev.Only d [.ml, .ring, .board] (fieldsOf [F.HL_ABANDON_CNT_COUNT])))
  ∧ (∀ (s : State) (a : LinkAccess), s.dev.board.mck = false → s.dev.ml.access = some a →
    completes .mlinkAbandon s (fun d => d = { s.dev with
      board := { s.dev.board with mcsLow := false }, ml := { s.dev.ml with rose := some .abandon } }))
  ∧ (∀ s : State, s.dev.ml.access = none → completes .mlinkAbandon s (fun d => d = s.dev)
      ∧ completes .mlinkRingReply s (fun d => d = s.dev))

/-- While MCK runs and the watchdog is on with a count, a management tick takes one from it; with the watchdog off it changes
nothing. MCK_LOST stops MCK: with the detector armed (and no power entry, power state or wake under way) it latches LOST,
raises MCK_RANGE and with SAFE sets SAFE_ACTIVE, else it changes nothing more. MCK_SAFE_RELEASE with MCK running clears
SAFE_ACTIVE. A rate measured outside POR with a stable reference shows in MG_MCK_MEAS; outside 10 % of MG_MCK_HZ it also
latches OFF_RATE and raises MCK_RANGE. MCK that resumes under POR, or while a start-up waits for RST_N with nothing recorded
to do, only runs again; MCK_RESUME while MCK runs changes nothing. -/
def Obligations.HostClock : Prop :=
  (∀ s : State, s.dev.board.mck = true → s.dev.wdogOn = true → s.dev.get F.RS_WDOG_LEFT_TICKS ≠ 0 →
    completes .managementTick s (fun d => d.get F.RS_WDOG_LEFT_TICKS + 1 = s.dev.get F.RS_WDOG_LEFT_TICKS
      ∧ s.dev.Only d [] (fieldsOf [F.RS_WDOG_LEFT_TICKS])))
  ∧ (∀ s : State, s.dev.wdogOn = false → completes .managementTick s (fun d => d = s.dev))
  ∧ (∀ s : State, s.dev.get F.PW_STATUS_PHASE = 0 → s.dev.mckArmed = true →
    completes .mckLost s (fun d => d.board = { s.dev.board with mck := false } ∧ d.get F.MG_MCK_STATUS_LOST = 1
      ∧ (s.dev.get F.MG_MCK_LOSS_CTL_SAFE = 1 → d.get F.MG_MCK_STATUS_SAFE_ACTIVE = 1)
      ∧ (s.dev.get F.MG_MCK_LOSS_CTL_SAFE = 0 → d.get F.MG_MCK_STATUS_SAFE_ACTIVE = s.dev.get F.MG_MCK_STATUS_SAFE_ACTIVE)
      ∧ d.latched Ev.MCK_RANGE = true
      ∧ s.dev.OnlyNoted d [.board] (fieldsOf [F.MG_MCK_STATUS_LOST, F.MG_MCK_STATUS_SAFE_ACTIVE])))
  ∧ (∀ s : State, s.dev.mckArmed = false →
    completes .mckLost s (fun d => d = { s.dev with board := { s.dev.board with mck := false } }))
  ∧ (∀ s : State, s.dev.board.mck = true →
    completes .mckSafeRelease s (fun d => d.get F.MG_MCK_STATUS_SAFE_ACTIVE = 0
      ∧ s.dev.Only d [] (fieldsOf [F.MG_MCK_STATUS_SAFE_ACTIVE])))
  ∧ (∀ (s : State) (khz : BitVec 16), s.dev.clk.osc = Osc.STABLE → s.dev.rst.por = false →
      9 * s.dev.get F.MG_MCK_HZ_HZ ≤ 10000 * khz.toNat → 10000 * khz.toNat ≤ 11 * s.dev.get F.MG_MCK_HZ_HZ →
    completes (.mckRateMeasure khz) s (fun d => d.get F.MG_MCK_MEAS_KHZ = khz.toNat
      ∧ s.dev.Only d [] (fieldsOf [F.MG_MCK_MEAS_KHZ])))
  ∧ (∀ (s : State) (khz : BitVec 16), s.dev.clk.osc = Osc.STABLE → s.dev.rst.por = false →
      s.dev.get F.PW_STATUS_PHASE = 0 →
      (10000 * khz.toNat < 9 * s.dev.get F.MG_MCK_HZ_HZ ∨ 11 * s.dev.get F.MG_MCK_HZ_HZ < 10000 * khz.toNat) →
    completes (.mckRateMeasure khz) s (fun d => d.get F.MG_MCK_MEAS_KHZ = khz.toNat
      ∧ d.get F.MG_MCK_STATUS_OFF_RATE = 1 ∧ d.latched Ev.MCK_RANGE = true
      ∧ s.dev.OnlyNoted d [] (fieldsOf [F.MG_MCK_MEAS_KHZ, F.MG_MCK_STATUS_OFF_RATE])))
  ∧ (∀ s : State, s.dev.board.mck = false → s.dev.rst.por = true →
    completes .mckResume s (fun d => d = { s.dev with board := { s.dev.board with mck := true } }))
  ∧ (∀ s : State, s.dev.board.mck = false → s.dev.rst.por = false → s.dev.rst.startPending = true →
      (s.dev.rst.rstActive = true ∨ s.dev.board.rstLow = true) → s.dev.ev.waiting = [] → s.dev.refusals.waiting = [] →
      s.dev.rst.latchWait = [] → s.dev.ml.rose = none → s.dev.tap.denied = false →
    completes .mckResume s (fun d => d = { s.dev with board := { s.dev.board with mck := true } }))
  ∧ (∀ s : State, s.dev.board.mck = true → completes .mckResume s (fun d => d = s.dev))

/-! ## The option and record memory (chapter 04) -/

/-- Without key slots lost, and with nothing that follows (see `settled`), no transition to reset for, no journal entry
waiting and no oscillator to stop where ORM_COMMIT_DONE is meant. A commit that nothing forbids starts: the page's cell reads
WRITING, its cycles go up by one up to 131,071, GO, BUSY and LAST_PAGE are set, DEVICE is clear, the buffer is taken; one that
is forbidden is refused with its reason and the page's number. With the reference stable and the engine free a page from 8 to
15 is refused ORM_PAGE_PROTECTED. ORM_COMMIT_DONE ends the commit with the eight groups programmed from the buffer, the cell
DONE, the page not torn, GO and BUSY clear, RESULT 1 and ORM_WRITE_DONE; no other page changes. With no write running it
changes nothing. RUN_HOURS_TICK asks for one more of counter 1 and changes nothing else. LIFETIME_COUNTER_WRITE, with
increments asked for, the engine free, the reference stable and a current cell, takes their sum and starts the write of the
counter's next cell with the next sequence and the new value: BUSY and DEVICE 1, no group changes yet. ORM_COMMIT_DONE then
programs that group, BUSY and DEVICE 0; where it is the page's first, the page's other groups are erased, else they stay. With
no increments asked for it changes nothing. -/
def Obligations.PageCommitsAndCounters : Prop :=
  (∀ (s : State) (p : BitVec 8), s.dev.board.mck = true → s.dev.commitRefusal p.toNat = none →
    completes (.ormCommit p) s (fun d => d.get F.ORM_STATUS_BUSY = 1 ∧ d.get F.ORM_STATUS_LAST_PAGE = p.toNat
      ∧ d.get F.ORM_CMD_GO = 1 ∧ d.orm.write = some (p.toNat, s.dev.ormBuf)
      ∧ d.page p.toNat = { s.dev.page p.toNat with
          cell := 1, cycles := min ((s.dev.page p.toNat).cycles + 1) 131071 }
      ∧ (∀ q, q ≠ p.toNat → d.page q = s.dev.page q)
      ∧ s.dev.Only d [.orm] (fieldsOf [F.ORM_CMD_PAGE, F.ORM_CMD_GO, F.ORM_STATUS_BUSY, F.ORM_STATUS_DEVICE,
          F.ORM_STATUS_LAST_PAGE])))
  ∧ (∀ (s : State) (p : BitVec 8) (why : Reason), s.dev.board.mck = true → s.dev.commitRefusal p.toNat = some why →
    completes (.ormCommit p) s (fun d => d.get F.ORM_REFUSE_REASON = why.code ∧ d.get F.ORM_REFUSE_INDEX = p.toNat
      ∧ d.orm = s.dev.orm ∧ s.dev.OnlyNoted d s.dev.hookParts (fieldsOf [F.ORM_CMD_PAGE, F.ORM_REFUSE_REASON.reg])))
  ∧ (∀ (s : State) (p : BitVec 8), s.dev.board.mck = true → s.dev.clk.osc = Osc.STABLE →
      s.dev.get F.ORM_STATUS_BUSY = 0 → 8 ≤ p.toNat → p.toNat ≤ 15 →
    completes (.ormCommit p) s (fun d => d.get F.ORM_REFUSE_REASON = Reason.ormPageProtected.code ∧ d.orm = s.dev.orm))
  ∧ (∀ (s : State) (p : BitVec 8) (b : List Nat), s.dev.running = true → s.dev.endsAlone = true →
      s.dev.orm.write = some (p.toNat, b) → s.dev.orm.dev = none →
    completes .ormCommitDone s (fun d => d.orm.write = none ∧ d.get F.ORM_STATUS_BUSY = 0
      ∧ d.get F.ORM_STATUS_RESULT = 1 ∧ d.get F.ORM_CMD_GO = 0 ∧ d.latched Ev.ORM_WRITE_DONE = true
      ∧ d.page p.toNat = { s.dev.page p.toNat with groups := groupsOf b, cell := 2 }
      ∧ bit (d.get (F.ORM_TORN_TORN (p.toNat / 32))) (p.toNat % 32) = false
      ∧ (∀ q, q ≠ p.toNat → d.page q = s.dev.page q)
      ∧ s.dev.OnlyNoted d [.orm] (fieldsOf [F.ORM_CMD_GO, F.ORM_STATUS_BUSY, F.ORM_STATUS_RESULT,
          F.ORM_TORN_TORN (p.toNat / 32)])))
  ∧ (∀ s : State, s.dev.endsAlone = true → s.dev.ormBusy = false → completes .ormCommitDone s (fun d => d = s.dev))
  ∧ (∀ s : State, completes .runHoursTick s (fun d =>
      Tab.get (fun _ => 0) d.orm.incs 1 = Tab.get (fun _ => 0) s.dev.orm.incs 1 + 1
      ∧ (∀ j, j ≠ 1 → Tab.get (fun _ => 0) d.orm.incs j = Tab.get (fun _ => 0) s.dev.orm.incs j)
      ∧ d.orm.pages = s.dev.orm.pages ∧ s.dev.Only d [.orm] (fieldsOf [])))
  ∧ (∀ (s : State) (k : Fin 3) (c q v delta : Nat), s.dev.lifeNow k.val = some (c, q, v) →
      Tab.get (fun _ => 0) s.dev.orm.incs k.val = delta → delta ≠ 0 → s.dev.ormBusy = false → s.dev.clk.osc = Osc.STABLE →
    completes (.lifetimeCounterWrite k) s (fun d =>
      d.orm.dev = some (.cell k.val ((c + 1) % 16)
        ((beBytes 3 ((q + 1) % 2 ^ 24) ++ beBytes 4 ((v + delta) % 2 ^ 32)).map BitVec.toNat
          ++ [crc8 (beBytes 3 ((q + 1) % 2 ^ 24) ++ beBytes 4 ((v + delta) % 2 ^ 32))]))
      ∧ d.get F.ORM_STATUS_BUSY = 1 ∧ d.get F.ORM_STATUS_DEVICE = 1 ∧ Tab.get (fun _ => 0) d.orm.incs k.val = 0
      ∧ (∀ p, (d.page p).groups = (s.dev.page p).groups)
      ∧ s.dev.Only d [.orm, .free] (fieldsOf [F.ORM_STATUS_BUSY, F.ORM_STATUS_DEVICE])))
  ∧ (∀ (s : State) (k c : Nat) (b : List Nat), s.dev.endsAlone = true → s.dev.orm.write = none →
      s.dev.orm.dev = some (.cell k c b) → (s.dev.page (cellPlace k c).1).groups.length = 8 →
    completes .ormCommitDone s (fun d => d.orm.dev = none ∧ d.get F.ORM_STATUS_BUSY = 0 ∧ d.get F.ORM_STATUS_DEVICE = 0
      ∧ (d.page (cellPlace k c).1).group (cellPlace k c).2 = groupOf b
      ∧ (∀ g, g < 8 → g ≠ (cellPlace k c).2 → (d.page (cellPlace k c).1).group g
          = (if (cellPlace k c).2 = 0 then BitVec.allOnes 72 else (s.dev.page (cellPlace k c).1).group g))
      ∧ (∀ p, p ≠ (cellPlace k c).1 → d.page p = s.dev.page p)
      ∧ s.dev.Only d [.orm] (fieldsOf [F.ORM_STATUS_BUSY, F.ORM_STATUS_DEVICE])))
  ∧ (∀ (s : State) (k : Fin 3), Tab.get (fun _ => 0) s.dev.orm.incs k.val = 0 →
    completes (.lifetimeCounterWrite k) s (fun d => d = s.dev))

/-! ## Fabric cells and channels (chapter 07) -/

/-- Past GRR an ASYNC flip-flop takes SRVAL without an edge. At an edge of a zone past GRR, not frozen, an outbound endpoint
that is connected, without a queue and with fewer than 2 tokens in its buffer accepts a token: it joins the channel behind
what was there and TOKENS_OUT rises; where O_READY is 0 nothing happens. The oldest token of a connected endpoint without a
queue, with none of an earlier plane before it, its die not fenced, with VCCINT and not dormant, lands at the zone's inbound
endpoint that takes it for its source, is not frozen, awaits no stale token, has no queue and fewer than 4 tokens: behind the
others, in order. At an edge past GRR an inbound endpoint that the plane connects, without a queue, delivers its oldest
offered token and TOKENS_IN rises; without an offered token nothing happens. At a window's end, with VCCINT and the die not
fenced, the pace registers take the four counts and their minimum, MIN the lowest yet, and LOW latches below LOW_LIMIT;
without a stable reference the five read 0 and nothing else changes (assumption log 136). CLR_MIN sets MIN to 0xFFFF. Beside
zones, the free values and the registers named nothing changes. -/
def Obligations.FabricCellsAndChannels : Prop :=
  (∀ (s : State) (z : ZoneId) (cell : Fin 20480), (s.dev.zone z.no).stage = .grr →
      (lookupD cellUnused cell.val (s.dev.image z.no).cells).ff1.async = true →
    completes (.flipflopAsyncSr z cell true) s (fun d =>
      (d.zone z.no).ffs = ffSet (s.dev.zone z.no).ffs (2 * cell.val + 1)
          (lookupD cellUnused cell.val (s.dev.image z.no).cells).ff1.srval
      ∧ (∀ m, m ≠ z.no → d.zone m = s.dev.zone m) ∧ s.dev.Only d [.zones] (fieldsOf [])))
  ∧ (∀ (s : State) (z : ZoneId) (cell : Fin 20480), (s.dev.zone z.no).stage = .grr →
      (lookupD cellUnused cell.val (s.dev.image z.no).cells).ff0.async = true →
    completes (.flipflopAsyncSr z cell false) s (fun d =>
      (d.zone z.no).ffs = ffSet (s.dev.zone z.no).ffs (2 * cell.val)
          (lookupD cellUnused cell.val (s.dev.image z.no).cells).ff0.srval
      ∧ (∀ m, m ≠ z.no → d.zone m = s.dev.zone m) ∧ s.dev.Only d [.zones] (fieldsOf [])))
  ∧ (∀ (s : State) (z : ZoneId) (ep : Fin 16) (t : BitVec 36), s.dev.zoneEdges z.no = true →
      (s.dev.zone z.no).stage = .grr → (s.dev.route z.no ep.val).isSome = true → (s.dev.zone z.no).frozen = false →
      s.dev.endpointQueue z.no ep.val .channelOut = none → (s.dev.outEp z.no ep.val).buf.length < 2 →
    completes (.channelTokenAccept z ep t) s (fun d =>
      (d.outEp z.no ep.val).flight ++ (d.outEp z.no ep.val).buf
          = (s.dev.outEp z.no ep.val).flight ++ (s.dev.outEp z.no ep.val).buf ++ [t]
      ∧ (d.outEp z.no ep.val).count = ((s.dev.outEp z.no ep.val).count + 1) % 2 ^ 32
      ∧ (∀ m, m ≠ z.no → d.zone m = s.dev.zone m) ∧ s.dev.Only d [.zones] (fieldsOf [])))
  ∧ (∀ (s : State) (z : ZoneId) (ep : Fin 16) (t : BitVec 36), s.dev.oReady z.no ep.val = false →
    completes (.channelTokenAccept z ep t) s (fun d => d = s.dev))
  ∧ (∀ (s : State) (z : ZoneId) (ep : Fin 16) (r : Route) (to_ : Fin 64) (ep' : Fin 16) (t : BitVec 36)
        (rest : List (BitVec 36)), s.dev.route z.no ep.val = some r → r.dst = .zone to_ ep' →
      (s.dev.outEp z.no ep.val).old = [] → (s.dev.outEp z.no ep.val).flight = t :: rest →
      s.dev.endpointQueue z.no ep.val .channelOut = none →
      s.dev.joined z.no ep.val (z.no / 64 * 64 + to_.val) ep'.val = true →
      s.dev.fenced (z.no / 64 + 1) = false → s.dev.dormant = false → s.dev.board.vccint = true →
      (s.dev.zone (z.no / 64 * 64 + to_.val)).frozen = false →
      (s.dev.inEp (z.no / 64 * 64 + to_.val) ep'.val).stale = [] →
      s.dev.endpointQueue (z.no / 64 * 64 + to_.val) ep'.val .channelIn = none →
      (s.dev.inEp (z.no / 64 * 64 + to_.val) ep'.val).buf.length < 4 →
    completes (.channelTokenLand z ep false) s (fun d =>
      (d.inEp (z.no / 64 * 64 + to_.val) ep'.val).buf = (s.dev.inEp (z.no / 64 * 64 + to_.val) ep'.val).buf ++ [t]
      ∧ (d.outEp z.no ep.val).flight ++ (d.outEp z.no ep.val).buf = rest ++ (s.dev.outEp z.no ep.val).buf
      ∧ s.dev.Only d [.zones, .free] (fieldsOf [])))
  ∧ (∀ (s : State) (z : ZoneId) (ep : Fin 16), s.dev.zoneEdges z.no = true → (s.dev.zone z.no).stage = .grr →
      s.dev.inUsed z.no ep.val = true → s.dev.endpointQueue z.no ep.val .channelIn = none → 0 < (s.dev.inEp z.no ep.val).offered →
    completes (.channelTokenDeliver z ep) s (fun d =>
      d.inEp z.no ep.val = { s.dev.inEp z.no ep.val with
        buf := (s.dev.inEp z.no ep.val).buf.drop 1, offered := (s.dev.inEp z.no ep.val).offered - 1,
        count := ((s.dev.inEp z.no ep.val).count + 1) % 2 ^ 32 }
      ∧ (∀ m, m ≠ z.no → d.zone m = s.dev.zone m) ∧ s.dev.Only d [.zones] (fieldsOf [])))
  ∧ (∀ (s : State) (z : ZoneId) (ep : Fin 16), s.dev.endpointQueue z.no ep.val .channelIn = none →
      (s.dev.inEp z.no ep.val).offered = 0 →
    completes (.channelTokenDeliver z ep) s (fun d => d = s.dev))
  ∧ (∀ (s : State) (k : Die) (q0 q1 q2 q3 : BitVec 16), s.dev.fenced k.no = false → s.dev.board.vccint = true →
      s.dev.clk.osc = Osc.STABLE →
    completes (.paceWindowEnd k q0 q1 q2 q3) s (fun d =>
      d.get (F.DR_PACE_Q_TOKENS (U.DR k.no) 0) = q0.toNat ∧ d.get (F.DR_PACE_Q_TOKENS (U.DR k.no) 1) = q1.toNat
      ∧ d.get (F.DR_PACE_Q_TOKENS (U.DR k.no) 2) = q2.toNat ∧ d.get (F.DR_PACE_Q_TOKENS (U.DR k.no) 3) = q3.toNat
      ∧ d.get (F.DR_PACE_TOKENS (U.DR k.no)) = min (min q0.toNat q1.toNat) (min q2.toNat q3.toNat)
      ∧ d.get (F.DR_PACE_MIN_TOKENS (U.DR k.no)) = min (min (min q0.toNat q1.toNat) (min q2.toNat q3.toNat))
          (s.dev.get (F.DR_PACE_MIN_TOKENS (U.DR k.no)))
      ∧ d.get (F.DR_PACE_STATUS_LOW (U.DR k.no)) = (if min (min q0.toNat q1.toNat) (min q2.toNat q3.toNat)
          < s.dev.get (F.DR_PACE_CTL_LOW_LIMIT (U.DR k.no)) then 1 else s.dev.get (F.DR_PACE_STATUS_LOW (U.DR k.no)))
      ∧ s.dev.Only d [] (fieldsOf [F.DR_PACE_Q_TOKENS (U.DR k.no) 0, F.DR_PACE_Q_TOKENS (U.DR k.no) 1,
          F.DR_PACE_Q_TOKENS (U.DR k.no) 2, F.DR_PACE_Q_TOKENS (U.DR k.no) 3, F.DR_PACE_TOKENS (U.DR k.no),
          F.DR_PACE_MIN_TOKENS (U.DR k.no), F.DR_PACE_STATUS_LOW (U.DR k.no)])))
  ∧ (∀ (s : State) (k : Die) (q0 q1 q2 q3 : BitVec 16), s.dev.fenced k.no = false → s.dev.board.vccint = true →
      s.dev.clk.osc ≠ Osc.STABLE →
    completes (.paceWindowEnd k q0 q1 q2 q3) s (fun d => d.get (F.DR_PACE_TOKENS (U.DR k.no)) = 0
      ∧ (∀ i, i < 4 → d.get (F.DR_PACE_Q_TOKENS (U.DR k.no) i) = 0)
      ∧ s.dev.Only d [] (fieldsOf [F.DR_PACE_Q_TOKENS (U.DR k.no) 0, F.DR_PACE_Q_TOKENS (U.DR k.no) 1,
          F.DR_PACE_Q_TOKENS (U.DR k.no) 2, F.DR_PACE_Q_TOKENS (U.DR k.no) 3, F.DR_PACE_TOKENS (U.DR k.no)])))
  ∧ (∀ (s : State) (k : Die), s.dev.refusalsFull k.no = false →
    completes (.drPaceClrMin k) s (fun d => d.get (F.DR_PACE_MIN_TOKENS (U.DR k.no)) = 0xFFFF
      ∧ s.dev.Only d [] (fieldsOf [F.DR_PACE_MIN_TOKENS (U.DR k.no)])))

/-- At a rising edge past GRR, with no power entry, power state or wake under way, the flip-flops take what the cells compute,
the crossbar port passes on what it captured and presents what the logic drives; the pool, the frames, the board, the clocks'
own state, the resets, options and keys stay. Where, beside that, the image has no memory and no slice, the zone owns no bank
and no lane quad and is at no step of a swap that an edge ends, nothing changes but the zone, its stall count and the free
values. Before GRR, at no such step, flip-flops, slices, the port, the banks and the board stay. A zone whose clock has no
edges is left as it is. -/
def Obligations.ZoneClockEdge : Prop :=
  (∀ (s : State) (z : ZoneId) (e : EdgeIn), s.dev.zoneEdges z.no = true → (s.dev.zone z.no).stage = .grr →
      s.dev.get F.PW_STATUS_PHASE = 0 →
    completesMem (.zoneEdge z e) s (fun d m =>
      (d.zone z.no).ffs = cellsEdge (s.dev.image z.no).cells e.cells (s.dev.zone z.no).ffs
      ∧ (d.zone z.no).xbIn = (s.dev.zone z.no).xbCap ∧ (d.zone z.no).xbOut = e.xbOut.toNat
      ∧ (d.zone z.no).xbOe = e.xbOe.toNat ∧ m.pool = s.mem.pool ∧ m.frames = s.mem.frames
      ∧ d.board = s.dev.board ∧ d.clk = s.dev.clk ∧ d.rst = s.dev.rst ∧ d.orm = s.dev.orm ∧ d.keys = s.dev.keys))
  ∧ (∀ (s : State) (z : ZoneId) (e : EdgeIn), s.dev.zoneEdges z.no = true → (s.dev.zone z.no).stage = .grr →
      (s.dev.image z.no).mems = [] → (s.dev.image z.no).slices = [] → s.dev.zoneBank z.no = none →
      zoneQuads z.no = [] → s.dev.atStep z.no 3 = false → s.dev.atStep z.no 5 = false →
    completes (.zoneEdge z e) s (fun d => (∀ m, m ≠ z.no → d.zone m = s.dev.zone m)
      ∧ s.dev.Only d [.zones, .free] (fieldsOf [F.ZN_EP_STALL_CYCLES (zoneUnit z.no)])))
  ∧ (∀ (s : State) (z : ZoneId) (e : EdgeIn), s.dev.zoneEdges z.no = true → (s.dev.zone z.no).stage ≠ .grr →
      s.dev.atStep z.no 3 = false → s.dev.atStep z.no 5 = false →
    completesMem (.zoneEdge z e) s (fun d _ => (d.zone z.no).ffs = (s.dev.zone z.no).ffs
      ∧ (d.zone z.no).slices = (s.dev.zone z.no).slices ∧ (d.zone z.no).xbOut = (s.dev.zone z.no).xbOut
      ∧ d.banks = s.dev.banks ∧ d.board = s.dev.board))
  ∧ (∀ (s : State) (z : ZoneId) (e : EdgeIn), s.dev.zoneEdges z.no = false →
    completes (.zoneEdge z e) s (fun d => d = s.dev))

/-! ## Block memories and queues (chapters 08 and 11) -/

/-- At an edge of a zone, on a memory that no queue owns. A read by port A without ECC and output register shows the word of
the port's shape; in ECC mode, with no power entry, power state or wake under way and the unit's events heard, a read of a
corrected codeword counts and raises it, one of an uncorrectable codeword counts, raises it, and fills ERR_LAST. A write from
GWE on in NO_CHANGE mode stores the enabled lanes of one row (in ECC mode the whole codeword, through an armed flip mask, which
it disarms); every other row, the pool and the frames stay; the device stays too, but for the flip control and, where the memory
is lent, for its arbiter, the free values and the collision count. Before GWE a write is ignored on a memory whose port B zone
logic does not have. Where both ports write all lanes of one row (port A 72 bits wide) without ECC, the collision counts and
port A's value stands. -/
def Obligations.BlockMemoryPorts : Prop :=
  (∀ (s : State) (z : ZoneId) (m : Fin 48) (a : BmAccess), s.dev.zoneEdges z.no = true → a.write = false →
      (s.dev.memCfg z.no m.val).queue = .none → (s.dev.memCfg z.no m.val).ecc = false →
      (s.dev.memCfg z.no m.val).outRegA = false →
    completes (.bmPortAccess z m (some a) none) s (fun d =>
      (d.portOut z.no m.val false).val = rowWord
          (s.mem.row (bmAddr z.no m.val (wordRow ((s.dev.memCfg z.no m.val).shape false) a.addr.toNat)))
          (wordLane ((s.dev.memCfg z.no m.val).shape false) a.addr.toNat)
          ((s.dev.memCfg z.no m.val).shape false).lanes
      ∧ (∀ n, n ≠ z.no → d.zone n = s.dev.zone n) ∧ s.dev.Only d [.zones] (fieldsOf [])))
  ∧ (∀ (s : State) (z : ZoneId) (m : Fin 48) (a : BmAccess), s.dev.running = true →
      s.dev.silent (zoneUnit z.no) = false → s.dev.zoneEdges z.no = true → a.write = false →
      (s.dev.memCfg z.no m.val).queue = .none → (s.dev.memCfg z.no m.val).ecc = true →
      (eccDecode (rowToCw (s.mem.row (bmAddr z.no m.val (wordRow .s72 a.addr.toNat))))).2 = .corrected →
    completes (.bmPortAccess z m (some a) none) s (fun d =>
      d.get (F.ZN_BM_CORR_CNT_COUNT (zoneUnit z.no)) = satInc 32 (s.dev.get (F.ZN_BM_CORR_CNT_COUNT (zoneUnit z.no)))
      ∧ d.latched Ev.ECC_CORRECTED = true
      ∧ s.dev.OnlyNoted d [.zones] (fieldsOf [F.ZN_BM_CORR_CNT_COUNT (zoneUnit z.no)])))
  ∧ (∀ (s : State) (z : ZoneId) (m : Fin 48) (a : BmAccess), s.dev.running = true →
      s.dev.silent (zoneUnit z.no) = false → s.dev.zoneEdges z.no = true → a.write = false →
      (s.dev.memCfg z.no m.val).queue = .none → (s.dev.memCfg z.no m.val).ecc = true →
      (eccDecode (rowToCw (s.mem.row (bmAddr z.no m.val (wordRow .s72 a.addr.toNat))))).2 = .uncorrectable →
    completes (.bmPortAccess z m (some a) none) s (fun d =>
      d.get (F.ZN_BM_UNCORR_CNT_COUNT (zoneUnit z.no))
          = satInc 32 (s.dev.get (F.ZN_BM_UNCORR_CNT_COUNT (zoneUnit z.no)))
      ∧ d.get (F.ZN_BM_ERR_LAST_VALID (zoneUnit z.no)) = 1 ∧ d.get (F.ZN_BM_ERR_LAST_MEM (zoneUnit z.no)) = m.val
      ∧ d.get (F.ZN_BM_ERR_LAST_PORT (zoneUnit z.no)) = 0
      ∧ d.get (F.ZN_BM_ERR_LAST_ROW (zoneUnit z.no)) = wordRow .s72 a.addr.toNat
      ∧ d.latched Ev.ECC_UNCORRECTABLE = true
      ∧ s.dev.OnlyNoted d [.zones, .cul] (fieldsOf [F.ZN_BM_UNCORR_CNT_COUNT (zoneUnit z.no),
          (F.ZN_BM_ERR_LAST_VALID (zoneUnit z.no)).reg, F.DR_CUL_LOST_COUNT (U.DR (unitDie (zoneUnit z.no)))])))
  ∧ (∀ (s : State) (z : ZoneId) (m : Fin 48) (a : BmAccess), s.dev.zoneEdges z.no = true → s.dev.writesOn z.no = true →
      a.write = true → (s.dev.memCfg z.no m.val).queue = .none → (s.dev.memCfg z.no m.val).ecc = false →
      (s.dev.memCfg z.no m.val).modeA = .noChange →
    completesMem (.bmPortAccess z m (some a) none) s (fun d t =>
      ((s.dev.memCfg z.no m.val).lent = false → d = s.dev)
      ∧ s.dev.Only d [.zones, .free] (fieldsOf [F.ZN_BM_COLL_CNT_COUNT (zoneUnit z.no)])
      ∧ t = s.mem.setRow (bmAddr z.no m.val (wordRow ((s.dev.memCfg z.no m.val).shape false) a.addr.toNat))
        (rowStore (s.mem.row (bmAddr z.no m.val (wordRow ((s.dev.memCfg z.no m.val).shape false) a.addr.toNat)))
          (wordLane ((s.dev.memCfg z.no m.val).shape false) a.addr.toNat)
          ((s.dev.memCfg z.no m.val).shape false).lanes a.data.toNat a.lanes.toNat)
      ∧ t.pool = s.mem.pool ∧ t.frames = s.mem.frames
      ∧ ∀ x, x ≠ bmAddr z.no m.val (wordRow ((s.dev.memCfg z.no m.val).shape false) a.addr.toNat) →
          t.row x = s.mem.row x))
  ∧ (∀ (s : State) (z : ZoneId) (m : Fin 48) (a : BmAccess), s.dev.zoneEdges z.no = true → s.dev.writesOn z.no = true →
      a.write = true → (s.dev.memCfg z.no m.val).queue = .none → (s.dev.memCfg z.no m.val).ecc = true →
      (s.dev.memCfg z.no m.val).modeA = .noChange →
    completesMem (.bmPortAccess z m (some a) none) s (fun d t =>
      t.row (bmAddr z.no m.val (wordRow .s72 a.addr.toNat)) = cwToRow (eccStore (a.data.toNat % 2 ^ 64) a.poison
          ^^^ if s.dev.flipArmed (zoneUnit z.no) m.val then s.dev.flipMask (zoneUnit z.no) else 0)
      ∧ (s.dev.flipArmed (zoneUnit z.no) m.val = false → (s.dev.memCfg z.no m.val).lent = false → d = s.dev)
      ∧ ((s.dev.memCfg z.no m.val).lent = false →
          s.dev.Only d [] (fieldsOf [⟨eccBlock (zoneUnit z.no) + 0x1C, 31, 0⟩]))
      ∧ (s.dev.flipArmed (zoneUnit z.no) m.val = true → d.flipArmed (zoneUnit z.no) m.val = false)
      ∧ t.pool = s.mem.pool ∧ t.frames = s.mem.frames
      ∧ (∀ x, x ≠ bmAddr z.no m.val (wordRow .s72 a.addr.toNat) → t.row x = s.mem.row x)
      ∧ s.dev.Only d [.zones, .free] (fieldsOf [⟨eccBlock (zoneUnit z.no) + 0x1C, 31, 0⟩,
          F.ZN_BM_COLL_CNT_COUNT (zoneUnit z.no)])))
  ∧ (∀ (s : State) (z : ZoneId) (m : Fin 48) (a : BmAccess) (b : Option BmAccess), s.dev.writesOn z.no = false →
      a.write = true → (s.dev.memCfg z.no m.val).portBFree = false →
    completes (.bmPortAccess z m (some a) b) s (fun d => d = s.dev))
  ∧ (∀ (s : State) (z : ZoneId) (m : Fin 48) (a b : BmAccess), s.dev.zoneEdges z.no = true → s.dev.writesOn z.no = true →
      a.write = true → b.write = true → (s.dev.memCfg z.no m.val).portBFree = true →
      (s.dev.memCfg z.no m.val).ecc = false → (s.dev.memCfg z.no m.val).shape false = .s72 →
      (s.dev.memCfg z.no m.val).modeA = .noChange → (s.dev.memCfg z.no m.val).modeB = .noChange →
      a.lanes = 255 → b.lanes = 255 → wordRow .s72 a.addr.toNat = wordRow ((s.dev.memCfg z.no m.val).shape true) b.addr.toNat →
    completesMem (.bmPortAccess z m (some a) (some b)) s (fun d t =>
      t.row (bmAddr z.no m.val (wordRow .s72 a.addr.toNat)) = a.data
      ∧ d.get (F.ZN_BM_COLL_CNT_COUNT (zoneUnit z.no)) = satInc 32 (s.dev.get (F.ZN_BM_COLL_CNT_COUNT (zoneUnit z.no)))
      ∧ s.dev.Only d [] (fieldsOf [F.ZN_BM_COLL_CNT_COUNT (zoneUnit z.no)])))

/-- A SYNC queue, at an edge of a zone from GWE on: a write into room without ECC stores one word at the tail and raises the
occupancy, a write into a full queue without a read stores nothing and latches OVERFLOW, a read of an empty one without
first-word fall-through latches UNDERFLOW. With room in the die's refusal queue, a pair of thresholds for the selected queue
with AE < AF ≤ depth is shown at once while the pair in force stays, and every edge of the zone puts the pair last written of
each queue of the image in force; a pair that is not the one held is refused THRESHOLD_ORDER where AF ≤ AE and RESERVED_VALUE
where AE < AF and AF is above the depth. ARM of an ECC test block sets its bit for a pool group while MCK runs, and for a zone
of a die not fenced, with room in its refusal queue, where the selected store is in ECC mode; else the zone refuses it with
RESERVED_VALUE. But for the zone or the registers named nothing changes. -/
def Obligations.QueuesAndEccTest : Prop :=
  (∀ (s : State) (z : ZoneId) (q : Fin 48) (w : BitVec 72) (p : Bool), s.dev.zoneEdges z.no = true →
      s.dev.writesOn z.no = true → (s.dev.memCfg z.no q.val).queue = .sync → (s.dev.memCfg z.no q.val).ecc = false →
      (s.dev.queue z.no q.val).vis < (s.dev.memCfg z.no q.val).depth →
    completesMem (.queueZoneAccess z q true w p false) s (fun d t =>
      d.queue z.no q.val = { s.dev.queue z.no q.val with vis := (s.dev.queue z.no q.val).vis + 1 }
      ∧ t = (s.dev.queueWrite s.mem z.no q.val (((s.dev.queue z.no q.val).rd
          + heldWords (s.dev.memCfg z.no q.val) (s.dev.queue z.no q.val)) % (s.dev.memCfg z.no q.val).depth)
          w.toNat p).2
      ∧ t.pool = s.mem.pool ∧ t.frames = s.mem.frames
      ∧ (∀ n, n ≠ z.no → d.zone n = s.dev.zone n) ∧ s.dev.Only d [.zones] (fieldsOf [])))
  ∧ (∀ (s : State) (z : ZoneId) (q : Fin 48) (w : BitVec 72) (p : Bool), s.dev.zoneEdges z.no = true →
      s.dev.writesOn z.no = true → (s.dev.memCfg z.no q.val).queue = .sync →
      (s.dev.memCfg z.no q.val).depth ≤ (s.dev.queue z.no q.val).vis →
    completes (.queueZoneAccess z q true w p false) s (fun d =>
      d.queue z.no q.val = { s.dev.queue z.no q.val with ovf := true }
      ∧ (∀ n, n ≠ z.no → d.zone n = s.dev.zone n) ∧ s.dev.Only d [.zones] (fieldsOf [])))
  ∧ (∀ (s : State) (z : ZoneId) (q : Fin 48) (w : BitVec 72) (p : Bool), s.dev.zoneEdges z.no = true →
      s.dev.writesOn z.no = true → (s.dev.memCfg z.no q.val).queue = .sync → (s.dev.memCfg z.no q.val).fwft = false →
      (s.dev.queue z.no q.val).vis = 0 →
    completes (.queueZoneAccess z q false w p true) s (fun d =>
      d.queue z.no q.val = { s.dev.queue z.no q.val with unf := true }
      ∧ (∀ n, n ≠ z.no → d.zone n = s.dev.zone n) ∧ s.dev.Only d [.zones] (fieldsOf [])))
  ∧ (∀ (s : State) (z : ZoneId) (ae af : BitVec 15), s.dev.refusalsFull z.die.no = false → ae.toNat < af.toNat →
      af.toNat ≤ (s.dev.memCfg z.no (s.dev.get (F.ZN_QC_SEL_QUEUE z.unit))).depth →
    completes (.znQcThreshWrite z ae af) s (fun d =>
      (d.queue z.no (s.dev.get (F.ZN_QC_SEL_QUEUE z.unit))).pair = (ae.toNat, af.toNat)
      ∧ (d.queue z.no (s.dev.get (F.ZN_QC_SEL_QUEUE z.unit))).ae
          = (s.dev.queue z.no (s.dev.get (F.ZN_QC_SEL_QUEUE z.unit))).ae
      ∧ (d.queue z.no (s.dev.get (F.ZN_QC_SEL_QUEUE z.unit))).af
          = (s.dev.queue z.no (s.dev.get (F.ZN_QC_SEL_QUEUE z.unit))).af
      ∧ (∀ n, n ≠ z.no → d.zone n = s.dev.zone n) ∧ s.dev.Only d [.zones] (fieldsOf [])))
  ∧ (∀ (s : State) (z : ZoneId) (e : EdgeIn) (q : Nat), s.dev.zoneEdges z.no = true →
      q ∈ (s.dev.image z.no).mems.map (·.1) → (s.dev.memCfg z.no q).isQueue = true →
    completesMem (.zoneEdge z e) s (fun d _ => (d.queue z.no q).pend = none
      ∧ ((d.queue z.no q).ae, (d.queue z.no q).af) = (s.dev.queue z.no q).pair))
  ∧ (∀ (s : State) (z : ZoneId) (ae af : BitVec 15), s.dev.refusalsFull z.die.no = false → af.toNat ≤ ae.toNat →
      (s.dev.queue z.no (s.dev.get (F.ZN_QC_SEL_QUEUE z.unit))).pair ≠ (ae.toNat, af.toNat) →
    completes (.znQcThreshWrite z ae af) s (fun d =>
      d.get (F.ZN_REFUSE_REASON (zoneUnit z.no)) = Reason.thresholdOrder.code
      ∧ s.dev.OnlyNoted d [] (fieldsOf [(F.ZN_REFUSE_REASON (zoneUnit z.no)).reg])))
  ∧ (∀ (s : State) (z : ZoneId) (ae af : BitVec 15), s.dev.refusalsFull z.die.no = false → ae.toNat < af.toNat →
      (s.dev.memCfg z.no (s.dev.get (F.ZN_QC_SEL_QUEUE z.unit))).depth < af.toNat →
      (s.dev.queue z.no (s.dev.get (F.ZN_QC_SEL_QUEUE z.unit))).pair ≠ (ae.toNat, af.toNat) →
    completes (.znQcThreshWrite z ae af) s (fun d =>
      d.get (F.ZN_REFUSE_REASON (zoneUnit z.no)) = Reason.reservedValue.code
      ∧ s.dev.OnlyNoted d [] (fieldsOf [(F.ZN_REFUSE_REASON (zoneUnit z.no)).reg])))
  ∧ (∀ (s : State) (g : Fin 8), s.dev.board.mck = true →
    completes (.eccFlipArm (.pool g)) s (fun d => d.rd (eccBlock (eccUnit (.pool g)) + 0x1C)
          = setBit (s.dev.rd (eccBlock (eccUnit (.pool g)) + 0x1C)) 0
      ∧ s.dev.Only d [] (fieldsOf [⟨eccBlock (eccUnit (.pool g)) + 0x1C, 31, 0⟩])))
  ∧ (∀ (s : State) (z : ZoneId), s.dev.refusalsFull (unitDie (zoneUnit z.no)) = false →
      s.dev.fenced (unitDie (zoneUnit z.no)) = false → s.dev.eccMode (eccUnit (.zone z)) = true →
    completes (.eccFlipArm (.zone z)) s (fun d => d.rd (eccBlock (eccUnit (.zone z)) + 0x1C)
          = setBit (s.dev.rd (eccBlock (eccUnit (.zone z)) + 0x1C)) 0
      ∧ s.dev.Only d [] (fieldsOf [⟨eccBlock (eccUnit (.zone z)) + 0x1C, 31, 0⟩])))
  ∧ (∀ (s : State) (z : ZoneId), s.dev.refusalsFull (unitDie (zoneUnit z.no)) = false →
      s.dev.fenced (unitDie (zoneUnit z.no)) = false → s.dev.eccMode (eccUnit (.zone z)) = false →
    completes (.eccFlipArm (.zone z)) s (fun d => d.get (F.ZN_REFUSE_REASON (zoneUnit z.no)) = Reason.reservedValue.code
      ∧ s.dev.OnlyNoted d [] (fieldsOf [(F.ZN_REFUSE_REASON (zoneUnit z.no)).reg])))

/-! ## The ring network (chapters 09 and 10) -/

/-- Each of the five commands answers a next state in every state. At a port that works (R269), with no FENCE pending,
REQUEST_ISSUE of a request that the stop's checks pass (R270, R275) adds it to the port with the next sequence number; a read
that they turn away is answered with their status and not launched (R658); behind a pending FENCE a request waits, and
RING_FENCE with none pending makes one pending (R271). Where R278 gives the port a request that may go, not for the stop where
its packet starts, and a tag is free (R292), REQUEST_LAUNCH moves it from the port to those outstanding, with that tag (an EVT,
which has none and no answer, just leaves), and its packet stands at a node of the ring; at an initiator but the stream mover
with none to go nothing changes. RING_HOP takes the first packet of a node, not at its destination and with no bridge to
cross, to the next one with HOPS one less (R273, R274); at its destination, where none stalls, not isolated and with fewer
than 4 waiting, a request enters the input buffer (R277). Where the next stop is on the same ring, its unit is heard and no
power entry, power state or wake is under way, a packet whose header then fails CHECK leaves the ring and is counted and shown,
and so is one whose HOPS are used up short of its destination (R274, R276). Before a bridge that is not open, with its die not
cut off, a packet waits. TARGET_TAKE, at a stop where no packet stalls and no taken request is finished, moves the request
whose turn it is (R279) from the input buffer to those taken; with none whose turn it is nothing changes. -/
def Obligations.RequestsEnterAndTravel : Prop :=
  (∀ (s : State) (i : Initiator) (q : Request) (cls : Fin 4) (n : RingNode) (flip : Unit128) (t : StopId),
    ∀ c ∈ [Instr.requestIssue i q, .ringFence i cls, .requestLaunch i, .ringHop n flip, .targetTake t],
      ∃ u, exec c s = .next u ∧ u.pending = s.pending)
  ∧ (∀ (s : State) (i : Initiator) (q : Request), s.dev.portRuns i.key = true → (s.dev.init i.key).fence = none →
      q.cmd.toNat ≠ Cmd.FENCE → s.dev.issueCheck i.key (portReq q (s.dev.init i.key).nextSeq) = none →
    completes (.requestIssue i q) s (fun d => d = s.dev.setInit i.key { s.dev.init i.key with
      nextSeq := (s.dev.init i.key).nextSeq + 1,
      port := (s.dev.init i.key).port ++ [portReq q (s.dev.init i.key).nextSeq] }))
  ∧ (∀ (s : State) (i : Initiator) (q : Request) (st : Nat), s.dev.portRuns i.key = true →
      (s.dev.init i.key).fence = none → q.cmd.toNat = Cmd.RD →
      s.dev.issueCheck i.key (portReq q (s.dev.init i.key).nextSeq) = some st →
    completes (.requestIssue i q) s (fun d => d = s.dev.setInit i.key { s.dev.init i.key with
      nextSeq := (s.dev.init i.key).nextSeq + 1, arrived := (s.dev.init i.key).arrived + 1,
      out := (s.dev.init i.key).out ++ [{
        seq := (s.dev.init i.key).nextSeq, tag := none, cmd := Cmd.RD, cls := q.cls.val, addr := q.addr.toNat,
        resp := some ((s.dev.init i.key).arrived, st, []), expired := false, abandoned := false, held := false,
        who := 0 }] }))
  ∧ (∀ (s : State) (i : Initiator) (q : Request), s.dev.portRuns i.key = true → (s.dev.init i.key).fence.isSome = true →
    completes (.requestIssue i q) s (fun d => d = s.dev.setInit i.key { s.dev.init i.key with
      nextSeq := (s.dev.init i.key).nextSeq + 1,
      held := (s.dev.init i.key).held ++ [portReq q (s.dev.init i.key).nextSeq] }))
  ∧ (∀ (s : State) (i : Initiator) (cls : Fin 4), s.dev.portRuns i.key = true → (s.dev.init i.key).fence = none →
    completes (.ringFence i cls) s (fun d => d = s.dev.setInit i.key { s.dev.init i.key with
      nextSeq := (s.dev.init i.key).nextSeq + 1, fence := some { seq := (s.dev.init i.key).nextSeq, status := 0 } }))
  ∧ (∀ (s : State) (i : Initiator) (r : PortReq) (t : Nat), i.key ≤ 640 → s.dev.mayLaunch i.key = true →
      (s.dev.init i.key).pick = some r → r.cmd ≠ Cmd.EVT → r.cmd < 16 →
      ((s.dev.init i.key).without r).pickTag 1024 (s.dev.init i.key).nextTag = some t →
      (launchPacket i.key r t false).arrived
        (sourceNode i.key (addrKey r.addr / 128)).1 (sourceNode i.key (addrKey r.addr / 128)).2 = false →
    completes (.requestLaunch i) s (fun d =>
      (d.init i.key).port = ((s.dev.init i.key).without r).port
      ∧ (d.init i.key).out = (s.dev.init i.key).out ++ [{
          seq := r.seq, tag := some t, cmd := r.cmd, cls := r.cls, addr := r.addr, resp := none, expired := false,
          abandoned := i.key == 1 && r.who == 1, held := false, who := r.who }]
      ∧ (d.init i.key).nextTag = (t + 1) % 1024
      ∧ (∃ node ccw, d.node node = s.dev.node node ++ [launchPacket i.key r t ccw])
      ∧ (∀ k, k ≠ i.key → d.init k = s.dev.init k) ∧ s.dev.Only d [.ring] (fieldsOf [])))
  ∧ (∀ (s : State) (i : Initiator) (r : PortReq), i.key ≤ 640 → s.dev.mayLaunch i.key = true →
      (s.dev.init i.key).pick = some r → r.cmd = Cmd.EVT →
      (launchPacket i.key r 0 false).arrived
        (sourceNode i.key (addrKey r.addr / 128)).1 (sourceNode i.key (addrKey r.addr / 128)).2 = false →
    completes (.requestLaunch i) s (fun d =>
      (d.init i.key).port = ((s.dev.init i.key).without r).port ∧ (d.init i.key).out = (s.dev.init i.key).out
      ∧ (∃ node ccw, d.node node = s.dev.node node ++ [launchPacket i.key r 0 ccw])
      ∧ (∀ k, k ≠ i.key → d.init k = s.dev.init k) ∧ s.dev.Only d [.ring] (fieldsOf [])))
  ∧ (∀ (s : State) (i : Initiator), i ≠ .smv → (s.dev.init i.key).pick = none →
    completes (.requestLaunch i) s (fun d => d = s.dev))
  ∧ (∀ (s : State) (n : RingNode) (p : Packet) (rest : List Packet), s.dev.node (nodeOf n) = p :: rest →
      p.arrived n.ring.val n.pos.val = false → p.crossing n.ring.val n.pos.val = none → p.hopped.sound = true →
      p.hopped.arrived (nextNode n p).1 (nextNode n p).2.1 = false → p.hopped.hops ≠ 0 → p.hopped.isResp = n.resp →
      nextKey n p ≠ nodeOf n →
    completes (.ringHop n 0) s (fun d => d.node (nodeOf n) = rest
      ∧ d.node (nextKey n p) = s.dev.node (nextKey n p) ++ [p.hopped]
      ∧ s.dev.Only d [.ring] (fieldsOf [F.SPN_UNITS_PCCW_COUNT, F.SPN_UNITS_PCW_COUNT,
          F.DR_UNITS_CCW_COUNT (ringUnit n.ring.val), F.DR_UNITS_CW_COUNT (ringUnit n.ring.val)])))
  ∧ (∀ (s : State) (n : RingNode) (p : Packet) (rest : List Packet), s.dev.node (nodeOf n) = p :: rest →
      p.arrived n.ring.val n.pos.val = false → p.crossing n.ring.val n.pos.val = none → p.hopped.sound = true →
      p.hopped.arrived (nextNode n p).1 (nextNode n p).2.1 = true → p.hopped.isResp = false → n.resp = false →
      nextKey n p ≠ nodeOf n → s.dev.node (nextKey n p) = [] → (s.dev.target p.hopped.dst).iso = 0 →
      (s.dev.target p.hopped.dst).inq.length < 4 →
    completes (.ringHop n 0) s (fun d => d.node (nodeOf n) = rest
      ∧ (d.target p.hopped.dst).inq = (s.dev.target p.hopped.dst).inq ++ [((nextNode n p).2.2, p.hopped)]
      ∧ (d.target p.hopped.dst).taken = (s.dev.target p.hopped.dst).taken
      ∧ s.dev.Only d [.ring] (fieldsOf [F.SPN_UNITS_PCCW_COUNT, F.SPN_UNITS_PCW_COUNT,
          F.DR_UNITS_CCW_COUNT (ringUnit n.ring.val), F.DR_UNITS_CW_COUNT (ringUnit n.ring.val)])))
  ∧ (∀ (s : State) (n : RingNode) (flip : Unit128) (p : Packet) (rest : List Packet), s.dev.running = true →
      s.dev.node (nodeOf n) = p :: rest → p.arrived n.ring.val n.pos.val = false →
      p.crossing n.ring.val n.pos.val = none → (nextNode n p).1 = n.ring.val →
      s.dev.silent (stopUnit (stopAt n.ring.val (nextNode n p).2.1)) = false →
      ({ p.hopped with hdr := p.hopped.hdr ^^^ flip } : Packet).sound = false →
    completes (.ringHop n flip) s (fun d => d.node (nodeOf n) = rest
      ∧ d.get (F.DR_HDR_ERR_CNT_COUNT (ringUnit n.ring.val))
          = satInc 16 (s.dev.get (F.DR_HDR_ERR_CNT_COUNT (ringUnit n.ring.val)))
      ∧ d.get (F.DR_ERR_LAST_VALID (ringUnit n.ring.val)) = 1 ∧ d.latched Ev.HEADER_CHECK_FAIL = true))
  ∧ (∀ (s : State) (n : RingNode) (p : Packet) (rest : List Packet), s.dev.running = true →
      s.dev.node (nodeOf n) = p :: rest → p.arrived n.ring.val n.pos.val = false →
      p.crossing n.ring.val n.pos.val = none → (nextNode n p).1 = n.ring.val →
      s.dev.silent (stopUnit (stopAt n.ring.val (nextNode n p).2.1)) = false →
      p.hopped.sound = true → p.hopped.hops = 0 → p.hopped.arrived (nextNode n p).1 (nextNode n p).2.1 = false →
    completes (.ringHop n 0) s (fun d => d.node (nodeOf n) = rest
      ∧ d.get (F.DR_HOP_EXP_CNT_COUNT (ringUnit n.ring.val))
          = satInc 16 (s.dev.get (F.DR_HOP_EXP_CNT_COUNT (ringUnit n.ring.val)))
      ∧ d.get (F.DR_ERR_LAST_KIND (ringUnit n.ring.val)) = 2 ∧ d.latched Ev.HEADER_CHECK_FAIL = true))
  ∧ (∀ (s : State) (n : RingNode) (flip : Unit128) (p : Packet) (rest : List Packet) (die : Nat) (toDie : Bool),
      s.dev.node (nodeOf n) = p :: rest → p.crossing n.ring.val n.pos.val = some (die, toDie) →
      s.dev.cutOff die = false → s.dev.bridgeOpen die = false →
    completes (.ringHop n flip) s (fun d => d = s.dev))
  ∧ (∀ (s : State) (t : StopId) (ccw : Bool) (p : Packet), stopExists t.die.val t.stop.val = true →
      s.dev.nextTaken t.key = some (ccw, p) → s.dev.noneStalled t.key = true →
      (∀ q ∈ (s.dev.target t.key).taken ++ [p], (s.dev.target t.key).finished q = false) →
    completes (.targetTake t) s (fun d => d = s.dev.setTarget t.key { s.dev.target t.key with
      inq := dropFirst (ccw, p) (s.dev.target t.key).inq, lastCcw := ccw,
      taken := (s.dev.target t.key).taken ++ [p] }))
  ∧ (∀ (s : State) (t : StopId), s.dev.nextTaken t.key = none → completes (.targetTake t) s (fun d => d = s.dev))

/-- A stop serves a request that it has taken, may perform now and answers at once (see `canServe`). The logic of a running,
released zone answers RD, WR, WRN, AADD, ASWP and MSG at its user target port with the reply given. With MCK running, a register
read of a P-die stop that covers whole registers of its window answers the words read in ascending order; a write to registers of
stop 0 or 7 of any source but MLINK, with room in the refusal queue, is answered 5 and writes nothing. A malformed RD is counted
and answered 6. A CFG of stop 96 to a frame slot stores its frame and is answered 0; an EVT behind no other, with a configured
plane and room, joins the zone's event port. In the pool's bank windows, outside raw mode and with no flip armed, with all bytes
enabled and no poison: a 16-byte WR or WRN with no word of it performed yet stores two codewords; a stream WR stores one, and
later the other, where an access comes between; an AADD on a good codeword stores the sum. The oldest taken write of a zone, an
8-byte one of stop 35 to ZN_EP_INJ0 without poison, lands its token at endpoint 0, where no channel feeds it, no queue holds it,
it has room, no freeze and awaits no stale token, in a released zone. Nothing else changes where a frame is given; in the pool
clauses the zones, the registers and the other memories stay. -/
def Obligations.TargetsServe : Prop :=
  (∀ (s : State) (t : StopId) (k : Nat) (reply : PortReply) (p : Packet) (c : Instr), s.dev.canServe t k p = true →
      isZoneKey t.key = true → p.malformed = false → 2 ^ 32 ≤ p.off → s.dev.logicRuns (keyZone t.key) = true →
      (reply.status = .ok → reply.data.length = p.answerLen) →
      ((c = .ringRd t k reply ∧ p.cmd = Cmd.RD) ∨ (c = .ringWr t k reply ∧ p.cmd = Cmd.WR)
        ∨ (c = .ringWrn t k reply ∧ p.cmd = Cmd.WRN) ∨ (c = .ringAadd t k reply ∧ p.cmd = Cmd.AADD)
        ∨ (c = .ringAswp t k reply ∧ p.cmd = Cmd.ASWP) ∨ (c = .ringMsg t k reply ∧ p.cmd = Cmd.MSG)) →
    completes c s (fun d => d = (s.dev.served t.key k).respond p reply.status.code
      (if reply.status = .ok then reply.data else [])))
  ∧ (∀ (s : State) (t : StopId) (k : Nat) (reply : PortReply) (p : Packet) (u : Nat), s.dev.canServe t k p = true →
      t.key < 128 → p.cmd = Cmd.RD → p.malformed = false → s.dev.board.mck = true → windowUnit t.key p.off = some u →
      p.wholeWords = true → (poolBank p.addr = none ∨ t.key < 16 ∨ 23 < t.key) →
      (List.range (4 * p.len)).all (fun w => !p.coversWord w || (windowReg t.key (p.off + 4 * w)).isSome) = true →
    completes (.ringRd t k reply) s (fun d =>
      d = ((s.dev.served t.key k).readWords t.key p (List.range (4 * p.len))).1.respond p 0
        (wordUnits ((s.dev.served t.key k).readWords t.key p (List.range (4 * p.len))).2)))
  ∧ (∀ (s : State) (t : StopId) (k : Nat) (reply : PortReply) (p : Packet) (u : Nat), s.dev.canServe t k p = true →
      (t.key = 0 ∨ t.key = 7) → p.cmd = Cmd.WR → p.malformed = false → p.src ≠ 1 → s.dev.board.mck = true →
      s.dev.refusalsFull 0 = false → windowUnit t.key p.off = some u → p.wholeWords = true →
      (List.range (4 * p.len)).all (fun w => !p.coversWord w || (windowReg t.key (p.off + 4 * w)).isSome) = true →
    completes (.ringWr t k reply) s (fun d => d = (s.dev.served t.key k).respond p 5 []))
  ∧ (∀ (s : State) (t : StopId) (k : Nat) (reply : PortReply) (p : Packet), s.dev.canServe t k p = true → p.cmd = Cmd.RD →
      p.malformed = true →
    completes (.ringRd t k reply) s (fun d =>
      d = ((s.dev.served t.key k).malformedCount t.key p).respond p 6 []
      ∧ s.dev.Only d [.ring, .cul] (fieldsOf [F.DR_MALFORMED_CNT_COUNT (ringUnit (stopNode t.key).1),
          (F.DR_ERR_LAST_VALID (ringUnit (stopNode t.key).1)).reg, F.DR_MALFORMED_CNT_COUNT (ringUnit (stopNode p.src).1),
          (F.DR_ERR_LAST_VALID (ringUnit (stopNode p.src).1)).reg, F.CUL_NEXT_INDEX.reg,
          F.DR_CUL_LOST_COUNT (U.DR (unitDie (stopUnit t.key))), F.DR_CUL_LOST_COUNT (U.DR (unitDie (stopUnit p.src)))])))
  ∧ (∀ (s : State) (t : StopId) (k : Nat) (reply : PortReply) (p : Packet), s.dev.canServe t k p = true →
      isZoneKey t.key = true → p.cmd = Cmd.CFG → p.malformed = false → p.src = stopKey (keyZone t.key / 64 + 1) 96 →
      0x2000000 ≤ p.off → p.off < 0x3000000 → p.off % 256 = 0 →
      p.off % 2 ^ 24 / 256 / 16 % 2048 < frameCount (p.off % 2 ^ 24 / 256 % 16) →
    completesMem (.ringCfg t k reply) s (fun d m => d = (s.dev.served t.key k).respond p 0 []
      ∧ m = s.mem.setFrame (keyZone t.key * 65536 + p.off % 2 ^ 24 / 256) (frameStore (cfgWords p.data))
      ∧ m.pool = s.mem.pool ∧ m.bm = s.mem.bm))
  ∧ (∀ (s : State) (t : StopId) (k : Nat) (p : Packet) (u : DataUnit), s.dev.canServe t k p = true →
      isZoneKey t.key = true → p.cmd = Cmd.EVT → p.malformed = false → p.data = [u] →
      ((s.dev.target t.key).taken.take k).any (fun e => e.cmd == Cmd.EVT) = false →
      (s.dev.zone (keyZone t.key)).events.length < 8 → s.dev.zoneActive (keyZone t.key) = true →
    completes (.ringEvt t k false) s (fun d =>
      (d.zone (keyZone t.key)).events = (s.dev.zone (keyZone t.key)).events ++ [raiseOf u]
      ∧ (d.target t.key).taken = (s.dev.target t.key).taken.eraseIdx k
      ∧ s.dev.Only d [.zones, .ring, .free] (fieldsOf [])))
  ∧ (∀ (s : State) (t : StopId) (k : Nat) (reply : PortReply) (p : Packet) (u : DataUnit) (b : Nat) (c : Instr),
      s.dev.canServe t k p = true → 16 ≤ t.key → t.key ≤ 23 → p.src ≠ p.dst → p.malformed = false → p.data = [u] → p.be = 0xFFFF →
      u.poison = false → poolBank p.addr = some b → s.dev.poolRaw (b * 2 ^ 18 + p.addr % 2 ^ 21 / 8) false = false →
      s.dev.flipArmed (U.PL (b / 4)) (b % 4) = false → reply.words = 0 →
      (∀ x ∈ (s.dev.target t.key).parts, x.req ≠ p) →
      ((c = .ringWr t k reply ∧ p.cmd = Cmd.WR) ∨ (c = .ringWrn t k reply ∧ p.cmd = Cmd.WRN)) →
    completesMem c s (fun d m =>
      m = (s.mem.poolWr (b * 2 ^ 18 + p.addr % 2 ^ 21 / 8) (eccEncode (u.val.toNat % 2 ^ 64))).poolWr
        (b * 2 ^ 18 + p.addr % 2 ^ 21 / 8 + 1) (eccEncode (u.val.toNat / 2 ^ 64))
      ∧ m.bm = s.mem.bm ∧ m.frames = s.mem.frames ∧ d.zones = s.dev.zones ∧ d.regs = s.dev.regs))
  ∧ (∀ (s : State) (t : StopId) (k : Nat) (reply : PortReply) (p : Packet) (u : DataUnit) (b : Nat),
      s.dev.canServe t k p = true → 16 ≤ t.key → t.key ≤ 23 → p.src ≠ p.dst → p.malformed = false → p.cmd = Cmd.WR →
      p.data = [u] → p.be = 0xFFFF → u.poison = false → poolBank p.addr = some b → s.dev.ringCompute p = false →
      s.dev.poolRaw (b * 2 ^ 18 + p.addr % 2 ^ 21 / 8) false = false → s.dev.flipArmed (U.PL (b / 4)) (b % 4) = false →
    ((reply.words = 1 → (∀ x ∈ (s.dev.target t.key).parts, x.req ≠ p) →
      completesMem (.ringWr t k reply) s (fun d m =>
        m = s.mem.poolWr (b * 2 ^ 18 + p.addr % 2 ^ 21 / 8) (eccEncode (u.val.toNat % 2 ^ 64))
        ∧ (d.target t.key).taken = (s.dev.target t.key).taken
        ∧ (d.target t.key).parts = { req := p, done := 1, data := [], status := 0 } :: (s.dev.target t.key).parts
        ∧ d.ring.nodes = s.dev.ring.nodes ∧ d.zones = s.dev.zones ∧ d.regs = s.dev.regs))
    ∧ (reply.words = 0 → (s.dev.target t.key).parts = [{ req := p, done := 1, data := [], status := 0 }] →
      completesMem (.ringWr t k reply) s (fun d m =>
        m = s.mem.poolWr (b * 2 ^ 18 + p.addr % 2 ^ 21 / 8 + 1) (eccEncode (u.val.toNat / 2 ^ 64))
        ∧ (d.target t.key).taken = (s.dev.target t.key).taken.eraseIdx k ∧ (d.target t.key).parts = []
        ∧ d.zones = s.dev.zones ∧ d.regs = s.dev.regs))))
  ∧ (∀ (s : State) (t : StopId) (k : Nat) (reply : PortReply) (p : Packet) (u : DataUnit) (b : Nat),
      s.dev.canServe t k p = true → 16 ≤ t.key → t.key ≤ 23 → p.src ≠ p.dst → p.malformed = false → p.cmd = Cmd.AADD → p.data = [u] →
      p.be = 0x00FF → u.poison = false → poolBank p.addr = some b →
      s.dev.flipArmed (U.PL (b / 4)) (b % 4) = false →
      (eccDecode (s.mem.poolRd (b * 2 ^ 18 + p.addr % 2 ^ 21 / 8))).2 = .good →
    completesMem (.ringAadd t k reply) s (fun d m =>
      m = s.mem.poolWr (b * 2 ^ 18 + p.addr % 2 ^ 21 / 8) (eccEncode
        ((cwData (s.mem.poolRd (b * 2 ^ 18 + p.addr % 2 ^ 21 / 8)) + u.val.toNat % 2 ^ 64) % 2 ^ 64))
      ∧ m.bm = s.mem.bm ∧ m.frames = s.mem.frames ∧ d.zones = s.dev.zones ∧ d.regs = s.dev.regs))
  ∧ (∀ (s : State) (z : ZoneId) (p : Packet) (rest : List Packet), (s.dev.target (zoneStop z.no)).taken = p :: rest →
      p.injects = true → p.cmd = Cmd.WR → p.malformed = false → p.src = 35 → p.len = 1 → p.be = 0x00FF →
      p.off = 0xF00 → (p.word 0).2 = false → (p.word 1).2 = false → s.dev.refusalsFull z.die.no = false →
      (∀ e ∈ p :: rest, (s.dev.target (zoneStop z.no)).finished e = false) → (s.dev.zone z.no).stage ≠ .none →
      s.dev.inUsed z.no 0 = false → s.dev.endpointQueue z.no 0 .channelIn = none →
      (s.dev.inEp z.no 0).buf.length < 4 → (s.dev.zone z.no).frozen = false → (s.dev.inEp z.no 0).stale = [] →
    completes (.znEpInjWrite z) s (fun d =>
      (d.inEp z.no 0).buf = (s.dev.inEp z.no 0).buf ++ [BitVec.ofNat 36 ((p.word 0).1 + (p.word 1).1 % 16 * 2 ^ 32)]
      ∧ (d.target (zoneStop z.no)).taken = rest ∧ s.dev.Only d [.zones, .ring, .free] (fieldsOf [])))

/-- Where no FENCE is pending: a well-formed RDR or ATR whose tag is outstanding for a non-posted request, without poison, is kept
with its place of arrival; a WRR of status 0 for a posted one frees it; one of another status, at an initiator but the stream
mover and the cam stop, counts in WRR_ERR_CNT and is kept as a failed write. A well-formed response without an outstanding tag
counts in LATE_CNT, is recorded, and frees a quarantined tag. The response in turn of a request not abandoned, with no failed
write to report, reaches an engine's port behind the others, and no other initiator changes; a poisoned read of MLINK, with
management's events heard and no power entry, power state or wake, raises POISON_CONSUMED. That of an abandoned request is
discarded and counted. Under the same conditions a response that may not be delivered yet is reported once by ORDER_HOLD, and a
request that times out counts in TMO_CNT, raises RING_TIMEOUT, is recorded and has its tag quarantined: a non-posted one (no FENCE
pending) has an answer of status 2, a posted one is a failed write, counted for the stream mover in SMV_WRR_ERR_CNT. A quarantine
ends. A FENCE of an engine whose earlier requests are answered, with nothing behind it, completes with its worst status; before
that nothing happens. Beside what is named nothing changes. -/
def Obligations.ResponsesAndTimeouts : Prop :=
  (∀ (s : State) (i : Initiator) (c : Instr) (p : Packet) (rest : List Packet) (o : Outst),
      ((c = .ringRdr i ∧ p.cmd = Cmd.RDR) ∨ (c = .ringAtr i ∧ p.cmd = Cmd.ATR)) → (s.dev.init i.key).rx = p :: rest →
      p.respMalformed = false → (s.dev.init i.key).matching p.tag = some o → cmdPosted o.cmd = false →
      p.data.any (·.poison) = false → (s.dev.init i.key).fence = none →
    completes c s (fun d => d = s.dev.setInit i.key { s.dev.init i.key with
      rx := rest, arrived := (s.dev.init i.key).arrived + 1,
      out := (s.dev.init i.key).out.map (fun q => if q.seq = o.seq then
        { o with resp := some ((s.dev.init i.key).arrived, p.status, p.data) } else q) }))
  ∧ (∀ (s : State) (i : Initiator) (c : Instr) (p : Packet) (rest : List Packet),
      ((c = .ringRdr i ∧ p.cmd = Cmd.RDR) ∨ (c = .ringAtr i ∧ p.cmd = Cmd.ATR) ∨ (c = .ringWrr i ∧ p.cmd = Cmd.WRR)) →
      (s.dev.init i.key).rx = p :: rest → p.respMalformed = false → (s.dev.init i.key).matching p.tag = none →
    completes c s (fun d =>
      d.get (initField i.key F.INIT_LATE_CNT_COUNT) = satInc 16 (s.dev.get (initField i.key F.INIT_LATE_CNT_COUNT))
      ∧ (d.init i.key).rx = rest ∧ (d.init i.key).out = (s.dev.init i.key).out
      ∧ (d.init i.key).quar = (s.dev.init i.key).quar.filter (· != p.tag)
      ∧ s.dev.Only d [.ring, .cul] (fieldsOf [initField i.key F.INIT_LATE_CNT_COUNT, F.CUL_NEXT_INDEX.reg,
          F.DR_CUL_LOST_COUNT (U.DR (unitDie (initUnit i.key)))])))
  ∧ (∀ (s : State) (i : Initiator) (p : Packet) (rest : List Packet) (o : Outst), p.cmd = Cmd.WRR →
      (s.dev.init i.key).rx = p :: rest → p.respMalformed = false → (s.dev.init i.key).matching p.tag = some o →
      cmdPosted o.cmd = true → p.status = 0 → (s.dev.init i.key).fence = none →
    completes (.ringWrr i) s (fun d => d = s.dev.setInit i.key { s.dev.init i.key with
      rx := rest, out := (s.dev.init i.key).out.filter (fun q => q.seq != o.seq) }))
  ∧ (∀ (s : State) (i : Initiator) (p : Packet) (rest : List Packet) (o : Outst), p.cmd = Cmd.WRR →
      (s.dev.init i.key).rx = p :: rest → p.respMalformed = false → (s.dev.init i.key).matching p.tag = some o →
      cmdPosted o.cmd = true → p.status ≠ 0 → (s.dev.init i.key).fence = none → i.key ≠ 24 → i.key ≠ 35 →
    completes (.ringWrr i) s (fun d =>
      d.get (initField i.key F.INIT_WRR_ERR_CNT_COUNT) = satInc 16 (s.dev.get (initField i.key F.INIT_WRR_ERR_CNT_COUNT))
      ∧ (d.init i.key).out = (s.dev.init i.key).out.filter (fun q => q.seq != o.seq)
      ∧ (d.init i.key).fails = (s.dev.init i.key).fails ++ [{
          seq := o.seq, target := addrTarget o.addr, cls := o.cls, status := p.status, waited := false, told := none }]
      ∧ s.dev.Only d [.ring] (fieldsOf [initField i.key F.INIT_WRR_ERR_CNT_COUNT])))
  ∧ (∀ (s : State) (i : Initiator) (o : Outst) (a st : Nat) (dt : List DataUnit),
      (s.dev.init i.key).toDeliver = some o → o.resp = some (a, st, dt) → o.abandoned = false →
      (s.dev.init i.key).failFor o = none → isZoneKey i.key = false → i.key ≤ 640 →
      (i.key = 1 → o.cmd = Cmd.RD → st ≠ 4) →
    completes (.responseDeliver i) s (fun d =>
      (d.init i.key).inbox = (s.dev.init i.key).inbox ++ [{
          cmd := respCmd o.cmd, cls := o.cls, status := st, addr := o.addr, data := dt, who := o.who }]
      ∧ (d.init i.key).out = (s.dev.init i.key).out.filter (fun q => q.seq != o.seq)
      ∧ (∀ k, k ≠ i.key → d.init k = s.dev.init k) ∧ s.dev.Only d [.ring] (fieldsOf [])))
  ∧ (∀ (s : State) (o : Outst) (a : Nat) (dt : List DataUnit), s.dev.running = true → s.dev.silent U.HL = false →
      (s.dev.init 1).toDeliver = some o → o.resp = some (a, 4, dt) → o.abandoned = false →
      (s.dev.init 1).failFor o = none → o.cmd = Cmd.RD →
    completes (.responseDeliver .mlink) s (fun d => d.latched Ev.POISON_CONSUMED = true
      ∧ (d.init 1).inbox = (s.dev.init 1).inbox ++ [{
          cmd := Cmd.RDR, cls := o.cls, status := 4, addr := o.addr, data := dt, who := o.who }]
      ∧ (d.init 1).out = (s.dev.init 1).out.filter (fun q => q.seq != o.seq)
      ∧ s.dev.OnlyNoted d [.ring, .cul] (fieldsOf [F.CUL_NEXT_INDEX.reg])))
  ∧ (∀ (s : State) (i : Initiator) (o : Outst), (s.dev.init i.key).toDeliver = some o → o.resp.isSome = true →
      o.abandoned = true →
    completes (.responseDeliver i) s (fun d =>
      d.get (initField i.key F.INIT_ABANDON_CNT_COUNT) = satInc 16 (s.dev.get (initField i.key F.INIT_ABANDON_CNT_COUNT))
      ∧ (d.init i.key).inbox = (s.dev.init i.key).inbox
      ∧ s.dev.Only d [.ring] (fieldsOf [initField i.key F.INIT_ABANDON_CNT_COUNT])))
  ∧ (∀ (s : State) (i : Initiator) (k : Fin 1024) (o : Outst), s.dev.running = true →
      s.dev.silent (initUnit i.key) = false → (s.dev.init i.key).out[k.val]? = some o → o.resp.isSome = true →
      (s.dev.init i.key).deliverable o = false → o.held = false →
    completes (.orderHoldLimit i k) s (fun d => d.latched Ev.ORDER_HOLD = true
      ∧ (d.init i.key).out = (s.dev.init i.key).out.map (fun q => if q.seq = o.seq then { o with held := true } else q)
      ∧ s.dev.OnlyNoted d [.ring, .cul] (fieldsOf [F.CUL_NEXT_INDEX.reg,
          F.DR_CUL_LOST_COUNT (U.DR (unitDie (initUnit i.key)))])))
  ∧ (∀ (s : State) (i : Initiator) (t : Fin 1024) (o : Outst), s.dev.running = true →
      s.dev.silent (initUnit i.key) = false → (s.dev.init i.key).matching t.val = some o → cmdPosted o.cmd = false →
      (s.dev.init i.key).fence = none →
    completes (.timeoutExpire i t) s (fun d => d.latched Ev.RING_TIMEOUT = true
      ∧ d.get (F.INIT_TMO_CNT_COUNT (initUnit i.key)) = satInc 16 (s.dev.get (F.INIT_TMO_CNT_COUNT (initUnit i.key)))
      ∧ t.val ∈ (d.init i.key).quar
      ∧ (d.init i.key).out = (s.dev.init i.key).out.map (fun q => if q.seq = o.seq then
          { o with expired := true, resp := some ((s.dev.init i.key).arrived, 2, []) } else q)
      ∧ s.dev.OnlyNoted d [.ring, .cul] (fieldsOf [F.INIT_TMO_CNT_COUNT (initUnit i.key), F.CUL_NEXT_INDEX.reg,
          F.DR_CUL_LOST_COUNT (U.DR (unitDie (initUnit i.key)))])))
  ∧ (∀ (s : State) (i : Initiator) (t : Fin 1024) (o : Outst), s.dev.running = true →
      s.dev.silent (initUnit i.key) = false → (s.dev.init i.key).matching t.val = some o → cmdPosted o.cmd = true →
    completes (.timeoutExpire i t) s (fun d => d.latched Ev.RING_TIMEOUT = true
      ∧ d.get (F.INIT_TMO_CNT_COUNT (initUnit i.key)) = satInc 16 (s.dev.get (F.INIT_TMO_CNT_COUNT (initUnit i.key)))
      ∧ d.get F.SMV_WRR_ERR_CNT_COUNT = (if i.key = 24 then satInc 16 (s.dev.get F.SMV_WRR_ERR_CNT_COUNT)
          else s.dev.get F.SMV_WRR_ERR_CNT_COUNT)
      ∧ t.val ∈ (d.init i.key).quar
      ∧ (d.init i.key).out = (s.dev.init i.key).out.filter (fun q => q.seq != o.seq)
      ∧ (d.init i.key).fails.map (fun f => (f.seq, f.status)) = (s.dev.init i.key).fails.map (fun f => (f.seq, f.status))
          ++ [(o.seq, 2)]
      ∧ s.dev.OnlyNoted d [.ring, .cul] (fieldsOf [F.INIT_TMO_CNT_COUNT (initUnit i.key), F.SMV_WRR_ERR_CNT_COUNT,
          F.CUL_NEXT_INDEX.reg, F.DR_CUL_LOST_COUNT (U.DR (unitDie (initUnit i.key)))])))
  ∧ (∀ (s : State) (i : Initiator) (t : Fin 1024), completes (.tagQuarantineEnd i t) s (fun d =>
      d = s.dev.setInit i.key { s.dev.init i.key with quar := (s.dev.init i.key).quar.filter (· != t.val) }))
  ∧ (∀ (s : State) (i : Initiator) (seq st : Nat), (s.dev.init i.key).fence = some { seq := seq, status := st } →
      (s.dev.init i.key).answeredBefore seq = true → (s.dev.init i.key).held = [] → isZoneKey i.key = false →
      i.key ≤ 640 →
    completes (.fenceComplete i) s (fun d => (d.init i.key).fence = none
      ∧ (d.init i.key).inbox = (s.dev.init i.key).inbox ++ [{
          cmd := Cmd.FNR, cls := 0, status := st, addr := 0, data := [], who := 0 }]
      ∧ (∀ k, k ≠ i.key → d.init k = s.dev.init k) ∧ s.dev.Only d [.ring] (fieldsOf [])))
  ∧ (∀ (s : State) (i : Initiator) (seq st : Nat), (s.dev.init i.key).fence = some { seq := seq, status := st } →
      (s.dev.init i.key).answeredBefore seq = false →
    completes (.fenceComplete i) s (fun d => d = s.dev))

/-- With no power entry, power state or wake under way and the stop's unit heard, TARGET_DEAD isolates a stop whose input buffer
holds a request that the wrapper covers, with cause 4 and TARGET_ISOLATED: of the requests that its block had taken only those
stay that the wrapper does not cover or that are posted; zones, clocks and board stay. An isolated stop stays as it is. With
room in the refusal queue, RELEASE of a DEAD isolation, on a die not fenced and with the block enabled, clears it with the drops
of its episode; of another isolation, or with the block disabled, it is refused with BUSY, and on a fenced die with
DIE_FENCED; a stop that is not isolated stays as it is. -/
def Obligations.TargetIsolation : Prop :=
  (∀ (s : State) (t : StopId), s.dev.running = true → stopExists t.die.val t.stop.val = true →
      s.dev.silent (stopUnit t.key) = false → (s.dev.target t.key).iso = 0 →
      (∃ e ∈ (s.dev.target t.key).inq, covered 4 e.2 = true) →
    completes (.targetDead t) s (fun d => (d.target t.key).iso = 4
      ∧ (∀ p ∈ (d.target t.key).taken, staysTaken 4 p = true) ∧ d.latched Ev.TARGET_ISOLATED = true
      ∧ d.zones = s.dev.zones ∧ d.clk = s.dev.clk ∧ d.board = s.dev.board))
  ∧ (∀ (s : State) (t : StopId), (s.dev.target t.key).iso ≠ 0 →
    completes (.targetDead t) s (fun d => d = s.dev))
  ∧ (∀ (s : State) (k : Fin 5), s.dev.refusalsFull k.val = false → s.dev.fenced k.val = false →
      (s.dev.target (stopKey k.val (s.dev.get (F.DR_ISO_SEL_STOP (ringUnit k.val))))).iso = 4 →
      s.dev.blockEnabled (stopKey k.val (s.dev.get (F.DR_ISO_SEL_STOP (ringUnit k.val)))) = true →
    completes (.drIsoRelease k) s (fun d =>
      d.target (stopKey k.val (s.dev.get (F.DR_ISO_SEL_STOP (ringUnit k.val))))
        = { s.dev.target (stopKey k.val (s.dev.get (F.DR_ISO_SEL_STOP (ringUnit k.val)))) with
            iso := 0, drops := 0, drain := false }
      ∧ s.dev.Only d [.ring, .cul] (fieldsOf [F.CUL_NEXT_INDEX.reg, F.DR_CUL_LOST_COUNT (U.DR
          (unitDie (stopUnit (stopKey k.val (s.dev.get (F.DR_ISO_SEL_STOP (ringUnit k.val)))))))])))
  ∧ (∀ (s : State) (k : Fin 5), s.dev.refusalsFull k.val = false → s.dev.fenced k.val = true →
      (s.dev.target (stopKey k.val (s.dev.get (F.DR_ISO_SEL_STOP (ringUnit k.val))))).iso ≠ 0 →
    completes (.drIsoRelease k) s (fun d => d.get ⟨ringUnit k.val * 4096 + 0x124, 15, 8⟩ = Reason.dieFenced.code
      ∧ s.dev.OnlyNoted d [] (fieldsOf [⟨ringUnit k.val * 4096 + 0x124, 31, 0⟩])))
  ∧ (∀ (s : State) (k : Fin 5), s.dev.refusalsFull k.val = false → s.dev.fenced k.val = false →
      (s.dev.target (stopKey k.val (s.dev.get (F.DR_ISO_SEL_STOP (ringUnit k.val))))).iso ≠ 0 →
      ((s.dev.target (stopKey k.val (s.dev.get (F.DR_ISO_SEL_STOP (ringUnit k.val))))).iso ≠ 4
        ∨ s.dev.blockEnabled (stopKey k.val (s.dev.get (F.DR_ISO_SEL_STOP (ringUnit k.val)))) = false) →
    completes (.drIsoRelease k) s (fun d => d.get ⟨ringUnit k.val * 4096 + 0x124, 15, 8⟩ = Reason.busy.code
      ∧ s.dev.OnlyNoted d s.dev.hookParts (fieldsOf [⟨ringUnit k.val * 4096 + 0x124, 31, 0⟩])))
  ∧ (∀ (s : State) (k : Fin 5),
      (s.dev.target (stopKey k.val (s.dev.get (F.DR_ISO_SEL_STOP (ringUnit k.val))))).iso = 0 →
    completes (.drIsoRelease k) s (fun d => d = s.dev))

/-! ## Resets of one zone, the Cullet, and refusals (chapters 10 and 25) -/

/-- With room in the die's refusal queue, ZN_RESET_CTL.GO that nothing forbids starts the drain at step 1; one that is forbidden
is refused with its reason. On a calm zone (see `calmZone`) whose unit is heard, with no power entry, power state or wake under
way: a drained zone at step 1 whose clock runs is isolated (TARGET_ISOLATED), reset, released to GRR, taken out of isolation and
reported DONE, its planes and clock as before; and the drain limit with FORCE isolates one whose clock stands, FORCED, at step 3.
A zone at step 3, isolated by its reset, on a die not fenced, which anchors no link, owns no bank and has no request waiting to
launch, goes on to DONE once its clock runs. The drain limit without FORCE, on a die not fenced, abandons the reset with
NOT_DRAINED and the stop takes requests again. A zone that is not drained, and one that is not at step 3, stays as it is. Beside
the zones, the stops, the Cullet, the free values and the registers named nothing changes. -/
def Obligations.ResetOfOneZone : Prop :=
  (∀ (s : State) (z : ZoneId) (force : Bool), s.dev.refusalsFull z.die.no = false → s.dev.resetRefusal z.no = none →
    completes (.znResetGo z force) s (fun d => d.get (F.ZN_RESET_CTL_GO (zoneUnit z.no)) = 1
      ∧ d.get (F.ZN_RESET_CTL_FORCE (zoneUnit z.no)) = b2n force ∧ d.get (F.ZN_RESET_STATUS_STEP (zoneUnit z.no)) = 1
      ∧ d.target (zoneStop z.no) = { s.dev.target (zoneStop z.no) with drain := true }
      ∧ s.dev.Only d [.ring] (fieldsOf [F.ZN_RESET_CTL_GO (zoneUnit z.no), F.ZN_RESET_CTL_FORCE (zoneUnit z.no),
          F.ZN_RESET_STATUS_STEP (zoneUnit z.no)])))
  ∧ (∀ (s : State) (z : ZoneId) (force : Bool) (why : Reason), s.dev.refusalsFull z.die.no = false →
      s.dev.resetRefusal z.no = some why →
    completes (.znResetGo z force) s (fun d => d.get (F.ZN_REFUSE_REASON (zoneUnit z.no)) = why.code
      ∧ s.dev.OnlyNoted d [] (fieldsOf [F.ZN_RESET_CTL_FORCE (zoneUnit z.no),
          (F.ZN_REFUSE_REASON (zoneUnit z.no)).reg])))
  ∧ (∀ (s : State) (z : ZoneId), s.dev.running = true → s.dev.silent (zoneUnit z.no) = false →
      s.dev.get (F.ZN_RESET_STATUS_STEP (zoneUnit z.no)) = 1 → s.dev.zoneDrained z.no = true →
      s.dev.calmZone z.no = true → s.dev.clockRuns z.no = true →
    completes (.zoneResetDrained z) s (fun d => d.get (F.ZN_RESET_STATUS_STEP (zoneUnit z.no)) = 0
      ∧ d.get (F.ZN_RESET_STATUS_DONE (zoneUnit z.no)) = 1 ∧ d.get (F.ZN_RESET_CTL_GO (zoneUnit z.no)) = 0
      ∧ (d.zone z.no).stage = .grr ∧ (d.zone z.no).frozen = false ∧ (d.zone z.no).slices = []
      ∧ (d.zone z.no).img0 = (s.dev.zone z.no).img0 ∧ (d.zone z.no).img1 = (s.dev.zone z.no).img1
      ∧ (d.zone z.no).clk = (s.dev.zone z.no).clk ∧ (d.target (zoneStop z.no)).iso = 0
      ∧ (d.target (zoneStop z.no)).drain = false ∧ d.latched Ev.TARGET_ISOLATED = true
      ∧ s.dev.OnlyNoted d [.ring, .zones, .cul, .free] (fieldsOf [F.ZN_RESET_STATUS_STEP (zoneUnit z.no),
          F.ZN_RESET_STATUS_DONE (zoneUnit z.no), F.ZN_RESET_CTL_GO (zoneUnit z.no),
          (F.ZN_SWAP_DISCARD_IN (zoneUnit z.no)).reg, (F.ZN_SWAP_DISCARD_OUT (zoneUnit z.no)).reg,
          F.DR_CUL_LOST_COUNT (U.DR (zoneDie z.no))])))
  ∧ (∀ (s : State) (z : ZoneId), s.dev.zoneDrained z.no = false →
    completes (.zoneResetDrained z) s (fun d => d = s.dev))
  ∧ (∀ (s : State) (z : ZoneId), s.dev.get (F.ZN_RESET_STATUS_STEP (zoneUnit z.no)) = 1 →
      s.dev.fenced z.die.no = false → s.dev.get (F.ZN_RESET_CTL_FORCE (zoneUnit z.no)) = 0 →
    completes (.zoneResetDrainLimit z) s (fun d => d.get (F.ZN_RESET_STATUS_STEP (zoneUnit z.no)) = 0
      ∧ d.get (F.ZN_RESET_STATUS_ABANDONED (zoneUnit z.no)) = 1 ∧ d.get (F.ZN_RESET_CTL_GO (zoneUnit z.no)) = 0
      ∧ d.get (F.ZN_REFUSE_REASON (zoneUnit z.no)) = Reason.notDrained.code
      ∧ d.target (zoneStop z.no) = { s.dev.target (zoneStop z.no) with drain := false }
      ∧ s.dev.OnlyNoted d [.ring, .cul] (fieldsOf [F.ZN_RESET_STATUS_STEP (zoneUnit z.no),
          F.ZN_RESET_STATUS_ABANDONED (zoneUnit z.no), F.ZN_RESET_CTL_GO (zoneUnit z.no),
          (F.ZN_REFUSE_REASON (zoneUnit z.no)).reg, F.DR_CUL_LOST_COUNT (U.DR (zoneDie z.no))])))
  ∧ (∀ (s : State) (z : ZoneId), s.dev.running = true → s.dev.silent (zoneUnit z.no) = false →
      s.dev.get (F.ZN_RESET_STATUS_STEP (zoneUnit z.no)) = 1 → s.dev.get (F.ZN_RESET_CTL_FORCE (zoneUnit z.no)) = 1 →
      s.dev.calmZone z.no = true → s.dev.clockRuns z.no = false →
    completes (.zoneResetDrainLimit z) s (fun d => d.get (F.ZN_RESET_STATUS_STEP (zoneUnit z.no)) = 3
      ∧ d.get (F.ZN_RESET_STATUS_FORCED (zoneUnit z.no)) = 1 ∧ (d.target (zoneStop z.no)).iso = 1
      ∧ d.latched Ev.TARGET_ISOLATED = true
      ∧ s.dev.OnlyNoted d [.ring, .cul] (fieldsOf [F.ZN_RESET_STATUS_STEP (zoneUnit z.no),
          F.ZN_RESET_STATUS_FORCED (zoneUnit z.no), F.DR_CUL_LOST_COUNT (U.DR (zoneDie z.no))])))
  ∧ (∀ (s : State) (z : ZoneId), s.dev.get (F.ZN_RESET_STATUS_STEP (zoneUnit z.no)) = 3 →
      s.dev.clockRuns z.no = true → s.dev.fenced z.die.no = false → (s.dev.target (zoneStop z.no)).iso = 1 →
      s.dev.anchored z.no = false → s.dev.zoneBank z.no = none →
      (s.dev.init (zoneStop z.no)).port = [] → (s.dev.init (zoneStop z.no)).held = [] →
    completes (.zoneResetClockResume z) s (fun d => d.get (F.ZN_RESET_STATUS_STEP (zoneUnit z.no)) = 0
      ∧ d.get (F.ZN_RESET_STATUS_DONE (zoneUnit z.no)) = 1 ∧ d.get (F.ZN_RESET_CTL_GO (zoneUnit z.no)) = 0
      ∧ (d.zone z.no).stage = .grr ∧ (d.zone z.no).frozen = false ∧ (d.target (zoneStop z.no)).iso = 0
      ∧ (d.target (zoneStop z.no)).drain = false
      ∧ s.dev.Only d [.ring, .zones, .cul, .free] (fieldsOf [F.ZN_RESET_STATUS_STEP (zoneUnit z.no),
          F.ZN_RESET_STATUS_DONE (zoneUnit z.no), F.ZN_RESET_CTL_GO (zoneUnit z.no),
          (F.ZN_SWAP_DISCARD_IN (zoneUnit z.no)).reg, (F.ZN_SWAP_DISCARD_OUT (zoneUnit z.no)).reg,
          F.DR_CUL_LOST_COUNT (U.DR (zoneDie z.no))])))
  ∧ (∀ (s : State) (z : ZoneId), s.dev.get (F.ZN_RESET_STATUS_STEP (zoneUnit z.no)) ≠ 3 →
    completes (.zoneResetClockResume z) s (fun d => d = s.dev))

/-- A die's oldest Cullet record, once its refusal records are gone and its bridge is open, leaves the die's buffer. With no
newest record it is kept at CUL_NEXT, which goes on, wrapping with WRAPS; a repeat of the newest record only counts there. Where
refusal records are left or the bridge is not open, nothing changes. While MCK runs, with no check of a bank waiting, the die's
oldest refusal record, of a unit that is heard, becomes MG_REFUSAL_LAST, counts and raises REFUSAL. CUL_SEL shows the six words of
a record, zeros where none was written; CLEAR empties the log, not the dies' buffers. Nothing else changes, but for what the
event may do to a power entry, a power state or a wake. -/
def Obligations.CulletAndRefusalRecords : Prop :=
  (∀ (s : State) (k : Die) (r : Record) (rest : List Record), s.dev.culletBuffer k.no = r :: rest →
      s.dev.forwards k.no = true → s.dev.refusalQueue k.no = [] → s.dev.cul.newest = none →
    completes (.culletRecordForward k) s (fun d => d.culletBuffer k.no = rest
      ∧ Tab.get (fun _ => none) d.cul.log (s.dev.get F.CUL_NEXT_INDEX) = some r
      ∧ d.cul.newest = some (s.dev.get F.CUL_NEXT_INDEX)
      ∧ d.get F.CUL_NEXT_INDEX = (s.dev.get F.CUL_NEXT_INDEX + 1) % 256
      ∧ d.get F.CUL_NEXT_WRAPS = (if s.dev.get F.CUL_NEXT_INDEX = 255 then satInc 16 (s.dev.get F.CUL_NEXT_WRAPS)
          else s.dev.get F.CUL_NEXT_WRAPS)
      ∧ (∀ j, j ≠ k.no → d.culletBuffer j = s.dev.culletBuffer j)
      ∧ s.dev.Only d [.cul] (fieldsOf [F.CUL_NEXT_INDEX, F.CUL_NEXT_WRAPS])))
  ∧ (∀ (s : State) (k : Die) (r o : Record) (rest : List Record) (i : Nat), s.dev.culletBuffer k.no = r :: rest →
      s.dev.forwards k.no = true → s.dev.refusalQueue k.no = [] → s.dev.cul.newest = some i →
      Tab.get (fun _ => none) s.dev.cul.log i = some o → o.unit = r.unit → o.kind = r.kind → o.peer = r.peer →
    completes (.culletRecordForward k) s (fun d => d.culletBuffer k.no = rest
      ∧ Tab.get (fun _ => none) d.cul.log i = some { o with rep := satInc 16 o.rep }
      ∧ (∀ j, j ≠ i → Tab.get (fun _ => none) d.cul.log j = Tab.get (fun _ => none) s.dev.cul.log j)
      ∧ s.dev.Only d [.cul] (fieldsOf [])))
  ∧ (∀ (s : State) (k : Die), (s.dev.forwards k.no = false ∨ s.dev.refusalQueue k.no ≠ []) →
    completes (.culletRecordForward k) s (fun d => d = s.dev))
  ∧ (∀ (s : State) (k : Die) (r : RefusalRec) (rest : List RefusalRec), s.dev.refusalQueue k.no = r :: rest →
      s.dev.forwards k.no = true → s.dev.board.mck = true → s.dev.refusals.checks = [] → r.formed = true →
      s.dev.silent r.unit = false →
    completes (.refusalForward k) s (fun d => d.refusalQueue k.no = rest ∧ d.get F.MG_REFUSAL_LAST_UNIT = r.unit
      ∧ d.get F.MG_REFUSAL_LAST_REASON = r.reason ∧ d.get F.MG_REFUSAL_LAST_INDEX = r.index
      ∧ d.get F.MG_REFUSAL_CNT_COUNT = satInc 16 (s.dev.get F.MG_REFUSAL_CNT_COUNT) ∧ d.latched Ev.REFUSAL = true
      ∧ (∀ j, j ≠ k.no → d.refusalQueue j = s.dev.refusalQueue j)
      ∧ s.dev.OnlyNoted d s.dev.hookParts (fieldsOf [])))
  ∧ (∀ (s : State) (i : BitVec 8), s.dev.board.mck = true →
    completes (.culSelWrite i) s (fun d => d.get F.CUL_SEL_INDEX = i.toNat
      ∧ (∀ r, Tab.get (fun _ => none) s.dev.cul.log i.toNat = some r →
          ∀ j, j < 6 → d.get (F.CUL_E_E j) = r.words.getD j 0 % 2 ^ 32)
      ∧ (Tab.get (fun _ => none) s.dev.cul.log i.toNat = none → ∀ j, j < 6 → d.get (F.CUL_E_E j) = 0)
      ∧ s.dev.Only d [] (fieldsOf (F.CUL_SEL_INDEX :: (List.range 6).map F.CUL_E_E))))
  ∧ (∀ s : State, s.dev.board.mck = true →
    completes .culClear s (fun d => (∀ i, Tab.get (fun _ => none) d.cul.log i = (none : Option Record))
      ∧ d.cul.newest = none ∧ d.get F.CUL_NEXT_INDEX = 0 ∧ d.get F.CUL_NEXT_WRAPS = 0
      ∧ d.cul.buffers = s.dev.cul.buffers ∧ s.dev.Only d [.cul] (fieldsOf [F.CUL_NEXT_INDEX, F.CUL_NEXT_WRAPS])))

/-! ## The code of stored words (chapter 11) -/

/-- A valid codeword reads as its data. With any one of its 72 bits wrong it reads CORRECTED and gives back its data; with
any two wrong it reads UNCORRECTABLE. Some three-bit error reads CORRECTED with other data. -/
def Obligations.EccCorrectsOneDetectsTwo : Prop :=
  (∀ data, data < 2 ^ 64 → eccDecode (eccEncode data) = (data, .good)
    ∧ (∀ i, i < 72 → eccDecode (eccEncode data ^^^ BitVec.twoPow 72 i) = (data, .corrected))
    ∧ (∀ i j, i < 72 → j < 72 → i ≠ j →
        (eccDecode (eccEncode data ^^^ BitVec.twoPow 72 i ^^^ BitVec.twoPow 72 j)).2 = .uncorrectable))
  ∧ (∃ data i j k x, data < 2 ^ 64 ∧ i < j ∧ j < k ∧ k < 72 ∧ x ≠ data
    ∧ eccDecode (eccEncode data ^^^ BitVec.twoPow 72 i ^^^ BitVec.twoPow 72 j ^^^ BitVec.twoPow 72 k) = (x, .corrected))

/-- Check bit j of a codeword is the XOR of the data bits whose column of Table 11.1 has bit j set, and an error in it alone
gives the syndrome 2^j. A word stored as poisoned keeps its data, has the check byte of that data XOR 0x7F, reads
UNCORRECTABLE with syndrome 0x7F, and with any one bit wrong has a syndrome with an even number of ones and is still
UNCORRECTABLE. -/
def Obligations.CheckBitsAndPoison : Prop :=
  (∀ data j, data < 2 ^ 64 → j < 8 → cwData (eccEncode data) = data
    ∧ (cwCheck (eccEncode data)).testBit j
      = (List.range 64).foldl (fun a i => a ^^ (data.testBit i && (eccColumns.getD i 0).testBit j)) false
    ∧ eccSyndrome (eccEncode data ^^^ BitVec.twoPow 72 (64 + j)) = 2 ^ j)
  ∧ (∀ data, data < 2 ^ 64 → cwData (eccStore data true) = data
    ∧ cwCheck (eccStore data true) = Nat.xor (cwCheck (eccEncode data)) 0x7F
    ∧ eccSyndrome (eccStore data true) = 0x7F ∧ eccDecode (eccStore data true) = (data, .uncorrectable)
    ∧ (∀ i, i < 72 →
        ((List.range 8).filter (eccSyndrome (eccStore data true ^^^ BitVec.twoPow 72 i)).testBit).length % 2 = 0
        ∧ (eccDecode (eccStore data true ^^^ BitVec.twoPow 72 i)).2 = .uncorrectable))

/-! ## The pool, the compute links and the stream mover (chapter 12) -/

/-- With no power entry, power state or wake under way where an event or a refusal is named. A bank whose stream port has a
word waiting beyond the limit is told once per episode: SEEN, POOL_STARVE and a record of kind 0x12 (a new one where the Cullet
has no newest); else nothing happens. A written owner from 0 to 21 is stored while the owner in force is no enabled engine or
link, else refused (BUSY, or RESERVED_VALUE above 21), and takes effect once the compute queue is empty; before that nothing
happens. While MCK runs, a link that is off goes ON with a bank of its own in force and its die not fenced, else it is refused
(DIE_FENCED, COMPUTE_PORT_UNASSIGNED); one ON or OFF goes OFF. Where a link's port may launch, nothing waits there, no FENCE is
pending and a tag and a reorder entry are free: its read of a data unit of two good words in a bank of its own answers that unit
under the next tag, in classes 0 to 2; its write without poison, with no flip armed, stores both words with their codes and no
other word, and is answered. A read of what the link does not own is answered at once with status 5. Nothing else changes. -/
def Obligations.BanksAndLinks : Prop :=
  (∀ (s : State) (b : Fin 32), s.dev.running = true → s.dev.streamWaits b.val = true → b.val ∉ s.dev.pool.told →
      s.dev.cul.newest = none →
    completes (.poolStarveLimit b) s (fun d => b.val ∈ d.pool.told
      ∧ bit (d.get (F.PL_STARVE_STATUS_SEEN (U.PL (b.val / 4)))) (b.val % 4) = true
      ∧ d.latched Ev.POOL_STARVE = true
      ∧ Tab.get (fun _ => none) d.cul.log (s.dev.get F.CUL_NEXT_INDEX) = some {
          mt := s.dev.clk.mt, addr := b.val, tag := 0, cls := 0, status := 0, addrValid := false,
          unit := U.PL (b.val / 4), peer := s.dev.ownerPeer b.val, kind := 0x12, rep := 0 }
      ∧ s.dev.OnlyNoted d [.pool, .cul] (fieldsOf [F.PL_STARVE_STATUS_SEEN (U.PL (b.val / 4)), F.CUL_NEXT_INDEX,
          F.CUL_NEXT_WRAPS])))
  ∧ (∀ (s : State) (b : Fin 32), (s.dev.streamWaits b.val = false ∨ b.val ∈ s.dev.pool.told) →
    completes (.poolStarveLimit b) s (fun d => d = s.dev))
  ∧ (∀ (s : State) (b : Fin 32) (o : BitVec 5), o.toNat ≤ 21 → s.dev.ownerEnabled b.val = false →
    completes (.plBankOwnerWrite b o) s (fun d => d.get (F.PL_BANK_OWNER_OWNER (U.PL (b.val / 4)) (b.val % 4)) = o.toNat
      ∧ s.dev.Only d [] (fieldsOf [F.PL_BANK_OWNER_OWNER (U.PL (b.val / 4)) (b.val % 4)])))
  ∧ (∀ (s : State) (b : Fin 32) (o : BitVec 5), s.dev.running = true →
      s.dev.get (F.PL_BANK_OWNER_OWNER (U.PL (b.val / 4)) (b.val % 4)) ≠ o.toNat →
      (s.dev.ownerEnabled b.val = true ∨ 21 < o.toNat) →
    completes (.plBankOwnerWrite b o) s (fun d =>
      d.get (F.PL_REFUSE_REASON (U.PL (b.val / 4)))
        = (if s.dev.ownerEnabled b.val then Reason.busy else Reason.reservedValue).code
      ∧ s.dev.OnlyNoted d [] (fieldsOf [(F.PL_REFUSE_REASON (U.PL (b.val / 4))).reg])))
  ∧ (∀ (s : State) (b : Fin 32), s.dev.computeEmpty b.val = false →
    completes (.ownerChangeEffect b) s (fun d => d = s.dev))
  ∧ (∀ (s : State) (b : Fin 32), s.dev.computeEmpty b.val = true →
    completes (.ownerChangeEffect b) s (fun d =>
      d.bankOwner b.val = s.dev.get (F.PL_BANK_OWNER_OWNER (U.PL (b.val / 4)) (b.val % 4))
      ∧ (∀ n, n ≠ b.val → d.bankOwner n = s.dev.bankOwner n) ∧ s.dev.Only d [.pool] (fieldsOf [])))
  ∧ (∀ (s : State) (k : Die), s.dev.board.mck = true →
      s.dev.get (F.PL_LINK_CTL_EN (U.PL (k.no - 1))) = 0 → s.dev.fenced k.no = false →
      (∃ n, n < 32 ∧ s.dev.bankOwner n = 17 + k.no) →
    completes (.plLinkEnable k true) s (fun d => d.get (F.PL_LINK_CTL_EN (U.PL (k.no - 1))) = 1
      ∧ d.get (F.PL_LINK_STATUS_STATE (U.PL (k.no - 1))) = 1
      ∧ s.dev.Only d [] (fieldsOf [F.PL_LINK_CTL_EN (U.PL (k.no - 1)), F.PL_LINK_STATUS_STATE (U.PL (k.no - 1))])))
  ∧ (∀ (s : State) (k : Die), s.dev.running = true → s.dev.get (F.PL_LINK_CTL_EN (U.PL (k.no - 1))) = 0 →
      (s.dev.fenced k.no = true ∨ ∀ n, n < 32 → s.dev.bankOwner n ≠ 17 + k.no) →
    completes (.plLinkEnable k true) s (fun d =>
      d.get (F.PL_REFUSE_REASON (U.PL (k.no - 1)))
        = (if s.dev.fenced k.no then Reason.dieFenced else Reason.computePortUnassigned).code
      ∧ s.dev.OnlyNoted d [] (fieldsOf [(F.PL_REFUSE_REASON (U.PL (k.no - 1))).reg])))
  ∧ (∀ (s : State) (k : Die), s.dev.board.mck = true → s.dev.get (F.PL_LINK_STATUS_STATE (U.PL (k.no - 1))) ≤ 1 →
    completes (.plLinkEnable k false) s (fun d => d.get (F.PL_LINK_CTL_EN (U.PL (k.no - 1))) = 0
      ∧ d.get (F.PL_LINK_STATUS_STATE (U.PL (k.no - 1))) = 0
      ∧ s.dev.Only d [] (fieldsOf [F.PL_LINK_CTL_EN (U.PL (k.no - 1)), F.PL_LINK_STATUS_STATE (U.PL (k.no - 1))])))
  ∧ (∀ (s : State) (k : Die) (a : BitVec 48) (cls : Fin 4) (n t v0 v1 : Nat), s.dev.portRuns (640 + k.no) = true →
      s.dev.mayLaunch (640 + k.no) = true → (s.dev.init (640 + k.no)).fence = none →
      (s.dev.init (640 + k.no)).port = [] → (∀ o ∈ (s.dev.init (640 + k.no)).out,
        o.seq ≠ (s.dev.init (640 + k.no)).nextSeq) → (s.dev.init (640 + k.no)).tags < 64 →
      (s.dev.init (640 + k.no)).rob < 32 →
      (s.dev.init (640 + k.no)).pickTag 1024 (s.dev.init (640 + k.no)).nextTag = some t →
      cls.val < 3 → poolBank a.toNat = some n → s.dev.bankOwner n = 17 + k.no → a.toNat % 16 = 0 →
      eccDecode (s.mem.poolRd (n * 2 ^ 18 + a.toNat % 2 ^ 21 / 8)) = (v0, .good) →
      eccDecode (s.mem.poolRd (n * 2 ^ 18 + a.toNat % 2 ^ 21 / 8 + 1)) = (v1, .good) →
    completes (.linkRequest k { cmd := 1, cls := cls, addr := a, len := 1, be := 0xFFFF, data := [] }) s (fun d =>
      (d.init (640 + k.no)).out = (s.dev.init (640 + k.no)).out ++ [{
          seq := (s.dev.init (640 + k.no)).nextSeq, tag := some t, cmd := Cmd.RD, cls := cls.val, addr := a.toNat,
          resp := some ((s.dev.init (640 + k.no)).arrived, 0, [{
            val := BitVec.ofNat 128 (v0 + v1 * 2 ^ 64), poison := false, corrected := false }]),
          expired := false, abandoned := false, held := false, who := 0 }]
      ∧ (d.init (640 + k.no)).port = [] ∧ s.dev.Only d [.ring] (fieldsOf [])))
  ∧ (∀ (s : State) (k : Die) (a : BitVec 48) (cls : Fin 4) (n t : Nat) (u : BitVec 128),
      s.dev.portRuns (640 + k.no) = true →
      s.dev.mayLaunch (640 + k.no) = true → (s.dev.init (640 + k.no)).fence = none →
      (s.dev.init (640 + k.no)).port = [] → (∀ o ∈ (s.dev.init (640 + k.no)).out,
        o.seq ≠ (s.dev.init (640 + k.no)).nextSeq) → (s.dev.init (640 + k.no)).tags < 64 →
      (s.dev.init (640 + k.no)).rob < 32 →
      (s.dev.init (640 + k.no)).pickTag 1024 (s.dev.init (640 + k.no)).nextTag = some t →
      cls.val < 3 → poolBank a.toNat = some n → s.dev.bankOwner n = 17 + k.no → a.toNat % 16 = 0 →
      s.dev.flipArmed (U.PL (n / 4)) (n % 4) = false → s.mem.wf = true →
    completesMem (.linkRequest k { cmd := 2, cls := cls, addr := a, len := 1, be := 0xFFFF, data := [{
        val := u, poison := false, corrected := false }] }) s (fun d m =>
      m.poolRd (n * 2 ^ 18 + a.toNat % 2 ^ 21 / 8) = eccEncode (u.toNat % 2 ^ 64)
      ∧ m.poolRd (n * 2 ^ 18 + a.toNat % 2 ^ 21 / 8 + 1) = eccEncode (u.toNat / 2 ^ 64)
      ∧ (∀ x, x ≠ n * 2 ^ 18 + a.toNat % 2 ^ 21 / 8 → x ≠ n * 2 ^ 18 + a.toNat % 2 ^ 21 / 8 + 1 →
          m.poolRd x = s.mem.poolRd x)
      ∧ m.bm = s.mem.bm ∧ m.frames = s.mem.frames ∧ (d.init (640 + k.no)).out = (s.dev.init (640 + k.no)).out
      ∧ s.dev.Only d [.ring] (fieldsOf [])))
  ∧ (∀ (s : State) (k : Die) (q : Request), s.dev.portRuns (640 + k.no) = true →
      (s.dev.init (640 + k.no)).fence = none → (s.dev.init (640 + k.no)).port = [] → q.cmd.toNat = Cmd.RD →
      s.dev.linkOwns k.no q.addr.toNat = false →
    completes (.linkRequest k q) s (fun d => (d.init (640 + k.no)).out = (s.dev.init (640 + k.no)).out ++ [{
          seq := (s.dev.init (640 + k.no)).nextSeq, tag := none, cmd := Cmd.RD, cls := q.cls.val, addr := q.addr.toNat,
          resp := some ((s.dev.init (640 + k.no)).arrived, 5, []), expired := false, abandoned := false,
          held := false, who := 0 }]
      ∧ s.dev.Only d [.ring] (fieldsOf [])))

/-- With no power entry, power state or wake under way where an event or a refusal is named. An enable that R364 does not refuse
starts a channel at HEAD, FETCH, with its counts and errors clear; HEAD not on 32 bytes is refused DESCRIPTOR_INVALID, a trigger
that never latches RESERVED_VALUE. Disabling an active channel that awaits nothing, with nothing at the stop's port, ends IDLE
with ABORTED. A descriptor fetched with status 0, of a right format and without overlap, goes to MOVE, or, where it waits for a
trigger, takes a pending one or goes to WAIT_TRIG; a fetch that fails, or a wrong format, ends, with no chunk out and no failure
before, in ERROR with ERR, RSTATUS, EN 0, SMV_ERR_MAP and SMV_ERROR. Read data of status 0 is kept with its chunk. With its last
chunk written without failure a descriptor ends: with LAST the channel is IDLE, its bytes counted, else it fetches NEXT with the
count clear; IRQ sets SMV_DONE_MAP and raises SMV_DONE. A write of the last chunk that fails ends in ERROR. Nothing else
changes. -/
def Obligations.StreamMoverChannels : Prop :=
  (∀ (s : State) (c : Fin 16), s.dev.get (F.SMV_CH_CTL_EN c.val) = 0 → s.dev.get (F.SMV_CH_STATUS_STATE c.val) ≠ 4 →
      s.dev.get (F.SMV_CH_HEAD_ADDR c.val) % 32 = 0 →
      (s.dev.get (F.SMV_CH_CTL_TRIG_EN c.val) = 0 ∨ neverLatches (s.dev.get (F.SMV_CH_CTL_TRIG c.val)) = false) →
    completes (.smvChEnable c) s (fun d => d.get (F.SMV_CH_CTL_EN c.val) = 1
      ∧ d.get (F.SMV_CH_STATUS_STATE c.val) = 1 ∧ d.get (F.SMV_CH_CUR_ADDR c.val) = s.dev.get (F.SMV_CH_HEAD_ADDR c.val)
      ∧ d.get (F.SMV_CH_STATUS_TRIG_PENDING c.val) = 0 ∧ d.get (F.SMV_CH_BYTES_COUNT c.val) = 0
      ∧ d.get (F.SMV_CH_STATUS_ERR c.val) = 0 ∧ d.get (F.SMV_CH_STATUS_RSTATUS c.val) = 0 ∧ d.chan c.val = .idle
      ∧ (∀ j, j ≠ c.val → d.chan j = s.dev.chan j)
      ∧ s.dev.Only d [.smv] (fieldsOf [F.SMV_CH_CTL_EN c.val, F.SMV_CH_STATUS_STATE c.val,
          F.SMV_CH_STATUS_TRIG_PENDING c.val, F.SMV_CH_STATUS_ERR c.val, F.SMV_CH_STATUS_RSTATUS c.val,
          F.SMV_CH_CUR_ADDR c.val, F.SMV_CH_BYTES_COUNT c.val])))
  ∧ (∀ (s : State) (c : Fin 16), s.dev.running = true → s.dev.get (F.SMV_CH_CTL_EN c.val) = 0 →
      s.dev.get (F.SMV_CH_STATUS_STATE c.val) ≠ 4 →
      (s.dev.get (F.SMV_CH_HEAD_ADDR c.val) % 32 ≠ 0 ∨ (s.dev.get (F.SMV_CH_CTL_TRIG_EN c.val) = 1
        ∧ neverLatches (s.dev.get (F.SMV_CH_CTL_TRIG c.val)) = true)) →
    completes (.smvChEnable c) s (fun d => d.get (F.SMV_CH_CTL_EN c.val) = 0 ∧ d.get F.SMV_REFUSE_REASON
        = (if s.dev.get (F.SMV_CH_HEAD_ADDR c.val) % 32 ≠ 0 then Reason.descriptorInvalid else .reservedValue).code
      ∧ s.dev.OnlyNoted d [] (fieldsOf [F.SMV_REFUSE_REASON.reg])))
  ∧ (∀ (s : State) (c : Fin 16), s.dev.get (F.SMV_CH_STATUS_STATE c.val) ∈ [1, 2, 3] → s.dev.chan c.val = .idle →
      (s.dev.init 24).port = [] →
    completes (.smvChDisable c) s (fun d => d.get (F.SMV_CH_CTL_EN c.val) = 0
      ∧ d.get (F.SMV_CH_STATUS_STATE c.val) = 0 ∧ d.get (F.SMV_CH_STATUS_ABORTED c.val) = 1
      ∧ (∀ k, d.init k = s.dev.init k) ∧ s.dev.Only d [.smv, .ring] (fieldsOf [F.SMV_CH_CTL_EN c.val,
          F.SMV_CH_STATUS_STATE c.val, F.SMV_CH_STATUS_ABORTED c.val])))
  ∧ (∀ (s : State) (c : Fin 16) (v : Delivered) (e : Device),
      s.dev.takeAnswer 24 (smvMark c.val 0) = some (v, e) → s.dev.get (F.SMV_CH_STATUS_STATE c.val) = 1 →
      v.status = 0 →
      (let x : SmvChannel :=
        { s.dev.chan c.val with
          asked := false, desc := descWords v.data, row := 0, pos := 0, next := 0, chunks := [] }
       x.badFormat (s.dev.on (F.SMV_CH_CTL_TRIG_EN c.val)) = false ∧ x.overlaps = false) →
    completes (.smvDescFetched c) s (fun d =>
      (d.chan c.val).desc = descWords v.data ∧ (d.chan c.val).chunks = [] ∧ (d.chan c.val).asked = false
      ∧ (bit ((descWords v.data).getD 2 0) 51 = false → d.get (F.SMV_CH_STATUS_STATE c.val) = 3
          ∧ d.get (F.SMV_CH_STATUS_TRIG_PENDING c.val) = s.dev.get (F.SMV_CH_STATUS_TRIG_PENDING c.val))
      ∧ (bit ((descWords v.data).getD 2 0) 51 = true → s.dev.get (F.SMV_CH_STATUS_TRIG_PENDING c.val) = 0 →
          d.get (F.SMV_CH_STATUS_STATE c.val) = 2)
      ∧ (bit ((descWords v.data).getD 2 0) 51 = true → s.dev.get (F.SMV_CH_STATUS_TRIG_PENDING c.val) ≠ 0 →
          d.get (F.SMV_CH_STATUS_STATE c.val) = 3 ∧ d.get (F.SMV_CH_STATUS_TRIG_PENDING c.val)
            = s.dev.get (F.SMV_CH_STATUS_TRIG_PENDING c.val) - 1)
      ∧ s.dev.Only d [.smv, .ring] (fieldsOf [F.SMV_CH_STATUS_STATE c.val, F.SMV_CH_STATUS_TRIG_PENDING c.val])))
  ∧ (∀ (s : State) (c : Fin 16) (v : Delivered) (e : Device), s.dev.running = true →
      s.dev.takeAnswer 24 (smvMark c.val 0) = some (v, e) → s.dev.get (F.SMV_CH_STATUS_STATE c.val) = 1 →
      (s.dev.chan c.val).chunks = [] → (s.dev.chan c.val).fail = none → v.status < 8 →
      (let x : SmvChannel :=
        { s.dev.chan c.val with
          asked := false, desc := descWords v.data, row := 0, pos := 0, next := 0, chunks := [] }
       v.status ≠ 0 ∨ x.badFormat (s.dev.on (F.SMV_CH_CTL_TRIG_EN c.val)) = true) →
    completes (.smvDescFetched c) s (fun d => d.get (F.SMV_CH_STATUS_STATE c.val) = 5
      ∧ d.get (F.SMV_CH_STATUS_ERR c.val) = (if v.status ≠ 0 then 1 else 2)
      ∧ d.get (F.SMV_CH_STATUS_RSTATUS c.val) = v.status ∧ d.get (F.SMV_CH_CTL_EN c.val) = 0
      ∧ bit (d.get F.SMV_ERR_MAP_CH) c.val = true ∧ d.latched Ev.SMV_ERROR = true
      ∧ s.dev.OnlyNoted d [.smv, .ring] (fieldsOf [F.SMV_CH_CTL_EN c.val, F.SMV_ERR_MAP_CH])))
  ∧ (∀ (s : State) (c : Fin 16) (k : Chunk) (l r : List Chunk) (v : Delivered) (p q : List Delivered),
      (s.dev.chan c.val).chunks = l ++ k :: r → (s.dev.init 24).inbox = p ++ v :: q → v.who = k.readMark c.val →
      (∀ u ∈ p, u.who ≠ k.readMark c.val) → (∀ y ∈ l, ∀ u ∈ p ++ v :: q, u.who ≠ y.readMark c.val) →
      k.dead = false → v.status = 0 →
    completes (.smvChunkReadDone c) s (fun d => (d.init 24).inbox = p ++ q
      ∧ d.chan c.val = { s.dev.chan c.val with chunks := (l ++ k :: r).map (fun y =>
          if y.no = k.no then { y with data := some v.data } else y) }
      ∧ (∀ j, j ≠ c.val → d.chan j = s.dev.chan j) ∧ s.dev.Only d [.smv, .ring] (fieldsOf [])))
  ∧ (∀ (s : State) (c : Fin 16) (k : Chunk), s.dev.running = true → (s.dev.chan c.val).chunks = [k] →
      s.dev.smvWritten c.val k = true → s.dev.takeAnswer 24 (k.writeMark c.val) = none → k.dead = false →
      s.dev.get (F.SMV_CH_STATUS_STATE c.val) = 3 → (s.dev.chan c.val).rows ≤ (s.dev.chan c.val).row →
    completes (.smvChunkWriteDone c) s (fun d =>
      (bit ((s.dev.chan c.val).word 2) 50 = true → d.get (F.SMV_CH_STATUS_STATE c.val) = 0
          ∧ d.get (F.SMV_CH_CTL_EN c.val) = 0
          ∧ d.get (F.SMV_CH_BYTES_COUNT c.val) = (s.dev.get (F.SMV_CH_BYTES_COUNT c.val) + k.len) % 2 ^ 32)
      ∧ (bit ((s.dev.chan c.val).word 2) 50 = false → d.get (F.SMV_CH_STATUS_STATE c.val) = 1
          ∧ d.get (F.SMV_CH_CTL_EN c.val) = s.dev.get (F.SMV_CH_CTL_EN c.val)
          ∧ d.get (F.SMV_CH_CUR_ADDR c.val) = (s.dev.chan c.val).nextA ∧ d.get (F.SMV_CH_BYTES_COUNT c.val) = 0)
      ∧ (bit ((s.dev.chan c.val).word 2) 49 = true → bit (d.get F.SMV_DONE_MAP_CH) c.val = true
          ∧ d.latched Ev.SMV_DONE = true)
      ∧ d.chan c.val = .idle ∧ s.dev.OnlyNoted d [.smv] (fieldsOf [F.SMV_CH_CTL_EN c.val, F.SMV_DONE_MAP_CH,
          F.SMV_CH_BYTES_COUNT c.val, F.SMV_CH_CUR_ADDR c.val])))
  ∧ (∀ (s : State) (c : Fin 16) (k : Chunk) (v : Delivered) (e : Device), s.dev.running = true →
      (s.dev.chan c.val).chunks = [k] → s.dev.smvWritten c.val k = true →
      s.dev.takeAnswer 24 (k.writeMark c.val) = some (v, e) → k.dead = false → v.status ≠ 0 → v.status < 8 →
      (s.dev.chan c.val).asked = false → (s.dev.chan c.val).fail = none →
    completes (.smvChunkWriteDone c) s (fun d => d.get (F.SMV_CH_STATUS_STATE c.val) = 5
      ∧ d.get (F.SMV_CH_STATUS_ERR c.val) = 5 ∧ d.get (F.SMV_CH_STATUS_RSTATUS c.val) = v.status
      ∧ bit (d.get F.SMV_ERR_MAP_CH) c.val = true ∧ d.latched Ev.SMV_ERROR = true
      ∧ s.dev.OnlyNoted d [.smv, .ring] (fieldsOf [F.SMV_CH_CTL_EN c.val, F.SMV_ERR_MAP_CH,
          F.SMV_CH_BYTES_COUNT c.val])))

/-! ## Configuration loading (chapter 13) -/

/-- On a die not fenced, its refusal queue with room where a register is written. The first burst that fails for a running
job is marked; when one fails again, with no refetch, the die not dormant and no power entry, power state or wake under way, a
free value (the model's choice, assumption log 151) says whether it is the same burst: then it counts, raises CMP_FLASH_ERROR
and ends a light job (see `lightJob`) with FLASH; else nothing but the free value is used. REINIT of a port not in use sends the reset and the
read; where MAGIC and CRC hold and a switch is given it switches too and takes RD_OPCODE and RD_DUMMY, and reports MODE 1 where
the 8D-8D-8D reading agrees, else MODE 2 with CMP_FLASH_ERROR, counted where no strobe came; else MODE 2. A port in use refuses
it with BUSY. OPEN opens a session past step 9 with no job, no refetch and life cycle not 5; a job refuses it with BUSY; CLOSE ends
it. With no command running, a pass-through command in a session stores the fields that Table 13.11 lists and is sent with the
fields as they then stand; a field with another value is kept and refused RESERVED_VALUE, as the command is without a session.
At its end a read fills its LEN bytes. Nothing else changes. -/
def Obligations.FlashPort : Prop :=
  (∀ (s : State) (k : Die), s.dev.settled = true → s.dev.fenced k.no = false → s.dev.jobRuns k.no = true →
      (s.dev.cmpOf k.no).failed = false →
    completes (.cmpBurstFail k) s (fun d =>
      d = s.dev.setCmp k.no { s.dev.cmpOf k.no with failed := true }))
  ∧ (∀ (s : State) (k : Die), s.dev.running = true → s.dev.settled = true → s.dev.fenced k.no = false →
      s.dev.dormant = false → s.dev.lightJob k.no = true → (s.dev.lehrOf k.no).refetch = none →
      (s.dev.cmpOf k.no).failed = true →
    completes (.cmpBurstFail k) s (fun d => if s.dev.freeBool then
      d.get (F.CMP_ERR_CNT_COUNT (U.CMP k.no)) = satInc 16 (s.dev.get (F.CMP_ERR_CNT_COUNT (U.CMP k.no)))
      ∧ d.latched Ev.CMP_FLASH_ERROR = true ∧ d.latched Ev.GATHER_ERROR = true
      ∧ d.get (F.GTH_STATUS_ERR (U.GTH k.no)) = Ge.FLASH ∧ d.jobRuns k.no = false ∧ d.gjob k.no = GatherJob.none
      ∧ (d.cmpOf k.no).failed = false ∧ d.free = s.dev.free + 1
      ∧ s.dev.OnlyNoted d [.gath, .cmp, .free] (fieldsOf [F.CMP_ERR_CNT_COUNT (U.CMP k.no),
          F.GTH_STATUS_ERR (U.GTH k.no), F.GTH_STATUS_STATE (U.GTH k.no), F.GTH_STATUS_JOB (U.GTH k.no),
          F.GTH_CMD_GO (U.GTH k.no)])
      else d = { s.dev with free := s.dev.free + 1 }))
  ∧ (∀ (s : State) (k : Die) (dir : List Byte) (again : Option (List Byte)), s.dev.refusalsFull k.no = false →
      s.dev.fenced k.no = false → s.dev.cmpInUse k.no = false → dirSound (byteVals dir) = true →
      fieldOf (byteVals dir) 8 1 ≠ 0 → again.map byteVals = some ((byteVals dir).take 64) →
    completes (.cmpReinit k dir again) s (fun d => d.get (F.CMP_STATUS_MODE (U.CMP k.no)) = 1
      ∧ d.get (F.CMP_CMD_REINIT (U.CMP k.no)) = 0 ∧ (d.cmpOf k.no).rdOp = fieldOf (byteVals dir) 0x10 1
      ∧ (d.cmpOf k.no).rdDummy = fieldOf (byteVals dir) 0x11 1
      ∧ (d.cmpOf k.no).bus = initHead ++ initSwitch (byteVals dir) ++ [(d.cmpOf k.no).readXfer true 0 64]
      ∧ (∀ j, j ≠ k.no → d.cmpOf j = s.dev.cmpOf j)
      ∧ s.dev.Only d [.cmp] (fieldsOf [F.CMP_STATUS_MODE (U.CMP k.no), F.CMP_CMD_REINIT (U.CMP k.no)])))
  ∧ (∀ (s : State) (k : Die) (dir : List Byte) (again : Option (List Byte)), s.dev.refusalsFull k.no = false →
      s.dev.fenced k.no = false → s.dev.cmpInUse k.no = false → s.dev.running = true → s.dev.dormant = false →
      dirSound (byteVals dir) = true →
      fieldOf (byteVals dir) 8 1 ≠ 0 → again.map byteVals ≠ some ((byteVals dir).take 64) →
    completes (.cmpReinit k dir again) s (fun d => d.get (F.CMP_STATUS_MODE (U.CMP k.no)) = 2
      ∧ d.get (F.CMP_CMD_REINIT (U.CMP k.no)) = 0 ∧ d.latched Ev.CMP_FLASH_ERROR = true
      ∧ d.get (F.CMP_ERR_CNT_COUNT (U.CMP k.no)) = (if again = none then satInc 16 (s.dev.get (F.CMP_ERR_CNT_COUNT
          (U.CMP k.no))) else s.dev.get (F.CMP_ERR_CNT_COUNT (U.CMP k.no)))
      ∧ s.dev.OnlyNoted d [.cmp] (fieldsOf [F.CMP_STATUS_MODE (U.CMP k.no), F.CMP_CMD_REINIT (U.CMP k.no),
          F.CMP_ERR_CNT_COUNT (U.CMP k.no)])))
  ∧ (∀ (s : State) (k : Die) (dir : List Byte) (again : Option (List Byte)), s.dev.refusalsFull k.no = false →
      s.dev.fenced k.no = false → s.dev.cmpInUse k.no = false →
      (dirSound (byteVals dir) = false ∨ fieldOf (byteVals dir) 8 1 = 0) →
    completes (.cmpReinit k dir again) s (fun d => d.get (F.CMP_STATUS_MODE (U.CMP k.no)) = 2
      ∧ d.get (F.CMP_CMD_REINIT (U.CMP k.no)) = 0 ∧ (d.cmpOf k.no).bus = initHead
      ∧ s.dev.Only d [.cmp] (fieldsOf [F.CMP_STATUS_MODE (U.CMP k.no), F.CMP_CMD_REINIT (U.CMP k.no)])))
  ∧ (∀ (s : State) (k : Die) (dir : List Byte) (again : Option (List Byte)), s.dev.refusalsFull k.no = false →
      s.dev.fenced k.no = false → s.dev.cmpInUse k.no = true →
    completes (.cmpReinit k dir again) s (fun d => d.get (F.CMP_REFUSE_REASON (U.CMP k.no)) = Reason.busy.code
      ∧ s.dev.OnlyNoted d [] (fieldsOf [(F.CMP_REFUSE_REASON (U.CMP k.no)).reg])))
  ∧ (∀ (s : State) (k : Die), s.dev.refusalsFull k.no = false → s.dev.fenced k.no = false →
      s.dev.jobRuns k.no = false → (s.dev.lehrOf k.no).refetch = none → s.dev.past9 = true →
      s.dev.get F.LC_STATUS_STATE ≠ 5 →
    completes (.cmpPtOpen k true) s (fun d => d.get (F.CMP_PT_CTL_OPEN (U.CMP k.no)) = 1
      ∧ s.dev.Only d [] (fieldsOf [F.CMP_PT_CTL_OPEN (U.CMP k.no)])))
  ∧ (∀ (s : State) (k : Die), s.dev.refusalsFull k.no = false → s.dev.fenced k.no = false →
    completes (.cmpPtOpen k false) s (fun d => d.get (F.CMP_PT_CTL_OPEN (U.CMP k.no)) = 0
      ∧ s.dev.Only d [] (fieldsOf [F.CMP_PT_CTL_OPEN (U.CMP k.no)])))
  ∧ (∀ (s : State) (k : Die), s.dev.refusalsFull k.no = false → s.dev.fenced k.no = false →
      s.dev.jobRuns k.no = true →
    completes (.cmpPtOpen k true) s (fun d => d.get (F.CMP_REFUSE_REASON (U.CMP k.no)) = Reason.busy.code
      ∧ s.dev.OnlyNoted d [] (fieldsOf [(F.CMP_REFUSE_REASON (U.CMP k.no)).reg])))
  ∧ (∀ (s : State) (k : Die) (read : Bool) (dummy : BitVec 5) (al : BitVec 2) (len : BitVec 9) (op : BitVec 8),
      s.dev.refusalsFull k.no = false → s.dev.fenced k.no = false → s.dev.get (F.CMP_PT_CMD_GO (U.CMP k.no)) = 0 →
      s.dev.get (F.CMP_PT_CTL_OPEN (U.CMP k.no)) = 1 → dummy.toNat ≤ 30 → al ≠ 1 → len.toNat ≤ 256 →
    completes (.cmpPtCmd k read dummy al len op) s (fun d => d.get (F.CMP_PT_CMD_GO (U.CMP k.no)) = 1
      ∧ (d.cmpOf k.no).run = some (read, len.toNat) ∧ (d.cmpOf k.no).bus = [d.ptXfer k.no]
      ∧ d.get (F.CMP_PT_CMD_READ (U.CMP k.no)) = b2n read
      ∧ d.get (F.CMP_PT_CMD_DUMMY (U.CMP k.no)) = dummy.toNat ∧ d.get (F.CMP_PT_CMD_ADDR_LEN (U.CMP k.no)) = al.toNat
      ∧ d.get (F.CMP_PT_CMD_LEN (U.CMP k.no)) = len.toNat ∧ d.get (F.CMP_PT_CMD_OPCODE (U.CMP k.no)) = op.toNat
      ∧ s.dev.Only d [.cmp] (fieldsOf [(F.CMP_PT_CMD_GO (U.CMP k.no)).reg])))
  ∧ (∀ (s : State) (k : Die) (read : Bool) (dummy : BitVec 5) (al : BitVec 2) (len : BitVec 9) (op : BitVec 8),
      s.dev.refusalsFull k.no = false → s.dev.fenced k.no = false → s.dev.get (F.CMP_PT_CMD_GO (U.CMP k.no)) = 0 →
      s.dev.get (F.CMP_PT_CTL_OPEN (U.CMP k.no)) = 1 → (30 < dummy.toNat ∨ al = 1 ∨ 256 < len.toNat) →
    completes (.cmpPtCmd k read dummy al len op) s (fun d => d.get (F.CMP_PT_CMD_GO (U.CMP k.no)) = 1
      ∧ d.get (F.CMP_REFUSE_REASON (U.CMP k.no)) = Reason.reservedValue.code
      ∧ (30 < dummy.toNat → d.get (F.CMP_PT_CMD_DUMMY (U.CMP k.no)) = s.dev.get (F.CMP_PT_CMD_DUMMY (U.CMP k.no)))
      ∧ (al = 1 → d.get (F.CMP_PT_CMD_ADDR_LEN (U.CMP k.no)) = s.dev.get (F.CMP_PT_CMD_ADDR_LEN (U.CMP k.no)))
      ∧ (256 < len.toNat → d.get (F.CMP_PT_CMD_LEN (U.CMP k.no)) = s.dev.get (F.CMP_PT_CMD_LEN (U.CMP k.no)))
      ∧ (d.cmpOf k.no).run = some (read, d.get (F.CMP_PT_CMD_LEN (U.CMP k.no))) ∧ (d.cmpOf k.no).bus = [d.ptXfer k.no]
      ∧ s.dev.OnlyNoted d [.cmp] (fieldsOf [(F.CMP_REFUSE_REASON (U.CMP k.no)).reg,
          (F.CMP_PT_CMD_GO (U.CMP k.no)).reg])))
  ∧ (∀ (s : State) (k : Die) (read : Bool) (dummy : BitVec 5) (al : BitVec 2) (len : BitVec 9) (op : BitVec 8),
      s.dev.refusalsFull k.no = false → s.dev.fenced k.no = false → s.dev.get (F.CMP_PT_CMD_GO (U.CMP k.no)) = 0 →
      s.dev.get (F.CMP_PT_CTL_OPEN (U.CMP k.no)) = 0 →
    completes (.cmpPtCmd k read dummy al len op) s (fun d =>
      d.get (F.CMP_REFUSE_REASON (U.CMP k.no)) = Reason.reservedValue.code ∧ d.get (F.CMP_PT_CMD_GO (U.CMP k.no)) = 0
      ∧ s.dev.OnlyNoted d [] (fieldsOf [(F.CMP_REFUSE_REASON (U.CMP k.no)).reg, F.CMP_PT_CMD_READ (U.CMP k.no),
          F.CMP_PT_CMD_OPCODE (U.CMP k.no), F.CMP_PT_CMD_DUMMY (U.CMP k.no), F.CMP_PT_CMD_ADDR_LEN (U.CMP k.no),
          F.CMP_PT_CMD_LEN (U.CMP k.no)])))
  ∧ (∀ (s : State) (k : Die) (data : List Byte) (n : Nat), (s.dev.cmpOf k.no).run = some (true, n) → n ≤ 256 →
    completes (.cmpPtCmdDone k data) s (fun d => d.get (F.CMP_PT_CMD_GO (U.CMP k.no)) = 0
      ∧ (d.cmpOf k.no).run = none
      ∧ (∀ i v, i < n → (byteVals data)[i]? = some v → d.ptDataByte (U.CMP k.no) i = v)
      ∧ s.dev.Only d [.cmp] (fieldsOf (F.CMP_PT_CMD_GO (U.CMP k.no)
          :: (List.range 64).map (F.CMP_PT_DATA_DATA (U.CMP k.no))))))

/-- On a die not fenced, with room in its refusal queue where a command is given, and nothing that follows (see `settled`). With
no refetch under way, a STAGE_KEY or STAGE_ENTRY that Table 13.8 does not refuse starts a job at the directory with its counts at
0; a STAGE_KEY during a refetch waits, GO 1 (assumption log 139); one that is refused gives its reason and changes nothing else;
ABORT ends a light job (see `lightJob`), the die not dormant and no power entry, power state or wake under way, with ABORTED and
GATHER_ERROR. With no refetch, a valid directory names the job's entries, and for a first entry of one zone an accepted header
whose signature passes and whose key slot may be held is kept with that slot held. A segment, not the last, that opens as one
frame of no MEM_INIT type, of a plane already in STAGING and not written before, stores it in the plane's slot, each word with its
check byte and the frame with its CRC; the units of its packet that pass position 64 of the ring are counted. Ill-formed operands fault. Nothing else changes. -/
def Obligations.GatherJobs : Prop :=
  (∀ (s : State) (k : Die), s.dev.settled = true → s.dev.refusalsFull k.no = false → s.dev.fenced k.no = false →
      s.dev.gthRefusal k.no 1 (s.dev.get (F.GTH_CMD_ENTRY (U.GTH k.no))) none = none →
      (s.dev.lehrOf k.no).refetch = none →
    completes (.gthStageKey k) s (fun d => d.get (F.GTH_STATUS_STATE (U.GTH k.no)) = 1
      ∧ d.get (F.GTH_STATUS_JOB (U.GTH k.no)) = 2 ∧ d.get (F.GTH_CMD_GO (U.GTH k.no)) = 1
      ∧ d.get (F.GTH_STATUS_SOURCE (U.GTH k.no)) = 0 ∧ d.get (F.GTH_STATUS_ERR (U.GTH k.no)) = 0
      ∧ d.get (F.GTH_BYTES_COUNT (U.GTH k.no)) = 0 ∧ (d.gjob k.no).op = 1 ∧ (d.gjob k.no).todo = []
      ∧ (∀ j, j ≠ k.no → d.gjob j = s.dev.gjob j)
      ∧ s.dev.Only d [.gath] (fun f => f.key / 4096 == U.GTH k.no && f.key != (F.GTH_KEY_KEY (U.GTH k.no)).key)))
  ∧ (∀ (s : State) (k : Die), s.dev.settled = true → s.dev.refusalsFull k.no = false → s.dev.fenced k.no = false →
      s.dev.gthRefusal k.no 1 (s.dev.get (F.GTH_CMD_ENTRY (U.GTH k.no))) none = none →
      (s.dev.lehrOf k.no).refetch.isSome = true →
    completes (.gthStageKey k) s (fun d => d.get (F.GTH_CMD_GO (U.GTH k.no)) = 1 ∧ d.get (F.GTH_CMD_OP (U.GTH k.no)) = 1
      ∧ d.gjob k.no = { GatherJob.none with
          op := 1, entry := s.dev.get (F.GTH_CMD_ENTRY (U.GTH k.no)), waits := some 0 }
      ∧ d.jobRuns k.no = true
      ∧ s.dev.Only d [.gath] (fieldsOf [F.GTH_CMD_GO (U.GTH k.no), F.GTH_CMD_OP (U.GTH k.no)])))
  ∧ (∀ (s : State) (k : Die) (e : BitVec 11) (f : FlashDir), s.dev.settled = true →
      s.dev.refusalsFull k.no = false → s.dev.fenced k.no = false →
      s.dev.gthRefusal k.no 2 e.toNat ((dirRead f).map (·.1)) = none → (s.dev.lehrOf k.no).refetch = none →
    completes (.gthStageEntry k e f) s (fun d => d.get (F.GTH_STATUS_STATE (U.GTH k.no)) = 1
      ∧ d.get (F.GTH_STATUS_JOB (U.GTH k.no)) = 2 ∧ d.get (F.GTH_CMD_ENTRY (U.GTH k.no)) = e.toNat
      ∧ (d.gjob k.no).op = 2 ∧ (d.gjob k.no).entry = e.toNat ∧ (d.gjob k.no).todo = []
      ∧ s.dev.Only d [.gath] (fun f => f.key / 4096 == U.GTH k.no && f.key != (F.GTH_KEY_KEY (U.GTH k.no)).key)))
  ∧ (∀ (s : State) (k : Die) (why : Reason), s.dev.settled = true → s.dev.refusalsFull k.no = false →
      s.dev.fenced k.no = false →
      s.dev.gthRefusal k.no 1 (s.dev.get (F.GTH_CMD_ENTRY (U.GTH k.no))) none = some why →
    completes (.gthStageKey k) s (fun d => d.get (F.GTH_REFUSE_REASON (U.GTH k.no)) = why.code
      ∧ s.dev.OnlyNoted d [] (fieldsOf [(F.GTH_REFUSE_REASON (U.GTH k.no)).reg])))
  ∧ (∀ (s : State) (k : Die), s.dev.running = true → s.dev.settled = true → s.dev.refusalsFull k.no = false →
      s.dev.fenced k.no = false → s.dev.dormant = false → s.dev.lightJob k.no = true →
      s.dev.gthRefusal k.no 3 (s.dev.get (F.GTH_CMD_ENTRY (U.GTH k.no))) none = none →
    completes (.gthAbort k) s (fun d => d.get (F.GTH_STATUS_ERR (U.GTH k.no)) = Ge.ABORTED ∧ d.jobRuns k.no = false
      ∧ d.gjob k.no = GatherJob.none ∧ d.latched Ev.GATHER_ERROR = true
      ∧ s.dev.OnlyNoted d [.gath] (fieldsOf [(F.GTH_CMD_GO (U.GTH k.no)).reg, F.GTH_STATUS_ERR (U.GTH k.no),
          F.GTH_STATUS_STATE (U.GTH k.no), F.GTH_STATUS_JOB (U.GTH k.no)])))
  ∧ (∀ (s : State) (k : Die) (f : FlashDir) (h : List Byte) (pre : List (BitVec 64)) (imgs : List (Fin 64 × Image))
      (l : List DirEntry) (copy : Bool) (e : DirEntry) (es : List DirEntry), s.dev.settled = true →
      headerFormed f h imgs = true → s.dev.fenced k.no = false → (s.dev.lehrOf k.no).refetch = none →
      s.dev.get (F.GTH_STATUS_STATE (U.GTH k.no)) = 1 → dirRead f = some (l, copy) →
      jobEntries l (s.dev.gjob k.no).op (s.dev.gjob k.no).entry (s.dev.get (F.GTH_KEY_KEY (U.GTH k.no))) = e :: es →
      e.kind = 1 → (s.dev.gjob k.no).hdr = [] → (s.dev.gjob k.no).held = [] → hdrGood k.no e (byteVals h) pre = true →
      s.dev.sigGood (byteVals h) = true → s.dev.mayHold (hdrSlot (byteVals h)) = true →
    completes (.streamHeaderRead k false f h pre imgs) s (fun d => d.get (F.GTH_STATUS_STATE (U.GTH k.no)) = 2
      ∧ d.get (F.GTH_STATUS_DIR_COPY (U.GTH k.no)) = b2n copy
      ∧ d.get (F.GTH_SEG_COUNT (U.GTH k.no)) = hdrSegs (byteVals h) ∧ d.get (F.GTH_SEG_INDEX (U.GTH k.no)) = 0
      ∧ d.get (F.GTH_BYTES_COUNT (U.GTH k.no)) = (s.dev.get (F.GTH_BYTES_COUNT (U.GTH k.no)) + 256) % 2 ^ 32
      ∧ (d.gjob k.no).todo = e :: es ∧ (d.gjob k.no).hdr = byteVals h ∧ (d.gjob k.no).seg = 0
      ∧ (d.gjob k.no).pos = e.offset + 256
      ∧ (d.gjob k.no).held = [hdrSlot (byteVals h)] ∧ (d.cmpOf k.no).dir = some l
      ∧ d.slot (hdrSlot (byteVals h)) = { s.dev.slot (hdrSlot (byteVals h)) with
          use := (s.dev.slot (hdrSlot (byteVals h))).use + 1 }
      ∧ s.dev.Only d [.gath, .cmp, .keys] (fieldsOf [F.GTH_STATUS_STATE (U.GTH k.no),
          F.GTH_STATUS_DIR_COPY (U.GTH k.no), F.GTH_ZONES_LO_ZONES (U.GTH k.no), F.GTH_ZONES_HI_ZONES (U.GTH k.no),
          F.GTH_SEG_COUNT (U.GTH k.no), F.GTH_SEG_INDEX (U.GTH k.no), F.GTH_BYTES_COUNT (U.GTH k.no)])))
  ∧ (∀ (s : State) (k : Die) (seg : List Byte) (j : GatherJob) (text : List Nat) (fa : Nat) (w : List Nat) (n : Nat),
      s.dev.settled = true → segFormed seg = true → s.dev.fenced k.no = false → s.dev.jobRuns k.no = true →
      s.dev.gjob k.no = j → j.hdr ≠ [] → prefixGood (byteVals seg) j.seg = true →
      segOpen (s.dev.slot (hdrSlot j.hdr)).key j.hdr (byteVals seg) j.seg = (text, true) →
      parseRuns (text.length / 168 + 1) text = ([(fa, w)], none) → faGood fa = true → faPlane fa = 0 → faType fa ≠ 4 →
      bit (hdrMask j.hdr) (faZone fa) = true → n = dieZone k.no (faZone fa) → n ∈ j.staging →
      faZone fa * 65536 + fa / 1024 % 65536 ∉ j.written → j.seg + 1 ≠ hdrSegs j.hdr →
    completesMem (.gatherSegmentRead k seg false) s (fun d m =>
      m = s.mem.setFrame (slotKey n (s.dev.jobPlane k.no n) (faType fa) (faIndex fa)) (frameStore w)
      ∧ d.gjob k.no = { j with
          seg := j.seg + 1, pos := j.pos + seg.length, written := (faZone fa * 65536 + fa / 1024 % 65536) :: j.written }
      ∧ d.get (F.GTH_SEG_INDEX (U.GTH k.no)) = j.seg % 2 ^ 16
      ∧ d.get (F.GTH_BYTES_COUNT (U.GTH k.no))
          = (s.dev.get (F.GTH_BYTES_COUNT (U.GTH k.no)) + seg.length) % 2 ^ 32
      ∧ s.dev.Only d [.gath, .cmp] (fieldsOf ([F.GTH_SEG_INDEX (U.GTH k.no), F.GTH_BYTES_COUNT (U.GTH k.no)]
          ++ unitCounts k.no)) ∧ d.get (F.DR_UNITS_CCW_COUNT (U.DR k.no))
          = (s.dev.ownWrite k.no (faZone fa)).get (F.DR_UNITS_CCW_COUNT (U.DR k.no))))
  ∧ (∀ (s : State) (k : Die) (f : FlashDir) (h : List Byte) (pre : List (BitVec 64)) (imgs : List (Fin 64 × Image)),
      headerFormed f h imgs = false →
    ∀ r, exec (.streamHeaderRead k r f h pre imgs) s = .fault (.illFormed "STREAM_HEADER_READ"))
  ∧ (∀ (s : State) (k : Die) (seg : List Byte) (bad : Bool), segFormed seg = false →
    exec (.gatherSegmentRead k seg bad) s = .fault (.illFormed "GATHER_SEGMENT_READ"))

/-! ## The changeover and the swap (chapter 14) -/

/-- A pending insertion begins its LOOKUP once no changeover runs in RUN. A lookup that finds one candidate zone on one die,
not running the key and not staged, makes it the changeover set and, with no refetch there, starts its STAGE_ENTRY as the
Gaffer's; one that finds no candidate aborts with cause 3, and one whose candidates all run the key ends READY at once. A
refused STAGE_ENTRY is tried again at a tick, and aborts with cause 7 when its ticks are used up. CANCEL of a lookup aborts
with cause 8; with no changeover it does nothing. -/
def Obligations.ChangeoverUpToReady : Prop :=
  (∀ (s : State) (i : Insertion), s.dev.running = true → s.dev.gaf.pend = some i → s.dev.gaf.co = 0 →
      s.dev.get F.PW_STATUS_STATE = 0 → s.dev.gaf.swapSet = [] → i.key < 2 ^ 32 → i.port < 8 →
    completes .gafLookupStart s (fun d => d.gaf = { s.dev.gaf with pend := none, cur := some i, co := 1 }
      ∧ d.get F.GAF_STATUS_STATE = 1 ∧ d.get F.GAF_STATUS_PORT = i.port ∧ d.get F.GAF_KEY_KEY = i.key
      ∧ d.get F.GAF_STATUS_PENDING = 0 ∧ d.get F.GAF_PEND_KEY_KEY = 0
      ∧ s.dev.Only d [.gaf] (fieldsOf [F.GAF_STATUS_STATE, F.GAF_STATUS_PORT, F.GAF_KEY_KEY, F.GAF_STATUS_PENDING,
          F.GAF_STATUS_PEND_PORT, F.GAF_PEND_KEY_KEY])))
  ∧ (∀ s : State, s.dev.gaf.pend = none → completes .gafLookupStart s (fun d => d = s.dev))
  ∧ (∀ (s : State) (i : Insertion) (d1 d2 d3 d4 : FlashDir) (l : List DirEntry) (c : Bool) (e : DirEntry)
      (n : ZoneId), s.dev.running = true → s.dev.gaf.cur = some i → s.dev.gaf.co = 1 → s.dev.gaf.swapSet = [] →
      s.dev.gaf.pend = none → s.dev.gaf.run = [] → i.dies = 1 → s.dev.fenced 1 = false →
      dirRead d1 = some (l, c) → zoneEntries l i.key = [e] → e.zone = n.no → n.no < 64 → bit i.zones n.no = true →
      s.dev.runsKey n.no i.key = false → s.dev.shadowHas n.no i.key [Pl.STAGING, Pl.VERIFYING, Pl.PARISON] = false →
      s.dev.coKey = i.key → l.findIdx (· == e) < 2048 → (s.dev.lehrOf 1).refetch = none →
      s.dev.gthRefusal 1 2 (l.findIdx (· == e)) (some l) = none →
    completes (.gafLookupDone d1 d2 d3 d4) s (fun d => d.gaf.co = 2 ∧ d.get F.GAF_STATUS_STATE = 2 ∧ d.coSet = [n.no]
      ∧ Tab.get (fun _ => 0) d.gaf.run 1 = n.no + 1 ∧ d.get (F.GTH_STATUS_STATE (U.GTH 1)) = 1
      ∧ d.get (F.GTH_STATUS_SOURCE (U.GTH 1)) = 1 ∧ (d.gjob 1).op = 2 ∧ (d.gjob 1).entry = l.findIdx (· == e)
      ∧ (d.cmpOf 1).dir = some l
      ∧ s.dev.Only d [.gaf, .gath, .cmp] (fun f => f.key / 4096 == U.GTH 1
          || fieldsOf (F.GAF_STATUS_STATE :: (List.range 8).map F.GAF_CO_SET_ZONES) f)))
  ∧ (∀ (s : State) (i : Insertion) (d1 d2 d3 d4 : FlashDir), s.dev.running = true → s.dev.gaf.cur = some i →
      s.dev.gaf.co = 1 → s.dev.gaf.swapSet = [] → s.dev.gaf.run = [] → i.dies = 1 → s.dev.fenced 1 = false →
      (∀ k, k ∈ fabricDies → (s.dev.lehrOf k).verify = none) →
      dirRead d1 = none →
    completes (.gafLookupDone d1 d2 d3 d4) s (fun d => d.gaf.co = 0 ∧ d.gaf.cur = none ∧ d.get F.GAF_STATUS_STATE = 0
      ∧ d.get F.GAF_STATUS_CAUSE = 3 ∧ d.latched Ev.GAF_ABORT = true
      ∧ s.dev.OnlyNoted d [.gaf, .cmp] (fieldsOf [F.GAF_STATUS_STATE, F.GAF_STATUS_CAUSE])))
  ∧ (∀ (s : State) (i : Insertion) (d1 d2 d3 d4 : FlashDir) (l : List DirEntry) (c : Bool) (e : DirEntry)
      (n : ZoneId), s.dev.running = true → s.dev.gaf.cur = some i → s.dev.gaf.co = 1 → s.dev.gaf.swapSet = [] →
      i.dies = 1 → s.dev.fenced 1 = false → dirRead d1 = some (l, c) → zoneEntries l i.key = [e] → e.zone = n.no →
      n.no < 64 → bit i.zones n.no = true → s.dev.runsKey n.no i.key = true →
    completes (.gafLookupDone d1 d2 d3 d4) s (fun d => d.gaf.co = 0 ∧ d.gaf.cur = none ∧ d.coSet = []
      ∧ d.get F.GAF_STATUS_STATE = 0 ∧ d.latched Ev.GAF_READY = true
      ∧ s.dev.OnlyNoted d [.gaf, .cmp] (fieldsOf (F.GAF_STATUS_STATE :: (List.range 8).map F.GAF_CO_SET_ZONES))))
  ∧ (∀ (s : State) (left n e : Nat) (rest : List (Nat × Nat)), s.dev.board.mck = true → s.dev.gaf.co = 2 →
      s.dev.gaf.retry = [(1, left)] → 1 < left → s.dev.gaf.stage = [(1, (n, e) :: rest)] → s.dev.gaf.run = [] →
      e < 2048 → s.dev.gthRefusal 1 2 e (s.dev.cmpOf 1).dir = none → (s.dev.lehrOf 1).refetch = none →
    completes .gafStageRetry s (fun d => Tab.get (fun _ => 0) d.gaf.run 1 = n + 1
      ∧ Tab.get (fun _ => 0) d.gaf.retry 1 = 0 ∧ Tab.get (fun _ => []) d.gaf.stage 1 = rest ∧ d.gaf.co = 2
      ∧ d.get (F.GTH_STATUS_STATE (U.GTH 1)) = 1 ∧ d.get (F.GTH_STATUS_SOURCE (U.GTH 1)) = 1
      ∧ (d.gjob 1).op = 2 ∧ (d.gjob 1).entry = e
      ∧ s.dev.Only d [.gaf, .gath] (fun f => f.key / 4096 == U.GTH 1)))
  ∧ (∀ s : State, s.dev.running = true → s.dev.gaf.co = 2 → s.dev.gaf.retry = [(1, 1)] → s.dev.gaf.run = [] →
      s.dev.gaf.swapSet = [] → s.dev.coSet = [] → (∀ k, k ∈ fabricDies → (s.dev.lehrOf k).verify = none) →
    completes .gafStageRetry s (fun d => d.gaf.co = 0 ∧ d.get F.GAF_STATUS_STATE = 0 ∧ d.get F.GAF_STATUS_CAUSE = 7
      ∧ d.latched Ev.GAF_ABORT = true
      ∧ s.dev.OnlyNoted d [.gaf] (fieldsOf [F.GAF_STATUS_STATE, F.GAF_STATUS_CAUSE])))
  ∧ (∀ s : State, s.dev.running = true → s.dev.gaf.co = 1 → s.dev.gaf.swapSet = [] → s.dev.gaf.run = [] →
      (∀ k, k ∈ fabricDies → (s.dev.lehrOf k).verify = none) →
    completes .gafCancel s (fun d => d.gaf.co = 0 ∧ d.gaf.cur = none ∧ d.get F.GAF_STATUS_STATE = 0
      ∧ d.get F.GAF_STATUS_CAUSE = 8 ∧ d.latched Ev.GAF_ABORT = true
      ∧ s.dev.OnlyNoted d [.gaf] (fieldsOf [F.GAF_STATUS_STATE, F.GAF_STATUS_CAUSE, F.GAF_CMD_OP])))
  ∧ (∀ s : State, s.dev.board.mck = true → s.dev.gaf.co = 0 →
    completes .gafCancel s (fun d => s.dev.Only d [] (fieldsOf [F.GAF_CMD_OP])))

/-- CONFIRM in READY and SWAP start a swap that Table 14.2 allows: STATE SWAPPING, every zone at step 1, its stop draining;
one that it refuses gives its reason, RESULT 2 and SWAP_REFUSED. A drained zone is isolated at step 2, and the last report
fixes S. The drain limit abandons the swap with NOT_DRAINED and RESULT 3, its reason in GAF_REFUSE too. At S the zone's planes
exchange, the outgoing one back in PARISON, STEP 3. Step 6 initialises the memories from the new plane and the release begins
with GOE. The released zone runs to GRR, its stop is free, and the last one raises SWAP_DONE with RESULT 1 and asks for one more
of the swap counter. -/
def Obligations.SwapOfPlanes : Prop :=
  (∀ s : State, s.dev.board.mck = true → s.dev.get F.GAF_STATUS_STATE = 3 → s.dev.swapRefusal s.mem s.dev.coSet false = none →
    completes .gafConfirm s (fun d => d.gaf = { s.dev.gaf with
        swapSet := s.dev.coSet, swap := s.dev.coSet, swapCo := true, swapAny := false, edge := none,
        passed := false, forced := [] }
      ∧ d.get F.GAF_STATUS_STATE = 4 ∧ d.get F.GAF_CMD_GO = 1 ∧ d.get F.GAF_SWAP_STATUS_RESULT = 0
      ∧ (∀ n ∈ s.dev.coSet, d.get (F.ZN_SWAP_STATUS_SWAPPING (zoneUnit n)) = 1
          ∧ d.get (F.ZN_SWAP_STATUS_STEP (zoneUnit n)) = 1 ∧ (d.target (zoneStop n)).drain = true)
      ∧ s.dev.Only d [.gaf, .ring] (fun f => fieldsOf [F.GAF_STATUS_STATE, (F.GAF_CMD_GO).reg,
          F.GAF_SWAP_STATUS_RESULT] f || (decide (512 ≤ f.key / 4096) && f.key % 4096 == 0x18C))))
  ∧ (∀ (s : State) (why : Reason) (n : Nat), s.dev.running = true → s.dev.get F.GAF_STATUS_STATE = 3 →
      s.dev.swapRefusal s.mem s.dev.coSet false = some (why, n) →
    completes .gafConfirm s (fun d => d.get F.GAF_SWAP_STATUS_REASON = why.code ∧ d.get F.GAF_SWAP_STATUS_RESULT = 2
      ∧ d.get F.GAF_REFUSE_REASON = why.code ∧ d.latched Ev.SWAP_REFUSED = true ∧ d.gaf = s.dev.gaf
      ∧ s.dev.OnlyNoted d [] (fieldsOf [F.GAF_CMD_OP, F.GAF_SWAP_STATUS_RESULT.reg, F.GAF_REFUSE_REASON.reg])))
  ∧ (∀ s : State, s.dev.board.mck = true → s.dev.swapRefusal s.mem (s.dev.setOf F.GAF_SET_ZONES) true = none →
    completes .gafSwap s (fun d => d.gaf = { s.dev.gaf with
        swapSet := s.dev.setOf F.GAF_SET_ZONES, swap := s.dev.setOf F.GAF_SET_ZONES, swapCo := false, swapAny := false,
        edge := none, passed := false, forced := [] }
      ∧ d.get F.GAF_STATUS_STATE = 4 ∧ d.get F.GAF_CMD_GO = 1 ∧ d.get F.GAF_SWAP_STATUS_RESULT = 0
      ∧ (∀ n ∈ s.dev.setOf F.GAF_SET_ZONES, d.get (F.ZN_SWAP_STATUS_SWAPPING (zoneUnit n)) = 1
          ∧ d.get (F.ZN_SWAP_STATUS_STEP (zoneUnit n)) = 1 ∧ (d.target (zoneStop n)).drain = true)
      ∧ s.dev.Only d [.gaf, .ring] (fun f => fieldsOf [F.GAF_STATUS_STATE, (F.GAF_CMD_GO).reg,
          F.GAF_SWAP_STATUS_RESULT] f || (decide (512 ≤ f.key / 4096) && f.key % 4096 == 0x18C))))
  ∧ (∀ s : State, s.dev.running = true → s.dev.setOf F.GAF_SET_ZONES = [] →
    completes .gafSwap s (fun d => d.get F.GAF_SWAP_STATUS_REASON = Reason.reservedValue.code
      ∧ d.get F.GAF_SWAP_STATUS_RESULT = 2 ∧ d.get F.GAF_REFUSE_REASON = Reason.reservedValue.code
      ∧ d.latched Ev.SWAP_REFUSED = true ∧ d.gaf = s.dev.gaf
      ∧ s.dev.OnlyNoted d [] (fieldsOf [F.GAF_CMD_OP, F.GAF_SWAP_STATUS_RESULT.reg, F.GAF_REFUSE_REASON.reg])))
  ∧ (∀ (s : State) (z : ZoneId), s.dev.running = true → s.dev.silent (zoneUnit z.no) = false →
      s.dev.atStep z.no 1 = true → s.dev.zoneDrained z.no = true → s.dev.lehrClear z.no = true →
      s.dev.calmZone z.no = true → s.dev.gaf.swapSet = [z.no] → s.dev.gaf.edge = none → s.dev.clk.osc = Osc.STABLE →
      s.dev.switchEdge [z.no] < 2 ^ 64 →
    completes (.swapZoneDrained z) s (fun d => d.get (F.ZN_SWAP_STATUS_STEP (zoneUnit z.no)) = 2
      ∧ (d.target (zoneStop z.no)).iso = 2 ∧ d.latched Ev.TARGET_ISOLATED = true
      ∧ d.gaf = { s.dev.gaf with edge := some (s.dev.switchEdge [z.no]) }
      ∧ d.get F.GAF_SWITCH_LO_S + 2 ^ 32 * d.get F.GAF_SWITCH_HI_S = s.dev.switchEdge [z.no]
      ∧ s.dev.OnlyNoted d [.ring, .cul, .gaf] (fieldsOf [F.ZN_SWAP_STATUS_STEP (zoneUnit z.no), F.GAF_SWITCH_LO_S,
          F.GAF_SWITCH_HI_S, F.DR_CUL_LOST_COUNT (U.DR (zoneDie z.no))])))
  ∧ (∀ (s : State) (z : ZoneId), s.dev.running = true → s.dev.atStep z.no 1 = true → s.dev.gaf.swapSet = [z.no] →
      s.dev.get F.GAF_CTL_FORCE = 0 → (s.dev.target (zoneStop z.no)).iso ≠ 2 → s.dev.gaf.co < 4 →
    completes (.swapDrainLimit z) s (fun d => d.get (F.ZN_SWAP_STATUS_SWAPPING (zoneUnit z.no)) = 0
      ∧ d.get (F.ZN_SWAP_STATUS_STEP (zoneUnit z.no)) = 0 ∧ d.get (F.ZN_SWAP_STATUS_ABANDONED (zoneUnit z.no)) = 1
      ∧ (d.target (zoneStop z.no)).drain = false ∧ d.get F.GAF_SWAP_STATUS_RESULT = 3
      ∧ d.get F.GAF_SWAP_STATUS_REASON = Reason.notDrained.code
      ∧ d.get F.GAF_REFUSE_REASON = Reason.notDrained.code ∧ d.get F.GAF_STATUS_STATE = s.dev.gaf.co
      ∧ d.gaf = { s.dev.gaf with
          swapSet := [], swap := [], swapCo := false, swapAny := false, edge := none, passed := false, forced := [] }
      ∧ d.latched Ev.SWAP_REFUSED = true
      ∧ s.dev.OnlyNoted d [.ring, .gaf] (fieldsOf [(F.ZN_SWAP_STATUS_STEP (zoneUnit z.no)).reg, F.GAF_STATUS_STATE,
          F.GAF_SWAP_STATUS_RESULT.reg, F.GAF_CMD_GO, F.GAF_REFUSE_REASON.reg])))
  ∧ (∀ (s : State) (z : ZoneId) (e : Nat), s.dev.gaf.edge = some e → s.dev.gaf.swap = [z.no] →
      s.dev.atStep z.no 2 = true → s.dev.clockRuns z.no = true → s.dev.zoneActive z.no = true →
      s.dev.planeHasBad z.die.no z.zone.val (s.dev.activePlane z.no) = false → s.dev.anchored z.no = false →
      s.dev.board.mck = true → (s.dev.lehrOf z.die.no).refetch = none → s.dev.zoneBank z.no = none →
    completes .swapSwitchEdge s (fun d => d.activePlane z.no = 1 - s.dev.activePlane z.no
      ∧ d.planeState z.no (1 - s.dev.activePlane z.no) = Pl.ACTIVE
      ∧ d.planeState z.no (s.dev.activePlane z.no) = Pl.PARISON
      ∧ d.get (F.ZN_SWAP_STATUS_STEP (zoneUnit z.no)) = 3
      ∧ (d.zone z.no).frozen = true ∧ (d.zone z.no).stage = .none ∧ (d.zone z.no).ports = []
      ∧ d.gaf = { s.dev.gaf with passed := true }
      ∧ d.board = s.dev.board ∧ d.orm = s.dev.orm ∧ d.clk.root = s.dev.clk.root))
  ∧ (∀ (s : State) (z : ZoneId), s.dev.atStep z.no 4 = true → s.dev.clockRuns z.no = true →
      s.dev.zoneBank z.no = none →
    completesMem (.swapMemInitDone z) s (fun d m => d.get (F.ZN_SWAP_STATUS_STEP (zoneUnit z.no)) = 5
      ∧ m = s.dev.memInit s.mem z.no (s.dev.activePlane z.no) ∧ m.pool = s.mem.pool ∧ m.frames = s.mem.frames
      ∧ (d.zone z.no).stage = .goe
      ∧ (∀ n, n ≠ z.no → d.zone n = s.dev.zone n)
      ∧ s.dev.Only d [.zones] (fieldsOf [F.ZN_SWAP_STATUS_STEP (zoneUnit z.no)])))
  ∧ (∀ (s : State) (z : ZoneId), s.dev.running = true → s.dev.atStep z.no 5 = true → s.dev.clockRuns z.no = true →
      s.dev.zoneBank z.no = none → s.dev.gaf.swap = [z.no] → s.dev.gaf.swapSet = [z.no] → s.dev.gaf.swapCo = false →
      s.dev.gaf.co < 4 →
    completes (.swapZoneReleased z) s (fun d => d.get (F.ZN_SWAP_STATUS_STEP (zoneUnit z.no)) = 0
      ∧ d.get (F.ZN_SWAP_STATUS_SWAPPING (zoneUnit z.no)) = 0 ∧ d.get (F.ZN_SWAP_STATUS_DONE (zoneUnit z.no)) = 1
      ∧ (d.zone z.no).stage = .grr ∧ (d.zone z.no).frozen = false ∧ (d.target (zoneStop z.no)).iso = 0
      ∧ d.get F.GAF_SWAP_STATUS_RESULT = 1 ∧ d.get F.GAF_STATUS_STATE = s.dev.gaf.co ∧ d.latched Ev.SWAP_DONE = true
      ∧ d.gaf = { s.dev.gaf with
          swapSet := [], swap := [], swapCo := false, swapAny := false, edge := none, passed := false, forced := [] }
      ∧ Tab.get (fun _ => 0) d.orm.incs 2 = Tab.get (fun _ => 0) s.dev.orm.incs 2 + 1
      ∧ s.dev.OnlyNoted d [.ring, .zones, .cul, .gaf, .orm] (fieldsOf [(F.ZN_SWAP_STATUS_STEP (zoneUnit z.no)).reg,
          F.GAF_STATUS_STATE, F.GAF_SWAP_STATUS_RESULT, F.GAF_CMD_GO, F.DR_CUL_LOST_COUNT (U.DR (zoneDie z.no))])))

/-! ## Upset scrubbing (chapter 15) -/

/-- A Lehr slot starts the next frame of the scan, or of the verification that runs in a zone that does not swap; with two
frames in progress it is owed. With none owed, and no forced drain of a swap under way: a good frame of an active plane leaves
everything; a corrected one is written back, counted and reported; an uncorrectable one is counted, entered in the bad list
and reported; a VERIFYING plane fails at its first uncorrectable frame and becomes PARISON, with PARISON_READY, once its last
frame has passed. With the Gather idle, the first VERIFYING plane is verified next. The units of a frame's reading and
writing that pass position 64 of the ring are counted. -/
def Obligations.ScanAndVerification : Prop :=
  (∀ (s : State) (k : Die) (z o : Nat), s.dev.fenced k.no = false → (s.dev.lehrOf k.no).busy.length < 2 →
      (s.dev.lehrOf k.no).verify = none → s.dev.scrubs k.no = true →
      s.dev.nextScan k.no 65 (s.dev.lehrOf k.no).zone (s.dev.lehrOf k.no).ord false = (some (z, o), false) →
    completes (.lehrSlot k) s (fun d => d = (s.dev.setLehr k.no { s.dev.lehrOf k.no with
      zone := z, ord := o + 1,
      busy := (s.dev.lehrOf k.no).busy ++ [(ordFa z (s.dev.activePlane (dieZone k.no z)) o, false)] }).ownSend k.no z 1))
  ∧ (∀ (s : State) (k : Die) (z p o : Nat) (asked : Bool), s.dev.fenced k.no = false →
      (s.dev.lehrOf k.no).busy.length < 2 → (s.dev.lehrOf k.no).verify = some (z, p, o, asked) →
      s.dev.verifyHolds k.no = true → s.dev.jobRuns k.no = false → o < 2048 →
      s.dev.get (F.ZN_SWAP_STATUS_SWAPPING (zoneUnit (dieZone k.no z))) = 0 →
    completes (.lehrSlot k) s (fun d => d = (s.dev.setLehr k.no { s.dev.lehrOf k.no with
      verify := some (z, p, o + 1, asked), busy := (s.dev.lehrOf k.no).busy ++ [(ordFa z p o, true)] }).ownSend k.no z 1))
  ∧ (∀ (s : State) (k : Die), s.dev.fenced k.no = false → (s.dev.lehrOf k.no).verify = none →
      2 ≤ (s.dev.lehrOf k.no).busy.length →
    completes (.lehrSlot k) s (fun d => d = s.dev.setLehr k.no { s.dev.lehrOf k.no with owed := true }))
  ∧ (∀ (s : State) (k : Die) (fa : Nat) (rest : List (Nat × Bool)) (z o : Nat), s.dev.settled = true →
      s.dev.fenced k.no = false → (s.dev.lehrOf k.no).owed = false → s.dev.gaf.forced = [] →
      (s.dev.lehrOf k.no).busy = (fa, false) :: rest →
      (s.mem.frame (faSlot k.no fa)).judge = .good → s.dev.badPlace k.no fa = none →
      s.dev.nextScan k.no 65 (s.dev.lehrOf k.no).zone (s.dev.lehrOf k.no).ord false = (some (z, o), false) →
    completes (.lehrFrameJudged k) s (fun d =>
      d = (s.dev.setLehr k.no { s.dev.lehrOf k.no with busy := rest }).ownAnswer k.no (faZone fa) 13))
  ∧ (∀ (s : State) (k : Die) (fa : Nat) (rest : List (Nat × Bool)) (z o : Nat), s.dev.running = true →
      s.dev.settled = true → s.dev.fenced k.no = false → s.dev.dormant = false →
      (s.dev.lehrOf k.no).owed = false → s.dev.gaf.forced = [] → (s.dev.lehrOf k.no).busy = (fa, false) :: rest →
      (s.mem.frame (faSlot k.no fa)).judge = .corrected → s.dev.badPlace k.no fa = none → fa < 2 ^ 32 →
      s.dev.nextScan k.no 65 (s.dev.lehrOf k.no).zone (s.dev.lehrOf k.no).ord false = (some (z, o), false) →
    completesMem (.lehrFrameJudged k) s (fun d m =>
      m = s.mem.setFrame (faSlot k.no fa) (frameStore (s.mem.frame (faSlot k.no fa)).data)
      ∧ d.get (F.LHR_CORR_CNT_COUNT (U.GTH k.no)) = satInc 32 (s.dev.get (F.LHR_CORR_CNT_COUNT (U.GTH k.no)))
      ∧ d.get (F.LHR_CORR_LAST_FA (U.GTH k.no)) = fa ∧ d.latched Ev.SCRUB_CORRECTED = true
      ∧ d.lehrOf k.no = { s.dev.lehrOf k.no with busy := rest }
      ∧ s.dev.OnlyNoted d [.lehr] (fieldsOf ([F.LHR_CORR_CNT_COUNT (U.GTH k.no), F.LHR_CORR_LAST_FA (U.GTH k.no)]
          ++ unitCounts k.no))))
  ∧ (∀ (s : State) (k : Die) (fa : Nat) (rest : List (Nat × Bool)) (z o : Nat), s.dev.running = true →
      s.dev.settled = true → s.dev.fenced k.no = false → s.dev.dormant = false →
      (s.dev.lehrOf k.no).owed = false → s.dev.gaf.forced = [] → (s.dev.lehrOf k.no).busy = (fa, false) :: rest →
      (s.mem.frame (faSlot k.no fa)).judge = .uncorrectable → s.dev.badPlace k.no fa = none → fa < 2 ^ 32 →
      s.dev.planeState (dieZone k.no (faZone fa)) (faPlane fa) = Pl.ACTIVE → s.dev.lehrPolicy k.no (faZone fa) ≠ 2 →
      (List.range 8).find? (fun j => s.dev.get (F.LHR_BAD_STATE (U.GTH k.no) j) == 0) = some 0 →
      s.dev.nextScan k.no 65 (s.dev.lehrOf k.no).zone (s.dev.lehrOf k.no).ord false = (some (z, o), false) →
    completes (.lehrFrameJudged k) s (fun d =>
      d.get (F.LHR_UNCORR_CNT_COUNT (U.GTH k.no)) = satInc 32 (s.dev.get (F.LHR_UNCORR_CNT_COUNT (U.GTH k.no)))
      ∧ d.get (F.LHR_BAD_STATE (U.GTH k.no) 0) = (if s.dev.lehrPolicy k.no (faZone fa) = 1 then 2 else 1)
      ∧ d.get (F.LHR_BAD_FA (U.GTH k.no) 0) = fa / 1024
      ∧ d.latched Ev.SCRUB_UNCORRECTABLE = true
      ∧ s.dev.OnlyNoted d [.lehr, .cul] (fieldsOf ([F.LHR_UNCORR_CNT_COUNT (U.GTH k.no), F.LHR_BAD_STATE (U.GTH k.no) 0,
          F.LHR_BAD_FA (U.GTH k.no) 0, F.DR_CUL_LOST_COUNT (U.DR k.no)] ++ unitCounts k.no))))
  ∧ (∀ (s : State) (k : Die) (fa : Nat) (z p o : Nat), s.dev.running = true → s.dev.settled = true →
      s.dev.fenced k.no = false → s.dev.dormant = false → (s.dev.lehrOf k.no).owed = false → s.dev.gaf.forced = [] →
      (s.dev.lehrOf k.no).busy = [(fa, true)] →
      (s.dev.lehrOf k.no).verify = some (z, p, o, false) → s.dev.verifyHolds k.no = true → z < 64 → p < 2 →
      faZone fa = z → faPlane fa = p → s.dev.gaf.co = 0 →
      (s.mem.frame (faSlot k.no fa)).judge = .uncorrectable →
    completes (.lehrFrameJudged k) s (fun d => d.planeState (dieZone k.no z) p = Pl.INVALID
      ∧ (d.lehrOf k.no).verify = none ∧ d.latched Ev.SCRUB_UNCORRECTABLE = true
      ∧ (d.lehrOf k.no).busy = []
      ∧ s.dev.OnlyNoted d [.lehr, .cul] (fieldsOf ([if p = 0 then F.ZN_PLANE_STATE0 (zoneUnit (dieZone k.no z))
          else F.ZN_PLANE_STATE1 (zoneUnit (dieZone k.no z)), F.DR_CUL_LOST_COUNT (U.DR k.no)] ++ unitCounts k.no))))
  ∧ (∀ (s : State) (k : Die) (fa : Nat) (z p o : Nat), s.dev.running = true → s.dev.settled = true →
      s.dev.fenced k.no = false → s.dev.dormant = false → (s.dev.lehrOf k.no).owed = false → s.dev.gaf.forced = [] →
      (s.dev.lehrOf k.no).busy = [(fa, true)] →
      (s.dev.lehrOf k.no).verify = some (z, p, o, false) → s.dev.verifyHolds k.no = true → z < 64 → p < 2 →
      2048 ≤ o → faZone fa = z → faPlane fa = p → (s.mem.frame (faSlot k.no fa)).judge = .good →
    completes (.lehrFrameJudged k) s (fun d => d.planeState (dieZone k.no z) p = Pl.PARISON
      ∧ (d.lehrOf k.no).verify = none ∧ (d.lehrOf k.no).busy = [] ∧ d.latched Ev.PARISON_READY = true
      ∧ s.dev.OnlyNoted d [.lehr] (fieldsOf ([if p = 0 then F.ZN_PLANE_STATE0 (zoneUnit (dieZone k.no z))
          else F.ZN_PLANE_STATE1 (zoneUnit (dieZone k.no z))] ++ unitCounts k.no))))
  ∧ (∀ (s : State) (k : Die) (z : Nat) (zs : List Nat), s.dev.jobRuns k.no = false → s.dev.fenced k.no = false →
      (s.dev.lehrOf k.no).verify = none →
      (List.range 64).filter (fun z => s.dev.shadowState (dieZone k.no z) == Pl.VERIFYING) = z :: zs →
    completes (.lehrVerifyStart k) s (fun d => d = s.dev.setLehr k.no { s.dev.lehrOf k.no with
      verify := some (z, s.dev.shadowPlane (dieZone k.no z), 0, false) }))

/-- With the Gather idle the first PENDING entry of the bad list is refetched. A refetch whose segments open and hold the
frame stores it, clears its entry, counts, and lets go of its key slot, where no command of the Gather waits for it. On a die
with room in its refusal queue: VERIFY and REFETCH that nothing forbids run with GO; RELEASE ends a Lehr hold, and a zone that
the hold kept from the stable reference runs on it again; READBACK fills the readback registers with the raw frame. A VERIFY
that is forbidden is refused with its reason and starts nothing. -/
def Obligations.RefetchAndLehrCommands : Prop :=
  (∀ (s : State) (k : Die) (i fa st : Nat), s.dev.jobRuns k.no = false → s.dev.fenced k.no = false →
      (s.dev.lehrOf k.no).refetch = none →
      (s.dev.badList k.no).find? (fun e => e.2.2 == 2) = some (i, fa, st) → s.dev.badPlace k.no fa = some i → i < 8 →
    completes (.lehrRefetchStart k) s (fun d => d.lehrOf k.no = { s.dev.lehrOf k.no with
        refetch := some { fa := fa, cmd := false, hdr := [], slot := none, lost := false, pos := 0 } }
      ∧ d.get (F.LHR_BAD_STATE (U.GTH k.no) i) = 3
      ∧ s.dev.Only d [.lehr] (fieldsOf [F.LHR_BAD_STATE (U.GTH k.no) i])))
  ∧ (∀ (s : State) (k : Die) (segs : List (List Byte)) (r : Refetch) (c i : Nat) (w : List Nat),
      (s.dev.lehrOf k.no).refetch = some r → r.cmd = false → r.slot = some c → r.hdr ≠ [] →
      s.dev.planeState (dieZone k.no (faZone r.fa)) (faPlane r.fa) = Pl.ACTIVE → s.dev.keys.deferred = none →
      findFrame (s.dev.slot c).key (faOf (faZone r.fa) 0 (faType r.fa) (faIndex r.fa)) r.hdr
        (segs.map byteVals) 0 = some (some w) → (frameStore w).judge ≠ .uncorrectable →
      s.dev.badPlace k.no r.fa = some i → (s.dev.gjob k.no).waits = none →
    completesMem (.lehrRefetchDone k segs) s (fun d m => m = s.mem.setFrame (faSlot k.no r.fa) (frameStore w)
      ∧ (d.lehrOf k.no).refetch = none
      ∧ d.get (F.LHR_REFETCH_CNT_COUNT (U.GTH k.no)) = satInc 16 (s.dev.get (F.LHR_REFETCH_CNT_COUNT (U.GTH k.no)))
      ∧ d.get (F.LHR_CMD_STATUS_ERR (U.GTH k.no)) = 0 ∧ d.get (F.LHR_BAD_STATE (U.GTH k.no) i) = 0
      ∧ d.slot c = { s.dev.slot c with use := (s.dev.slot c).use - 1 }
      ∧ s.dev.Only d [.lehr, .keys, .cmp] (fieldsOf ([F.LHR_REFETCH_CNT_COUNT (U.GTH k.no),
          F.LHR_CMD_STATUS_ERR (U.GTH k.no), (F.LHR_BAD_STATE (U.GTH k.no) i).reg] ++ unitCounts k.no))))
  ∧ (∀ (s : State) (k : Die) (z : Fin 64), s.dev.refusalsFull k.no = false →
      s.dev.lhrRefusal k.no 1 z.val false = none →
    completes (.lhrCmdVerify k z) s (fun d => d.get (F.LHR_CMD_GO (U.GTH k.no)) = 1
      ∧ d.get (F.LHR_CMD_OP (U.GTH k.no)) = 1 ∧ d.get (F.LHR_CMD_ZONE (U.GTH k.no)) = z.val
      ∧ d.get (F.LHR_CMD_STATUS_RESULT (U.GTH k.no)) = 0
      ∧ d.lehrOf k.no = { s.dev.lehrOf k.no with cmd := some (1, z.val, s.dev.get (F.LHR_CMD_FA_FA (U.GTH k.no))) }
      ∧ s.dev.Only d [.lehr] (fieldsOf [(F.LHR_CMD_GO (U.GTH k.no)).reg, (F.LHR_CMD_STATUS_ERR (U.GTH k.no)).reg])))
  ∧ (∀ (s : State) (k : Die) (why : Reason) (z : Fin 64), s.dev.refusalsFull k.no = false →
      s.dev.lhrRefusal k.no 1 z.val false = some why →
    completes (.lhrCmdVerify k z) s (fun d => d.get (F.LHR_REFUSE_REASON (U.GTH k.no)) = why.code
      ∧ d.lehr = s.dev.lehr
      ∧ s.dev.OnlyNoted d [] (fieldsOf [(F.LHR_CMD_GO (U.GTH k.no)).reg, (F.LHR_REFUSE_REASON (U.GTH k.no)).reg])))
  ∧ (∀ (s : State) (k : Die), s.dev.refusalsFull k.no = false →
      s.dev.lhrRefusal k.no 2 (s.dev.get (F.LHR_CMD_ZONE (U.GTH k.no))) false = none →
    completes (.lhrCmdRefetch k) s (fun d => d.get (F.LHR_CMD_GO (U.GTH k.no)) = 1
      ∧ d.get (F.LHR_CMD_OP (U.GTH k.no)) = 2 ∧ d.get (F.LHR_CMD_STATUS_RESULT (U.GTH k.no)) = 0
      ∧ d.lehrOf k.no = { s.dev.lehrOf k.no with cmd := some (2, s.dev.get (F.LHR_CMD_ZONE (U.GTH k.no)),
          s.dev.get (F.LHR_CMD_FA_FA (U.GTH k.no))) }
      ∧ s.dev.Only d [.lehr] (fieldsOf [(F.LHR_CMD_GO (U.GTH k.no)).reg, (F.LHR_CMD_STATUS_ERR (U.GTH k.no)).reg])))
  ∧ (∀ (s : State) (k : Die) (z : Fin 64) (force : Bool) (n : Nat), n = dieZone k.no z.val →
      s.dev.running = true → s.dev.dormant = false → s.dev.refusalsFull k.no = false →
      s.dev.lhrRefusal k.no 3 z.val force = none → s.dev.lehrHeld n = true →
      s.dev.zcState n = Zc.HELD → (s.dev.zone n).clk.held = some .lehr → (s.dev.zone n).clk.heldRef = true →
      s.dev.thermHold = false → s.dev.clk.osc = Osc.STABLE → (s.dev.zone n).clk.wait = .none →
    completes (.lhrCmdRelease k z force) s (fun d => d.lehrHeld n = false ∧ d.zcState n = Zc.REF
      ∧ (d.zone n).clk.held = none ∧ d.latched Ev.ZONE_CLK_SWITCH_DONE = true
      ∧ d.get (F.LHR_CMD_STATUS_RESULT (U.GTH k.no)) = 1 ∧ d.get (F.LHR_CMD_GO (U.GTH k.no)) = 0
      ∧ s.dev.OnlyNoted d [.zones, .lehr] (fun f => zoneClkReg f.key || fieldsOf [(F.LHR_CMD_GO (U.GTH k.no)).reg,
          (F.LHR_CMD_STATUS_ERR (U.GTH k.no)).reg, F.LHR_HELD_LO_ZONES (U.GTH k.no),
          F.LHR_HELD_HI_ZONES (U.GTH k.no)] f)))
  ∧ (∀ (s : State) (k : Die) (f : Frame), s.dev.refusalsFull k.no = false →
      s.dev.lhrRefusal k.no 4 (s.dev.get (F.LHR_CMD_ZONE (U.GTH k.no))) false = none →
      s.mem.frame (faSlot k.no (s.dev.get (F.LHR_CMD_FA_FA (U.GTH k.no)))) = f →
    completes (.lhrCmdReadback k) s (fun d => d.get (F.LHR_CMD_STATUS_RESULT (U.GTH k.no)) = 1
      ∧ (∀ j, j < 20 → d.get (F.LHR_RB_DATA_DATA (U.GTH k.no) (2 * j)) = cwData (f.word j) % 2 ^ 32
          ∧ d.get (F.LHR_RB_DATA_DATA (U.GTH k.no) (2 * j + 1)) = cwData (f.word j) / 2 ^ 32)
      ∧ (∀ i b, i < 5 → b < 4 → bits (d.get (F.LHR_RB_CHK_CHK (U.GTH k.no) i)) (31 - 8 * b) (24 - 8 * b)
          = cwCheck (f.word (4 * i + b)))
      ∧ d.get (F.LHR_RB_CRC_STORED (U.GTH k.no)) = f.crc.toNat
      ∧ d.get (F.LHR_RB_CRC_COMPUTED (U.GTH k.no)) = crc16 (frameBytes f.data)
      ∧ s.dev.Only d [.lehr] (fun g => g.key / 4096 == U.GTH k.no && (decide (0x200 ≤ g.key % 4096)
          || fieldsOf [(F.LHR_CMD_GO (U.GTH k.no)).reg, (F.LHR_CMD_STATUS_ERR (U.GTH k.no)).reg] g)
          || fieldsOf (unitCounts k.no) g)))

/-! ## Keys, random numbers and the battery (chapter 16) -/

/-- Every GO leaves KS_KEY and KS_WRAP at 0. LOAD and LOAD_WRAPPED that Table 16.5 does not refuse put the key, its
attributes and its KCV into the slot, VALID, or wait with DEFER while the slot is in use; ERASE empties the slot, and a job
that holds it fails with KEY_LOST; FUSE_PROG and REVOKE run with BUSY until they end, with the slot VALID or REVOKED;
CANCEL_DEFER discards the waiting rewrite. A refused LOAD or LOAD_WRAPPED gives the first reason of the table and the slot, and
changes nothing but the buffers. -/
def Obligations.KeyStoreCommands : Prop :=
  (∀ (s : State) (c : BitVec 5) (defer : Bool), s.dev.board.mck = true → s.dev.ksRefusal 1 c.toNat defer 0 = none →
      (s.dev.slot c.toNat).use = 0 →
    completes (.ksLoad c defer) s (fun d => d.slot c.toNat = { s.dev.slot c.toNat with
        state := Ks.VALID, key := s.dev.keyBuf, attr := attrFull (s.dev.get F.KS_NEW_ATTR_ATTR),
        kcv := keyKcv s.dev.keyBuf }
      ∧ (∀ b, b ≠ c.toNat → d.slot b = s.dev.slot b) ∧ (∀ i, i < 8 → d.get (F.KS_KEY_KEY i) = 0)
      ∧ (∀ i, i < 12 → d.get (F.KS_WRAP_WRAP i) = 0) ∧ d.keys.deferred = s.dev.keys.deferred
      ∧ s.dev.Only d [.keys] (fieldsOf ksGoFields)))
  ∧ (∀ (s : State) (c : BitVec 5), s.dev.board.mck = true → s.dev.ksRefusal 1 c.toNat true 0 = none →
      (s.dev.slot c.toNat).use > 0 →
    completes (.ksLoad c true) s (fun d => d.keys = { s.dev.keys with
        deferred := some (c.toNat, s.dev.keyBuf, s.dev.get F.KS_NEW_ATTR_ATTR) }
      ∧ d.get F.KS_STATUS_DEFER_PENDING = 1 ∧ d.get F.KS_STATUS_DEFER_SLOT = c.toNat
      ∧ (∀ i, i < 8 → d.get (F.KS_KEY_KEY i) = 0)
      ∧ s.dev.Only d [.keys] (fieldsOf (F.KS_STATUS_DEFER_PENDING :: F.KS_STATUS_DEFER_SLOT :: ksGoFields))))
  ∧ (∀ (s : State) (c : BitVec 5) (defer : Bool) (why : Reason), s.dev.running = true →
      s.dev.ksRefusal 1 c.toNat defer 0 = some why →
    completes (.ksLoad c defer) s (fun d => d.get F.KS_REFUSE_REASON = why.code ∧ d.get F.KS_REFUSE_INDEX = c.toNat
      ∧ (∀ i, i < 8 → d.get (F.KS_KEY_KEY i) = 0) ∧ d.get F.KS_CMD_GO.reg = s.dev.get F.KS_CMD_GO.reg
      ∧ s.dev.OnlyNoted d [] (fieldsOf (F.KS_REFUSE_REASON.reg :: ksGoFields))))
  ∧ (∀ (s : State) (c w : BitVec 5), s.dev.running = true →
    completes (.ksLoadWrapped c false w) s (fun d =>
      (∀ i, i < 12 → d.get (F.KS_WRAP_WRAP i) = 0)
      ∧ (∀ why, s.dev.ksRefusal 2 c.toNat false w.toNat = some why → d.get F.KS_REFUSE_REASON = why.code
          ∧ d.get F.KS_CMD_GO.reg = s.dev.get F.KS_CMD_GO.reg ∧ (why = .descriptorInvalid → d.latched Ev.AUTH_FAIL = true)
          ∧ s.dev.OnlyNoted d [] (fieldsOf (F.KS_REFUSE_REASON.reg :: ksGoFields)))
      ∧ (s.dev.ksRefusal 2 c.toNat false w.toNat = none →
          ∃ key attr, s.dev.unwrapped w.toNat = some (key, attr)
          ∧ d.slot c.toNat = { s.dev.slot c.toNat with
              state := Ks.VALID, key := key, attr := attrFull attr, kcv := keyKcv key }
          ∧ (∀ b, b ≠ c.toNat → d.slot b = s.dev.slot b) ∧ s.dev.Only d [.keys] (fieldsOf ksGoFields))))
  ∧ (∀ (s : State) (c : BitVec 5), s.dev.board.mck = true → s.dev.settled = true → s.dev.noneLost = true →
      s.dev.ksRefusal 3 c.toNat false (s.dev.get F.KS_CMD_WRAP_SLOT) = none → (s.dev.slot c.toNat).use = 0 →
      s.dev.keys.deferred = none →
    completes (.ksErase c) s (fun d => d.slot c.toNat = KeySlot.empty
      ∧ (∀ b, b ≠ c.toNat → d.slot b = s.dev.slot b) ∧ s.dev.Only d [.keys] (fieldsOf ksGoFields)))
  ∧ (∀ (s : State) (c : BitVec 5), s.dev.running = true → s.dev.settled = true →
      s.dev.ksRefusal 3 c.toNat false (s.dev.get F.KS_CMD_WRAP_SLOT) = none → s.dev.keys.deferred = none →
      (s.dev.slot c.toNat).use = 1 → s.dev.noneLost = true → s.dev.fenced 1 = false → s.dev.dormant = false →
      s.dev.jobRuns 1 = true → s.dev.baseRuns 1 = false → (s.dev.gjob 1).held = [c.toNat] →
      (s.dev.gjob 1).staging = [] → (∀ k, k ∈ [2, 3, 4] → (s.dev.gjob k).held = []) →
      (∀ k, k ∈ fabricDies → (s.dev.lehrOf k).refetch = none) →
    completes (.ksErase c) s (fun d => d.slot c.toNat = KeySlot.empty ∧ d.latched Ev.KEY_LOST = true
      ∧ d.latched Ev.GATHER_ERROR = true ∧ d.jobRuns 1 = false ∧ d.get (F.GTH_STATUS_ERR (U.GTH 1)) = Ge.KEY_LOST
      ∧ s.dev.OnlyNoted d [.keys, .gath] (fun f => f.key / 4096 == U.GTH 1 || fieldsOf ksGoFields f)))
  ∧ (∀ (s : State) (c : BitVec 5), s.dev.board.mck = true → s.dev.ksRefusal 4 c.toNat false 0 = none →
    completes (.ksRevoke c) s (fun d => d.keys = { s.dev.keys with revoke := some c.toNat }
      ∧ d.get F.KS_STATUS_BUSY = 1 ∧ d.get F.KS_CMD_GO = 1
      ∧ s.dev.Only d [.keys] (fieldsOf (F.KS_STATUS_BUSY :: ksGoFields))))
  ∧ (∀ (s : State) (c : BitVec 5), s.dev.board.mck = true → s.dev.ksRefusal 5 c.toNat false 0 = none →
    completes (.ksFuseProg c) s (fun d => d.keys = { s.dev.keys with
        prog := some (c.toNat, s.dev.keyBuf, s.dev.get F.KS_NEW_ATTR_ATTR) }
      ∧ d.get F.KS_STATUS_BUSY = 1 ∧ d.get F.KS_CMD_GO = 1 ∧ (∀ i, i < 8 → d.get (F.KS_KEY_KEY i) = 0)
      ∧ s.dev.Only d [.keys] (fieldsOf (F.KS_STATUS_BUSY :: ksGoFields))))
  ∧ (∀ (s : State) (c key attr : Nat), s.dev.settled = true → s.dev.noneLost = true →
      s.dev.clk.osc = Osc.STABLE → s.dev.keys.prog = some (c, key, attr) →
    completes .ksFuseOpDone s (fun d => d.slot c = { s.dev.slot c with
        state := Ks.VALID, key := key, attr := attrFull attr, kcv := keyKcv key }
      ∧ d.keys.prog = none ∧ d.get F.KS_STATUS_BUSY = 0 ∧ d.get F.KS_CMD_GO = 0
      ∧ s.dev.Only d [.keys] (fieldsOf [F.KS_STATUS_BUSY, F.KS_CMD_GO])))
  ∧ (∀ (s : State) (c : Nat), s.dev.settled = true → s.dev.noneLost = true → s.dev.keys.prog = none →
      s.dev.clk.osc = Osc.STABLE → s.dev.keys.revoke = some c → (s.dev.slot c).use = 0 →
    completes .ksFuseOpDone s (fun d => d.slot c = { s.dev.slot c with state := Ks.REVOKED }
      ∧ d.keys.revoke = none ∧ d.get F.KS_STATUS_BUSY = 0 ∧ d.get F.KS_CMD_GO = 0
      ∧ s.dev.Only d [.keys] (fieldsOf [F.KS_STATUS_BUSY, F.KS_CMD_GO])))
  ∧ (∀ s : State, s.dev.board.mck = true → s.dev.ksRefusal 6 0 false 0 = none →
    completes .ksCancelDefer s (fun d => d.keys = { s.dev.keys with deferred := none }
      ∧ d.get F.KS_STATUS_DEFER_PENDING = 0
      ∧ s.dev.Only d [.keys] (fieldsOf (F.KS_STATUS_DEFER_PENDING :: F.KS_STATUS_DEFER_SLOT :: ksGoFields))))

/-- A block of samples that passes the health tests gives eight words to the FIFO; one that fails discards it, reads FAILED
and raises TRNG_HEALTH; TRNG_DATA gives the oldest word, or 0 with EMPTY_READ; RESTART and a passed start test make the
block READY. VBAT below 1.2 V without VCCAUX empties the battery-backed slots and the gauge; VKEEP crossed without VCCAUX
latches; with VCCAUX the battery's case is judged. Charge drawn counts down, then as OVERDRAW; a written charge is judged.
After a crossing of VKEEP, a VALID battery-backed slot whose check value and attributes still agree stays VALID and another
becomes INVALIDATED with a zeroed key. -/
def Obligations.RandomAndBattery : Prop :=
  (∀ (s : State) (v : BitVec 512), s.dev.get F.TRNG_CTL_EN = 1 → s.dev.get F.TRNG_STATUS_READY = 1 →
      s.dev.pSvc = true → s.dev.get F.TRNG_STATUS_FAILED = 0 → (s.dev.trng.samples (sampleBits 512 v.toNat)).2 = false →
      s.dev.trng.fifo.length ≤ 8 →
    completes (.trngBlock v) s (fun d => d.trng.fifo = s.dev.trng.fifo
        ++ (chunks 4 8 (Crypto.sha256 (Crypto.toBytes 64 v.toNat))).map Crypto.num
      ∧ d.get F.TRNG_STATUS_LEVEL = d.trng.fifo.length ∧ s.dev.Only d [.trng] (fieldsOf [F.TRNG_STATUS_LEVEL])))
  ∧ (∀ (s : State) (v : BitVec 512), s.dev.running = true → s.dev.get F.TRNG_CTL_EN = 1 →
      s.dev.pSvc = true → s.dev.get F.TRNG_STATUS_READY = 1 → s.dev.get F.TRNG_STATUS_FAILED = 0 →
      (s.dev.trng.samples (sampleBits 512 v.toNat)).2 = true →
    completes (.trngBlock v) s (fun d => d.trng.fifo = [] ∧ d.get F.TRNG_STATUS_LEVEL = 0
      ∧ d.get F.TRNG_STATUS_FAILED = 1 ∧ d.get F.TRNG_STATUS_READY = 0
      ∧ d.get F.TRNG_FAIL_CNT_COUNT = satInc 16 (s.dev.get F.TRNG_FAIL_CNT_COUNT) ∧ d.latched Ev.TRNG_HEALTH = true
      ∧ s.dev.OnlyNoted d [.trng] (fieldsOf [F.TRNG_STATUS_LEVEL, F.TRNG_STATUS_FAILED, F.TRNG_STATUS_READY,
          F.TRNG_CTL_RESTART, F.TRNG_FAIL_CNT_COUNT])))
  ∧ (∀ (s : State) (w : Nat) (rest : List Nat), s.dev.trng.fifo = w :: rest → rest.length < 16 →
    completes .trngDataRead s (fun d => d.trng = { s.dev.trng with fifo := rest }
      ∧ d.get F.TRNG_DATA_DATA = w % 2 ^ 32 ∧ d.get F.TRNG_STATUS_LEVEL = rest.length
      ∧ s.dev.Only d [.trng] (fieldsOf [F.TRNG_DATA_DATA, F.TRNG_STATUS_LEVEL])))
  ∧ (∀ s : State, s.dev.trng.fifo = [] →
    completes .trngDataRead s (fun d => d.get F.TRNG_DATA_DATA = 0 ∧ d.get F.TRNG_STATUS_EMPTY_READ = 1
      ∧ s.dev.Only d [] (fieldsOf [F.TRNG_DATA_DATA, F.TRNG_STATUS_EMPTY_READ])))
  ∧ (∀ s : State, s.dev.board.mck = true →
    completes .trngRestart s (fun d => d.get F.TRNG_CTL_RESTART = 1 ∧ d.get F.TRNG_STATUS_FAILED = 0
      ∧ d.get F.TRNG_STATUS_READY = 0 ∧ d.trng.fifo = s.dev.trng.fifo
      ∧ s.dev.Only d [.trng] (fieldsOf [F.TRNG_CTL_RESTART, F.TRNG_STATUS_FAILED, F.TRNG_STATUS_READY])))
  ∧ (∀ (s : State) (v : BitVec 1024), s.dev.get F.TRNG_CTL_EN = 1 → s.dev.get F.TRNG_STATUS_READY = 0 →
      s.dev.pSvc = true → s.dev.get F.TRNG_STATUS_FAILED = 0 →
      (TrngState.samples (sampleBits 1024 v.toNat) { s.dev.trng with run := 0, seen := 0, same := 0 }).2 = false →
    completes (.trngStartTestDone v) s (fun d => d.get F.TRNG_STATUS_READY = 1 ∧ d.get F.TRNG_CTL_RESTART = 0
      ∧ d.trng.fifo = s.dev.trng.fifo
      ∧ s.dev.Only d [.trng] (fieldsOf [F.TRNG_STATUS_READY, F.TRNG_CTL_RESTART])))
  ∧ (∀ (s : State) (above : Bool), s.dev.board.vccaux = false →
    completes (.vbatCrossing 0 above) s (fun d => d.get F.BG_STATUS_ABOVE_WARN = b2n above
      ∧ s.dev.Only d [] (fieldsOf [F.BG_STATUS_ABOVE_WARN])))
  ∧ (∀ s : State, s.dev.board.vccaux = false →
    completes (.vbatCrossing 1 false) s (fun d => d.get F.BG_STATUS_ABOVE_KEEP = 0 ∧ d.get F.BG_STATUS_KEEP_LATCH = 1
      ∧ s.dev.Only d [] (fieldsOf [F.BG_STATUS_ABOVE_KEEP, F.BG_STATUS_KEEP_LATCH]))
    ∧ completes (.vbatCrossing 4 false) s (fun d => (∀ c ∈ bkSlots, (d.slot c).state = Ks.EMPTY ∧ (d.slot c).key = 0)
      ∧ d.get F.BG_STATUS_DOMAIN_LOST = 1 ∧ d.get F.BG_CHARGE_UC = 0 ∧ d.get F.BG_LOW_UC = 0
      ∧ d.get F.BG_CAPACITY_UC = 0 ∧ d.get F.BG_OVERDRAW_UC = 0 ∧ d.get F.BG_STATUS_KEEP_LATCH = 0
      ∧ (∀ c ∉ bkSlots, d.slot c = s.dev.slot c)
      ∧ s.dev.Only d [.keys, .bat] (fieldsOf [F.BG_CHARGE_UC, F.BG_CAPACITY_UC, F.BG_OVERDRAW_UC, F.BG_LOW_UC,
          F.BG_STATUS_KEEP_LATCH, F.BG_STATUS_DISAGREE, F.BG_STATUS_DOMAIN_LOST])))
  ∧ (∀ (s : State) (above : Bool), s.dev.running = true → s.dev.board.vccaux = true →
    completes (.vbatCrossing 0 above) s (fun d => d.get F.BG_STATUS_ABOVE_WARN = b2n above
      ∧ d.bat.caseNow = d.batteryCase ∧ d.get F.BG_STATUS_DISAGREE = b2n (caseDisagree d.batteryCase)
      ∧ (d.batteryCase ≠ s.dev.bat.caseNow → caseLow d.batteryCase = true → d.latched Ev.BAT_LOW = true)
      ∧ (d.batteryCase ≠ s.dev.bat.caseNow → caseDisagree d.batteryCase = true → d.latched Ev.BAT_DISAGREE = true)
      ∧ s.dev.OnlyNoted d [.bat] (fieldsOf [F.BG_STATUS_ABOVE_WARN, F.BG_STATUS_DISAGREE])))
  ∧ (∀ s : State, s.dev.board.vccaux = false →
    completes .gaugeQuantum s (fun d =>
      (s.dev.get F.BG_CHARGE_UC ≠ 0 → d.get F.BG_CHARGE_UC + 1 = s.dev.get F.BG_CHARGE_UC
        ∧ s.dev.Only d [] (fieldsOf [F.BG_CHARGE_UC]))
      ∧ (s.dev.get F.BG_CHARGE_UC = 0 → d.get F.BG_OVERDRAW_UC = satInc 32 (s.dev.get F.BG_OVERDRAW_UC)
        ∧ s.dev.Only d [] (fieldsOf [F.BG_OVERDRAW_UC]))))
  ∧ (∀ (s : State) (low : Bool) (v : BitVec 32), s.dev.running = true →
    completes (.bgChargeWrite low v) s (fun d => d.get (if low then F.BG_LOW_UC else F.BG_CHARGE_UC) = v.toNat
      ∧ d.bat.caseNow = d.batteryCase ∧ d.get F.BG_STATUS_DISAGREE = b2n (caseDisagree d.batteryCase)
      ∧ s.dev.OnlyNoted d [.bat] (fieldsOf [if low then F.BG_LOW_UC else F.BG_CHARGE_UC, F.BG_STATUS_DISAGREE])))
  ∧ (∀ (d : Device) (c : Nat), d.get F.BG_STATUS_KEEP_LATCH = 1 → c ∈ bkSlots → (d.slot c).state = Ks.VALID →
    (d.suspectCheck true).get F.BG_STATUS_KEEP_LATCH = 0
    ∧ (keyKcv (d.slot c).key = (d.slot c).kcv → attrFull (d.slot c).attr = (d.slot c).attr →
        (d.suspectCheck true).slot c = d.slot c ∧ bit ((d.suspectCheck true).get F.KS_SUSPECT_RESULT_RESTORED) (c - 16) = true)
    ∧ ((keyKcv (d.slot c).key ≠ (d.slot c).kcv ∨ attrFull (d.slot c).attr ≠ (d.slot c).attr) →
        ((d.suspectCheck true).slot c).state = Ks.INVALIDATED ∧ ((d.suspectCheck true).slot c).key = 0
        ∧ bit ((d.suspectCheck true).get F.KS_SUSPECT_RESULT_INVALIDATED) (c - 16) = true))

/-! ## The life cycle, debug and the TAP (chapter 17) -/

/-- A transition that Table 17.6 does not refuse runs with BUSY; with the engine of the option and record memory free it starts
the journal's entry PENDING, else the entry waits for the engine. With no key slot lost and nothing else that follows (see
`endsAlone`): once PENDING is written, a transition to RETURNED empties every battery-backed slot and revokes both fuse slots.
When the fuse steps end with every fuse blown, the entry DONE is started; with a fuse that stays weak the transition ends with
RESULT 2 in INVALID without rights. Once DONE is written the transition ends with RESULT 1 and the LC_DONE reset, which waits
for MCK. A hash row takes LC_HASH and its check; ADVANCE_GEN raises the generation by one. A refused command gives the first
reason of the table. -/
def Obligations.LifeCycleCommands : Prop :=
  (∀ (s : State) (t : BitVec 3) (key : BitVec 8) (n : Nat), s.dev.board.mck = true → s.dev.settled = true →
      s.dev.noneLost = true → s.dev.lcRefusal 1 key.toNat t.toNat = none → s.dev.get F.LC_STATUS_STATE ≠ Lc.INVALID →
      n = (match s.dev.journal with | some (_, _, _, n) => n + 1 | none => 1) → s.dev.ormBusy = false →
    completes (.lcTransition t key) s (fun d => d.lc = { s.dev.lc with target := some t.toNat, fused := false }
      ∧ d.get F.LC_STATUS_BUSY = 1 ∧ d.get F.LC_STATUS_RESULT = 0 ∧ d.get F.LC_CMD_GO = 1
      ∧ d.orm.dev = some (.journal (s.dev.get F.LC_STATUS_STATE) t.toNat 1 n) ∧ d.orm.entry = none
      ∧ d.get F.ORM_STATUS_BUSY = 1 ∧ d.get F.ORM_STATUS_DEVICE = 1
      ∧ d.page 8 = { (s.dev.page 8).cycle with cell := 1 } ∧ (∀ p, p ≠ 8 → d.page p = s.dev.page p)
      ∧ s.dev.Only d [.lc, .orm] (fieldsOf [F.LC_CMD_GO.reg, F.LC_STATUS_BUSY, F.LC_STATUS_RESULT, F.ORM_STATUS_BUSY,
          F.ORM_STATUS_DEVICE])))
  ∧ (∀ (s : State) (t : BitVec 3) (key : BitVec 8) (n : Nat), s.dev.board.mck = true → s.dev.settled = true →
      s.dev.noneLost = true → s.dev.lcRefusal 1 key.toNat t.toNat = none → s.dev.get F.LC_STATUS_STATE ≠ Lc.INVALID →
      n = (match s.dev.journal with | some (_, _, _, n) => n + 1 | none => 1) → s.dev.ormBusy = true →
    completes (.lcTransition t key) s (fun d => d.lc = { s.dev.lc with target := some t.toNat, fused := false }
      ∧ d.get F.LC_STATUS_BUSY = 1
      ∧ d.orm = { s.dev.orm with entry := some (.journal (s.dev.get F.LC_STATUS_STATE) t.toNat 1 n) }
      ∧ s.dev.Only d [.lc, .orm] (fieldsOf [F.LC_CMD_GO.reg, F.LC_STATUS_BUSY, F.LC_STATUS_RESULT])))
  ∧ (∀ (s : State) (a b : Nat), s.dev.endsAlone = true → s.dev.orm.write = none →
      s.dev.orm.dev = some (.journal a 4 1 b) → s.dev.lc.target = some Lc.RETURNED → s.dev.lc.fused = false →
      (∀ k, (s.dev.slot k).use = 0) → s.dev.keys.deferred = none →
    completes .ormCommitDone s (fun d => d.orm.dev = none ∧ d.get F.ORM_STATUS_BUSY = 0
      ∧ d.page 8 = { s.dev.page 8 with groups := groupsOf (journalBytes a 4 1 b), cell := 2 }
      ∧ (∀ p, p ≠ 8 → d.page p = s.dev.page p) ∧ d.lc = s.dev.lc
      ∧ (∀ k ∈ bkSlots, d.slot k = KeySlot.empty) ∧ (d.slot 0).state = Ks.REVOKED ∧ (d.slot 1).state = Ks.REVOKED
      ∧ s.dev.Only d [.orm, .keys] (fieldsOf [F.ORM_STATUS_BUSY, F.ORM_STATUS_DEVICE, F.ORM_TORN_TORN 0,
          F.LC_STATUS_JOURNAL, F.LC_JOURNAL_SOURCE.reg])))
  ∧ (∀ (s : State) (t : BitVec 3) (key : BitVec 8) (why : Reason), s.dev.running = true → s.dev.settled = true →
      s.dev.noneLost = true → s.dev.lcRefusal 1 key.toNat t.toNat = some why →
    completes (.lcTransition t key) s (fun d => d.get F.LC_REFUSE_REASON = why.code ∧ d.lc = s.dev.lc
      ∧ d.fuses = s.dev.fuses ∧ d.orm = s.dev.orm
      ∧ s.dev.OnlyNoted d [] (fieldsOf [F.LC_CMD_GO.reg, F.LC_REFUSE_REASON.reg])))
  ∧ (∀ (s : State) (key : BitVec 8), s.dev.board.mck = true →
      s.dev.lcRefusal 2 key.toNat (s.dev.get F.LC_CMD_TARGET) = none →
    completes (.lcProgDebugHash key) s (fun d =>
      Tab.get (fun _ => 0) d.fuses.rows 1 = s.dev.lcHash * 256 + crc8 (beBytes 32 s.dev.lcHash)
      ∧ d.get F.LC_ROWS_DEBUG = d.rowStatus 1
      ∧ (∀ k, k ≠ 1 → Tab.get (fun _ => 0) d.fuses.rows k = Tab.get (fun _ => 0) s.dev.fuses.rows k)
      ∧ s.dev.Only d [.fuses] (fieldsOf [F.LC_CMD_OP, F.LC_ROWS_DEBUG])))
  ∧ (∀ (s : State) (key : BitVec 8), s.dev.board.mck = true →
      s.dev.lcRefusal 3 key.toNat (s.dev.get F.LC_CMD_TARGET) = none →
    completes (.lcProgCfgHash key) s (fun d =>
      Tab.get (fun _ => 0) d.fuses.rows 2 = s.dev.lcHash * 256 + crc8 (beBytes 32 s.dev.lcHash)
      ∧ d.get F.LC_ROWS_CFG = d.rowStatus 2
      ∧ (∀ k, k ≠ 2 → Tab.get (fun _ => 0) d.fuses.rows k = Tab.get (fun _ => 0) s.dev.fuses.rows k)
      ∧ s.dev.Only d [.fuses] (fieldsOf [F.LC_CMD_OP, F.LC_ROWS_CFG])))
  ∧ (∀ (s : State) (key : BitVec 8), s.dev.board.mck = true →
      s.dev.lcRefusal 4 key.toNat (s.dev.get F.LC_CMD_TARGET) = none →
    completes (.lcAdvanceGen key) s (fun d => d.generation = s.dev.generation + 1
      ∧ d.get F.LC_GEN_G = s.dev.generation + 1
      ∧ d.fuses = { s.dev.fuses with gen := setBit s.dev.fuses.gen s.dev.generation }
      ∧ s.dev.Only d [.fuses] (fieldsOf [F.LC_CMD_OP, F.LC_GEN_G])))
  ∧ (∀ (s : State) (w : Unit128) (t : Nat), s.dev.lc.target = some t → s.dev.journaling = false →
      s.dev.clk.osc = Osc.STABLE →
      (let d := s.dev.blow ((s.dev.lcToBlow t).filter (fun i => !bit w.toNat i))
       (d.fuses.lc0, d.fuses.lc1) ≠ lcRows t) →
    completes (.lcTransitionComplete w) s (fun d => d.lc = { s.dev.lc with target := none }
      ∧ d.get F.LC_STATUS_RESULT = 2 ∧ d.get F.LC_STATUS_STATE = Lc.INVALID ∧ d.get F.DA_RIGHTS_BASELINE = 0
      ∧ d.get F.LC_STATUS_BUSY = 0 ∧ d.get F.LC_CMD_GO = 0
      ∧ s.dev.Only d [.lc, .fuses] (fieldsOf [F.LC_STATUS_RESULT, F.LC_STATUS_STATE, F.LC_STATUS_BUSY, F.LC_CMD_GO,
          F.DA_RIGHTS_BASELINE])))
  ∧ (∀ (s : State) (w : Unit128) (t a b c n : Nat), s.dev.lc.target = some t → s.dev.journaling = false →
      s.dev.journal = some (a, b, c, n) → s.dev.ormBusy = false → s.dev.clk.osc = Osc.STABLE →
      (let d := s.dev.blow ((s.dev.lcToBlow t).filter (fun i => !bit w.toNat i))
       (d.fuses.lc0, d.fuses.lc1) = lcRows t) →
    completes (.lcTransitionComplete w) s (fun d => (d.fuses.lc0, d.fuses.lc1) = lcRows t
      ∧ (d.fuses.sensed0, d.fuses.sensed1) = lcRows t ∧ d.lc = { s.dev.lc with fused := true } ∧ d.orm.dev = some (.journal a b 2 n) ∧ d.orm.entry = none
      ∧ d.page 8 = { (s.dev.page 8).cycle with cell := 1 } ∧ (∀ p, p ≠ 8 → d.page p = s.dev.page p)
      ∧ s.dev.Only d [.lc, .fuses, .orm] (fieldsOf [F.ORM_STATUS_BUSY, F.ORM_STATUS_DEVICE])))
  ∧ (∀ (s : State) (a b n t : Nat), s.dev.endsAlone = true → s.dev.orm.write = none → s.dev.board.mck = false →
      s.dev.orm.dev = some (.journal a b 2 n) → s.dev.lc.target = some t → s.dev.lc.fused = true →
    completes .ormCommitDone s (fun d =>
      d.lc = { s.dev.lc with target := none, fused := false, announce := true, resetDue := true }
      ∧ d.get F.LC_STATUS_RESULT = 1 ∧ d.get F.LC_STATUS_BUSY = 0 ∧ d.get F.LC_CMD_GO = 0 ∧ d.orm.dev = none
      ∧ d.page 8 = { s.dev.page 8 with groups := groupsOf (journalBytes a b 2 n), cell := 2 }
      ∧ s.dev.Only d [.lc, .orm] (fieldsOf [F.LC_STATUS_RESULT, F.LC_STATUS_BUSY, F.LC_CMD_GO, F.ORM_STATUS_BUSY,
          F.ORM_STATUS_DEVICE, F.ORM_TORN_TORN 0, F.LC_STATUS_JOURNAL, F.LC_JOURNAL_SOURCE.reg])))
  ∧ (∀ (s : State) (a b n t : Nat), s.dev.endsAlone = true → s.dev.orm.write = none → s.dev.board.mck = true →
      s.dev.orm.dev = some (.journal a b 2 n) → s.dev.lc.target = some t → s.dev.lc.fused = true →
    completesMem .ormCommitDone s (fun d m => d.get F.RS_CAUSE_CAUSE = ResetSource.lcDone.code
      ∧ d.zones = [] ∧ m.frames = [] ∧ d.fuses.lc0 = s.dev.fuses.lc0 ∧ d.fuses.lc1 = s.dev.fuses.lc1))

/-- A certificate that passes every check adds its rights and raises DEBUG_OPENED; another leaves the rights, gives the code
of its first failing check and raises DEBUG_CERT_REJECTED. A challenge takes eight random words as the open nonce and raises
CHALLENGE_ISSUED, or is refused. A response is judged likewise and closes the nonce, which also expires, in an MCK cycle. DA_BUF
reads 0 after every command. -/
def Obligations.DebugAuthoriser : Prop :=
  (∀ s : State, s.dev.running = true →
    completes .daCert s (fun d => (∀ i, i < 48 → d.get (F.DA_BUF_DATA i) = 0)
      ∧ (s.dev.certCheck (s.dev.daBuf 48) = 0 →
          d.get F.DA_RIGHTS_GRANTED = Nat.lor (s.dev.get F.DA_RIGHTS_GRANTED) (fieldOf (s.dev.daBuf 48) 6 2)
          ∧ d.get F.DA_STATUS_REJECT = 0 ∧ d.latched Ev.DEBUG_OPENED = true)
      ∧ (s.dev.certCheck (s.dev.daBuf 48) ≠ 0 → d.get F.DA_RIGHTS_GRANTED = s.dev.get F.DA_RIGHTS_GRANTED
          ∧ d.get F.DA_STATUS_REJECT = s.dev.certCheck (s.dev.daBuf 48) ∧ d.latched Ev.DEBUG_CERT_REJECTED = true)
      ∧ s.dev.OnlyNoted d [] (fieldsOf ([F.DA_CMD_OP, F.DA_RIGHTS_GRANTED, F.DA_STATUS_REJECT]
          ++ (List.range 48).map F.DA_BUF_DATA))))
  ∧ (∀ s : State, s.dev.get F.LC_STATUS_STATE ≠ Lc.SEALED → s.dev.certCheck (s.dev.daBuf 48) = 2)
  ∧ (∀ s : State, s.dev.running = true → s.dev.chalRefusal = none → s.dev.trng.fifo.length ≤ 16 →
    completes .daChallenge s (fun d =>
      d.lc.nonce = some ((s.dev.trng.fifo.take 8).foldl (fun a w => a * 2 ^ 32 + w) 0)
      ∧ d.trng = { s.dev.trng with fifo := s.dev.trng.fifo.drop 8 } ∧ d.get F.DA_STATUS_NONCE_OPEN = 1
      ∧ d.latched Ev.CHALLENGE_ISSUED = true ∧ (∀ i, i < 48 → d.get (F.DA_BUF_DATA i) = 0)
      ∧ s.dev.OnlyNoted d [.lc, .trng] (fieldsOf ([F.DA_CMD_OP, F.DA_STATUS_NONCE_OPEN, F.TRNG_STATUS_LEVEL]
          ++ (List.range 20).map F.DA_CHAL_CHAL ++ (List.range 48).map F.DA_BUF_DATA))))
  ∧ (∀ (s : State) (why : Reason), s.dev.running = true → s.dev.chalRefusal = some why →
    completes .daChallenge s (fun d => d.get F.DA_REFUSE_REASON = why.code ∧ d.lc = s.dev.lc ∧ d.trng = s.dev.trng
      ∧ s.dev.OnlyNoted d [] (fieldsOf ([F.DA_CMD_OP, F.DA_REFUSE_REASON.reg] ++ (List.range 48).map F.DA_BUF_DATA))))
  ∧ (∀ s : State, s.dev.running = true →
    completes .daResponse s (fun d => d.lc.nonce = none ∧ d.get F.DA_STATUS_NONCE_OPEN = 0
      ∧ (∀ i, i < 48 → d.get (F.DA_BUF_DATA i) = 0)
      ∧ (s.dev.respCheck (s.dev.daBuf 36) = 0 → d.latched Ev.DEBUG_OPENED = true ∧ d.get F.DA_STATUS_REJECT = 0
          ∧ d.get F.DA_RIGHTS_GRANTED = Nat.lor (s.dev.get F.DA_RIGHTS_GRANTED)
              (if s.dev.get F.LC_STATUS_STATE = Lc.SEALED then clearBit (fieldOf (s.dev.daBuf 36) 6 2) 5
               else fieldOf (s.dev.daBuf 36) 6 2))
      ∧ (s.dev.respCheck (s.dev.daBuf 36) ≠ 0 → d.get F.DA_RIGHTS_GRANTED = s.dev.get F.DA_RIGHTS_GRANTED
          ∧ d.get F.DA_STATUS_REJECT = s.dev.respCheck (s.dev.daBuf 36) ∧ d.latched Ev.DEBUG_CERT_REJECTED = true)
      ∧ s.dev.OnlyNoted d [.lc] (fieldsOf ([F.DA_CMD_OP, F.DA_RIGHTS_GRANTED, F.DA_STATUS_REJECT,
          F.DA_STATUS_NONCE_OPEN] ++ (List.range 48).map F.DA_BUF_DATA))))
  ∧ (∀ s : State, s.dev.board.mck = true → completes .nonceExpire s (fun d => d.lc = { s.dev.lc with nonce := none }
      ∧ d.get F.DA_STATUS_NONCE_OPEN = 0 ∧ s.dev.Only d [.lc] (fieldsOf [F.DA_STATUS_NONCE_OPEN])))

/-- IDCODE, BYPASS, DA_STATUS and Test-Logic-Reset need no right. EXTEST, SAMPLE/PRELOAD, RING, PROBE, READBACK and SCAN need
their right, and DA_CERT, DA_CHAL and DA_RESP their state; an instruction without it selects BYPASS and sets DENIED, which
waits for MCK. A submission is judged while MCK runs and waits otherwise. What PROBE and SCAN show is open (assumption log 3). -/
def Obligations.TestAccessPort : Prop :=
  (∀ s : State, completes .tapIdcode s (fun d => d = { s.dev with tap := { s.dev.tap with ir := 2, dr := 0x152409CB } })
      ∧ completes .tapTestLogicReset s (fun d =>
          d = { s.dev with tap := { s.dev.tap with ir := 2, dr := 0x152409CB } })
      ∧ completes .tapBypass s (fun d => d = { s.dev with tap := { s.dev.tap with ir := 0xFF, dr := 0 } })
      ∧ completes .tapDaStatus s (fun d =>
          d = { s.dev with tap := { s.dev.tap with ir := 0x0B, dr := s.dev.rd F.DA_STATUS_REJECT.key } }))
  ∧ (∀ s : State, s.dev.right 3 = true →
    completes .tapExtest s (fun d => d = { s.dev with tap := { s.dev.tap with ir := 0, dr := 0 } })
      ∧ ∀ v, completes (.tapSamplePreload v) s (fun d =>
          d = { s.dev with tap := { s.dev.tap with ir := 1, dr := 0, boundary := v } }))
  ∧ (∀ (s : State) (v : Unit128), s.dev.right 2 = true →
    completes (.tapRing v) s (fun d =>
      d = { s.dev with tap := { s.dev.tap with ir := 0x10, dr := v.toNat, units := s.dev.tap.units ++ [v] } }))
  ∧ (∀ s : State, s.dev.right 1 = true →
    completes .tapProbe s (fun d => d.tap.ir = 0x11 ∧ s.dev.Only d [.tap, .free] (fieldsOf [])))
  ∧ (∀ s : State, s.dev.right 5 = true →
    completes .tapScan s (fun d => d.tap.ir = 0x20 ∧ s.dev.Only d [.tap, .free] (fieldsOf [])))
  ∧ (∀ (s : State) (k : Die) (fa : BitVec 32), s.dev.right 0 = true → faGood fa.toNat = true →
      s.dev.fenced k.no = false →
    completes (.tapReadback k fa) s (fun d => d.tap.ir = 0x12 ∧ d.get (F.LHR_CMD_FA_FA (U.GTH k.no)) = fa.toNat
      ∧ (∀ j, j < 20 → d.get (F.LHR_RB_DATA_DATA (U.GTH k.no) (2 * j))
          = cwData ((s.mem.frame (faSlot k.no fa.toNat)).word j) % 2 ^ 32)
      ∧ s.dev.Only d [.tap] (fun g => g.key / 4096 == U.GTH k.no && (decide (0x200 ≤ g.key % 4096)
          || fieldsOf [F.LHR_CMD_FA_FA (U.GTH k.no)] g) || fieldsOf (unitCounts k.no) g)))
  ∧ (∀ (s : State) (v : BitVec 1536), s.dev.get F.LC_STATUS_STATE = Lc.SEALED → s.dev.board.mck = false →
    completes (.tapDaCert v) s (fun d => d = { s.dev with
      tap := { s.dev.tap with ir := 0x08, dr := v.toNat, waiting := some (0x08, v.toNat) } }))
  ∧ (∀ (s : State) (v : BitVec 1536), s.dev.get F.LC_STATUS_STATE = Lc.SEALED → s.dev.running = true →
    completes (.tapDaCert v) s (fun d => d.tap = { s.dev.tap with ir := 0x08, dr := v.toNat }
      ∧ (s.dev.certCheck (Crypto.toBytes 192 v.toNat) = 0 → d.latched Ev.DEBUG_OPENED = true
          ∧ d.get F.DA_RIGHTS_GRANTED = Nat.lor (s.dev.get F.DA_RIGHTS_GRANTED)
              (fieldOf (Crypto.toBytes 192 v.toNat) 6 2))
      ∧ (s.dev.certCheck (Crypto.toBytes 192 v.toNat) ≠ 0 →
          d.get F.DA_STATUS_REJECT = s.dev.certCheck (Crypto.toBytes 192 v.toNat)
          ∧ d.latched Ev.DEBUG_CERT_REJECTED = true)
      ∧ s.dev.OnlyNoted d [.tap] (fieldsOf [F.DA_RIGHTS_GRANTED, F.DA_STATUS_REJECT])))
  ∧ (∀ s : State, s.dev.get F.LC_STATUS_STATE = Lc.RETURNED → s.dev.running = true → s.dev.chalRefusal = none →
      s.dev.trng.fifo.length ≤ 16 →
    completes .tapDaChal s (fun d => d.tap.ir = 0x09 ∧ d.tap.dr = d.chalValue
      ∧ d.lc.nonce = some ((s.dev.trng.fifo.take 8).foldl (fun a w => a * 2 ^ 32 + w) 0)
      ∧ d.get F.DA_STATUS_NONCE_OPEN = 1 ∧ d.latched Ev.CHALLENGE_ISSUED = true))
  ∧ (∀ (s : State) (v : BitVec 1152), s.dev.chalState = true → s.dev.running = true →
    completes (.tapDaResp v) s (fun d => d.tap = { s.dev.tap with ir := 0x0A, dr := v.toNat } ∧ d.lc.nonce = none
      ∧ (s.dev.respCheck (Crypto.toBytes 144 v.toNat) = 0 → d.latched Ev.DEBUG_OPENED = true)
      ∧ (s.dev.respCheck (Crypto.toBytes 144 v.toNat) ≠ 0 →
          d.get F.DA_STATUS_REJECT = s.dev.respCheck (Crypto.toBytes 144 v.toNat)
          ∧ d.latched Ev.DEBUG_CERT_REJECTED = true)))
  ∧ (∀ (s : State) (c : Instr), ((c = .tapExtest ∧ s.dev.right 3 = false) ∨ (c = .tapProbe ∧ s.dev.right 1 = false)
      ∨ (c = .tapScan ∧ s.dev.right 5 = false) ∨ (c = .tapDaChal ∧ s.dev.chalState = false)) →
    (s.dev.board.mck = true →
      completes c s (fun d => d.tap = { s.dev.tap with ir := 0xFF, dr := 0 } ∧ d.get F.DA_STATUS_DENIED = 1
        ∧ s.dev.Only d [.tap] (fieldsOf [F.DA_STATUS_DENIED])))
    ∧ (s.dev.board.mck = false →
      completes c s (fun d =>
        d = { s.dev with tap := { s.dev.tap with ir := 0xFF, dr := 0, denied := true } })))
  ∧ (∀ d : Device, d.tap.denied = true → d.tapDeniedShow.get F.DA_STATUS_DENIED = 1
    ∧ d.tapDeniedShow.tap = { d.tap with denied := false })

/-! ## Power states (chapter 18) -/

/-- An entry that Table 18.2 does not refuse drains every zone that its state stops (PHASE 2); a refused one records the
reason and the unit and raises PW_ENTRY_REFUSED. When all are drained PHASE is 3, every running clock among them is GATED
after its next edge and no stop drains any more; a zone whose clock has started since is drained first. The drain limit
instead aborts with NOT_DRAINED and the first zone that is not drained. In NAP a held zone whose loop relocks is GATED. PW_STATE_REACHED gives the state (PHASE 4): SLUMBER and DORMANT turn the loops off, DORMANT takes the bridges
down and keeps of the pool the banks of PW_RET_POOL. -/
def Obligations.PowerEntries : Prop :=
  (∀ (s : State) (c : Instr) (k : Nat),
      (c, k) ∈ [(Instr.pwEnterDoze, 1), (.pwEnterNap, 2), (.pwEnterSlumber, 3), (.pwEnterDormant, 4)] →
      s.dev.board.mck = true → s.dev.pwCheck k = none →
    completes c s (fun d => d.get F.PW_CMD_TARGET = k ∧ d.get F.PW_CMD_GO = 1 ∧ d.get F.PW_STATUS_PHASE = 2
      ∧ d.pw = { PowerState.idle with target := k, stops := s.dev.pwStops k }
      ∧ (∀ n, d.target (zoneStop n) = if n ∈ s.dev.pwStops k then { s.dev.target (zoneStop n) with drain := true }
          else s.dev.target (zoneStop n))
      ∧ d.ring.inits = s.dev.ring.inits ∧ d.ring.nodes = s.dev.ring.nodes ∧ d.ring.fwd = s.dev.ring.fwd
      ∧ s.dev.Only d [.pw, .ring] (fieldsOf [F.PW_CMD_TARGET, F.PW_CMD_GO, F.PW_STATUS_PHASE])))
  ∧ (∀ (s : State) (c : Instr) (k : Nat) (why : Reason) (unit : Nat),
      (c, k) ∈ [(Instr.pwEnterDoze, 1), (.pwEnterNap, 2), (.pwEnterSlumber, 3), (.pwEnterDormant, 4)] →
      s.dev.running = true → s.dev.pwCheck k = some (why, unit) →
    completes c s (fun d => d.get F.PW_CMD_TARGET = k ∧ d.get F.PW_CMD_GO = s.dev.get F.PW_CMD_GO
      ∧ d.get F.PW_REFUSE_REASON = why.code ∧ d.get F.PW_REFUSER_UNIT = unit % 4096 ∧ d.get F.PW_REFUSER_KIND = 0
      ∧ d.get F.PW_REFUSER_REASON = why.code ∧ d.get F.PW_REFUSER_EVENT = 0xFF
      ∧ d.get F.PW_REFUSE_CNT_COUNT = satInc 16 (s.dev.get F.PW_REFUSE_CNT_COUNT)
      ∧ d.latched Ev.PW_ENTRY_REFUSED = true ∧ d.get F.PW_STATUS_STATE = s.dev.get F.PW_STATUS_STATE
      ∧ s.dev.OnlyNoted d [] (fieldsOf [])))
  ∧ (∀ s : State, s.dev.board.mck = true → s.dev.get F.PW_STATUS_PHASE = 2 →
      s.dev.pw.stops.all s.dev.zoneDrained = true →
      (∀ n ∈ s.dev.pwStops s.dev.pw.target, n ∈ s.dev.pw.stops) →
    completes .pwDrainDone s (fun d => d.get F.PW_STATUS_PHASE = 3
      ∧ (∀ n ∈ s.dev.pw.stops, d.target (zoneStop n) = { s.dev.target (zoneStop n) with drain := false })
      ∧ (∀ n ∈ s.dev.pw.stops, s.dev.clockActive n = true → d.zcState n = Zc.GATED
          ∧ (d.zone n).clk =
              { (s.dev.zone n).clk with
                heldRef := s.dev.zcState n == Zc.REF, heldDiv := s.dev.get (F.ZN_CLK_STATUS_DIV_NOW (zoneUnit n)),
                lastEdge := s.dev.nextEdge n, wait := s.dev.interrupted n }
          ∧ (d.zone n).slices = (s.dev.zone n).slices)
      ∧ (∀ n, n ∉ s.dev.pw.stops → d.zone n = s.dev.zone n ∧ d.target (zoneStop n) = s.dev.target (zoneStop n))
      ∧ s.dev.Only d [.zones, .ring] (fieldsOf (F.PW_STATUS_PHASE
          :: s.dev.pw.stops.map (fun n => F.ZN_CLK_STATUS_STATE (zoneUnit n))))))
  ∧ (∀ (s : State) (l : List Nat), s.dev.board.mck = true → s.dev.get F.PW_STATUS_PHASE = 2 →
      s.dev.pw.stops.all s.dev.zoneDrained = true →
      l = (s.dev.pwStops s.dev.pw.target).filter (fun n => !s.dev.pw.stops.contains n) → l ≠ [] →
    completes .pwDrainDone s (fun d => d.pw = { s.dev.pw with stops := s.dev.pw.stops ++ l }
      ∧ (∀ n ∈ l, d.target (zoneStop n) = { s.dev.target (zoneStop n) with drain := true })
      ∧ s.dev.Only d [.pw, .ring] (fieldsOf [])))
  ∧ (∀ s : State, s.dev.pw.stops.all s.dev.zoneDrained = false →
    completes .pwDrainDone s (fun d => d = s.dev))
  ∧ (∀ (s : State) (z : ZoneId), s.dev.get F.PW_STATUS_PHASE = 4 → s.dev.pw.target = 2 → s.dev.zcState z.no = Zc.HELD →
      (s.dev.zone z.no).clk.held = some .policy → (s.dev.zone z.no).clk.heldRef = false → s.dev.loopLocked z.no = true →
      s.dev.lehrHeld z.no = false → s.dev.thermHold = false →
    completes (.zonePolicyRestart z) s (fun d => d.zcState z.no = Zc.GATED ∧ (d.zone z.no).clk.held = none
      ∧ s.dev.Only d [.zones] (fieldsOf [F.ZN_CLK_STATUS_STATE (zoneUnit z.no)])))
  ∧ (∀ (s : State) (n : Nat), s.dev.board.mck = true → s.dev.get F.PW_STATUS_PHASE = 2 →
      s.dev.pw.stops.find? (fun m => !s.dev.zoneDrained m) = some n →
    completes .pwDrainLimit s (fun d => d.get F.PW_STATUS_PHASE = 0 ∧ d.get F.PW_CMD_GO = 0 ∧ d.pw = .idle
      ∧ d.get F.PW_REFUSE_REASON = Reason.notDrained.code ∧ d.get F.PW_REFUSER_UNIT = zoneUnit n % 4096
      ∧ d.get F.PW_REFUSER_KIND = 1 ∧ d.get F.PW_REFUSER_EVENT = 0xFF ∧ d.latched Ev.PW_ENTRY_REFUSED = true
      ∧ (∀ m ∈ s.dev.pw.stops, d.target (zoneStop m) = { s.dev.target (zoneStop m) with drain := false })
      ∧ s.dev.OnlyNoted d [.pw, .ring] (fieldsOf [])))
  ∧ (∀ s : State, s.dev.board.mck = true → s.dev.get F.PW_STATUS_PHASE = 3 → s.dev.pw.wakeLater = none →
      (s.dev.pw.target = 1 ∨ s.dev.pw.target = 2) →
    completes .pwStateReached s (fun d => d.get F.PW_STATUS_STATE = s.dev.pw.target ∧ d.get F.PW_STATUS_PHASE = 4
      ∧ d.get F.PW_CMD_GO = 0
      ∧ s.dev.Only d [] (fieldsOf [F.PW_STATUS_STATE, F.PW_STATUS_PHASE, F.PW_CMD_GO])))
  ∧ (∀ (s : State) (ev : Nat), s.dev.board.mck = true → s.dev.get F.PW_STATUS_PHASE = 3 → ev < 128 →
      s.dev.pw.wakeLater = some ev → s.dev.pw.target = 2 →
    completes .pwStateReached s (fun d => d.get F.PW_STATUS_STATE = 2 ∧ d.get F.PW_STATUS_PHASE = 5
      ∧ d.get F.PW_WAKE_SRC_SOURCE = ev ∧ d.pw.stops = s.dev.pw.stops
      ∧ s.dev.Only d [.pw] (fieldsOf [F.PW_STATUS_STATE, F.PW_STATUS_PHASE, F.PW_CMD_GO, F.PW_WAKE_SRC_SOURCE])))
  ∧ (∀ s : State, s.dev.board.mck = true → s.dev.get F.PW_STATUS_PHASE = 3 → s.dev.pw.wakeLater = none →
      s.dev.pw.target = 3 →
    completes .pwStateReached s (fun d => d.get F.PW_STATUS_STATE = 3 ∧ d.get F.PW_STATUS_PHASE = 4
      ∧ d.clk.root = Loop.OFF ∧ d.clk.rootGated = true ∧ (∀ k, d.slave k = Loop.OFF)
      ∧ d.get F.CK_STATUS_MT_COARSE = 1 ∧ (∀ k, k < 24 → d.get (F.LQ_QLOOP_STATE (quadUnit k)) = 0)
      ∧ (∀ n, d.zone n = s.dev.zone n) ∧ d.clk.mt = s.dev.clk.mt ∧ d.clk.epoch = s.dev.clk.epoch))
  ∧ (∀ s : State, s.dev.board.mck = true → s.dev.get F.PW_STATUS_PHASE = 3 → s.dev.pw.wakeLater = none →
      s.dev.pw.target = 4 →
    completesMem .pwStateReached s (fun d m => d.get F.PW_STATUS_STATE = 4 ∧ d.get F.PW_STATUS_PHASE = 4
      ∧ d.clk.root = Loop.OFF ∧ d.clk.mt = s.dev.clk.mt ∧ d.zones = [] ∧ m.frames = []
      ∧ (∀ k ∈ fabricDies, s.dev.fenced k = false → d.get (F.BR_STATUS_STATE (U.BR k)) = Br.DOWN)
      ∧ m.pool = s.mem.pool.filter (fun e => bit (s.dev.get F.PW_RET_POOL_BANKS) (wordBank e.1))))

/-- A wake by the host (TARGET RUN) in a reached state records source 0x80 and restarts the loops that the state stopped; in
RUN it does nothing, and while an entry or a wake is in progress it is refused with BUSY. The end of the wake from DOZE and
NAP gives RUN, raises PW_WAKE and starts every gated clock: after NAP on the reference with SRC REF. After DORMANT the dies
come up once the gate is closed, and the pool banks that were not retained are filled with zeros. -/
def Obligations.PowerWakes : Prop :=
  (∀ s : State, s.dev.board.mck = true → s.dev.get F.PW_STATUS_PHASE = 4 → s.dev.get F.PW_STATUS_STATE ≤ 2 →
    completes .pwWakeCommand s (fun d => d.get F.PW_STATUS_PHASE = 5 ∧ d.get F.PW_WAKE_SRC_SOURCE = 0x80
      ∧ d.get F.PW_CMD_GO = 1 ∧ d.pw = { s.dev.pw with wakeLater := none, wakeMt := s.dev.clk.copies }
      ∧ s.dev.Only d [.pw] (fieldsOf [F.PW_STATUS_PHASE, F.PW_WAKE_SRC_SOURCE, F.PW_CMD_GO, F.PW_CMD_TARGET])))
  ∧ (∀ s : State, s.dev.board.mck = true → s.dev.get F.PW_STATUS_PHASE = 4 → 3 ≤ s.dev.get F.PW_STATUS_STATE →
      s.dev.get F.PW_STATUS_STATE ≤ 4 →
    completes .pwWakeCommand s (fun d => d.get F.PW_STATUS_PHASE = 5 ∧ d.get F.PW_WAKE_SRC_SOURCE = 0x80
      ∧ d.clk.root = Loop.ACQUIRING ∧ d.pw.loopsRestart = true
      ∧ d.pw.regating = decide (s.dev.get F.PW_STATUS_STATE = 4)
      ∧ (∀ k ∈ fabricDies, d.slave k = if s.dev.get F.PW_STATUS_STATE = 3 ∧ s.dev.fenced k = false then Loop.ACQUIRING
          else s.dev.slave k)
      ∧ s.dev.Only d [.pw, .clk] (fieldsOf [F.PW_STATUS_PHASE, F.PW_WAKE_SRC_SOURCE, F.PW_CMD_GO, F.PW_CMD_TARGET])))
  ∧ (∀ s : State, s.dev.get F.PW_STATUS_PHASE = 0 → s.dev.get F.PW_STATUS_STATE = 0 →
    completes .pwWakeCommand s (fun d => s.dev.Only d [] (fieldsOf [F.PW_CMD_TARGET])))
  ∧ (∀ s : State, s.dev.board.mck = true → s.dev.get F.PW_STATUS_PHASE ∈ [2, 3, 5] →
      (∀ e, e < 128 → s.dev.wakeEnabled e = false) →
    completes .pwWakeCommand s (fun d => d.get F.PW_REFUSE_REASON = Reason.busy.code ∧ d.get F.PW_REFUSER_UNIT = U.PW
      ∧ d.get F.PW_STATUS_PHASE = s.dev.get F.PW_STATUS_PHASE ∧ s.dev.OnlyNoted d [] (fieldsOf [])))
  ∧ (∀ s : State, s.dev.board.mck = true → s.dev.get F.PW_STATUS_PHASE = 5 →
      (s.dev.get F.PW_STATUS_STATE = 1 ∨ s.dev.get F.PW_STATUS_STATE = 2) → s.dev.gaf.pend = none →
      s.dev.clk.osc = Osc.STABLE → s.dev.thermHold = false →
      (∀ n ∈ s.dev.pw.stops, s.dev.zcState n = Zc.GATED ∧ s.dev.lehrHeld n = false
        ∧ (s.dev.zone n).clk.wait = .none) →
      s.dev.pw.stops.Nodup → (∀ n ∈ zoneNumbers, n ∉ s.dev.pw.stops → s.dev.zcState n ≠ Zc.GATED) →
    completes .pwWakeDone s (fun d => d.get F.PW_STATUS_STATE = 0 ∧ d.get F.PW_STATUS_PHASE = 0
      ∧ d.get F.PW_CMD_GO = 0 ∧ d.latched Ev.PW_WAKE = true ∧ d.pw.stops = []
      ∧ (∀ n ∈ s.dev.pw.stops, (s.dev.get F.PW_STATUS_STATE = 2 ∨ (s.dev.zone n).clk.heldRef = true) →
          d.zcState n = Zc.REF ∧ d.get (F.ZN_CLK_STATUS_DIV_NOW (zoneUnit n)) = 0)
      ∧ (∀ n ∈ s.dev.pw.stops, s.dev.get F.PW_STATUS_STATE = 2 → (s.dev.zone n).clk.heldRef = false →
          d.get (F.ZN_CLK_CTL_SRC (zoneUnit n)) = 1
          ∧ d.get (F.ZN_CLK_CTL_DIV (zoneUnit n)) = s.dev.get (F.ZN_CLK_CTL_DIV (zoneUnit n))
          ∧ (d.zone n).noAlign = true)
      ∧ (∀ n ∈ s.dev.pw.stops, s.dev.get F.PW_STATUS_STATE = 1 → (s.dev.zone n).clk.heldRef = false →
          s.dev.loopLocked n = true → d.zcState n = Zc.ROOT
          ∧ d.get (F.ZN_CLK_STATUS_DIV_NOW (zoneUnit n)) = (s.dev.zone n).clk.heldDiv % 8192
          ∧ (d.zone n).clk.lastEdge = alignedFrom s.dev.clk.epoch (s.dev.zone n).clk.heldDiv
              (Tab.get (fun _ => 0) s.dev.pw.wakeMt (zoneDie n) + 8))
      ∧ (∀ n, n ∉ s.dev.pw.stops → d.zone n = s.dev.zone n)
      ∧ s.dev.OnlyNoted d [.pw, .zones] (fun f => zoneClkReg f.key)))
  ∧ (∀ s : State, s.dev.get F.PW_STATUS_PHASE ≠ 5 → completes .pwWakeDone s (fun d => d = s.dev))
  ∧ (∀ (s : State) (ups : DiesUp), s.dev.board.mck = true → s.dev.pw.regating = true → s.dev.pw.up = false →
      s.dev.clk.osc ≠ Osc.STABLE →
    completesMem (.dormantGateClosed ups) s (fun d m => d.pw = { s.dev.pw with up := true }
      ∧ d.get F.RS_STATUS_STATE = Rs.MGMT_ONLY ∧ d.rst.fill = 0
      ∧ m.pool = s.mem.pool.filter (fun e => !((List.range 32).filter (fun n => bit s.dev.rst.fill n)).contains
          (wordBank e.1))
      ∧ (∀ k ∈ fabricDies, s.dev.fenced k = false → d.dieReady k = false ∧ d.dieHasFailed k = false)
      ∧ s.dev.Only d [.pw, .rst] (fieldsOf [F.RS_STATUS_STATE, F.RS_STATUS_DIE_READY, F.RS_DIE_FAIL_F1.reg])))
  ∧ (∀ (s : State) (ups : DiesUp), s.dev.board.mck = true → s.dev.pw.regating = true → s.dev.pw.up = false →
      s.dev.clk.osc = Osc.STABLE → s.dev.board.vccint = true → s.dev.clk.root = Loop.LOCKED →
      (∀ k ∈ fabricDies, s.dev.fenced k = false) → s.dev.rst.late = [] →
      (∀ k ∈ fabricDies, s.dev.jobRuns k = false) →
    completesMem (.dormantGateClosed ups) s (fun d _ => d.pw = { s.dev.pw with up := true } ∧ d.rst.late = fabricDies
      ∧ d.get F.RS_STATUS_STATE = Rs.LOOPS ∧ (∀ k ∈ fabricDies, d.slave k = Loop.ACQUIRING)))
  ∧ (∀ (s : State) (ups : DiesUp), (s.dev.pw.regating = false ∨ s.dev.pw.up = true) →
    completesMem (.dormantGateClosed ups) s (fun d m => d = s.dev ∧ m = s.mem))

/-! ## Events (chapter 19) -/

/-- A raise of an event that latches, while no power entry or state is under way and MCK runs (MCK_RANGE needs no MCK), sets
the event's bit, adds one to its count of 16 bits and records its unit, and leaves every other bit, count and unit. In any
power state the bit is set. Without MCK the latches, counts and units stay. A source on a fenced die, or on a fabric die in
DORMANT, raises nothing. -/
def Obligations.RaisesAreLatched : Prop :=
  (∀ (s : State) (ev : Fin 128) (unit : BitVec 12) (payload : BitVec 32), s.dev.rst.por = false →
      neverLatches ev.val = false → (unitDie unit.toNat = 0 ∨ (s.dev.fenced (unitDie unit.toNat) = false
        ∧ s.dev.dormant = false)) →
      s.dev.get F.PW_STATUS_PHASE = 0 → (s.dev.board.mck = true ∨ ev.val = Ev.MCK_RANGE) →
    completes (.eventRaise ev unit payload) s (fun d => d.latched ev.val = true
      ∧ Tab.get (fun _ => 0) d.ev.count ev.val = (Tab.get (fun _ => 0) s.dev.ev.count ev.val + 1) % 65536
      ∧ Tab.get (fun _ => 0) d.ev.unit ev.val = unit.toNat
      ∧ (∀ e, e < 128 → e ≠ ev.val → d.latched e = s.dev.latched e
          ∧ Tab.get (fun _ => 0) d.ev.count e = Tab.get (fun _ => 0) s.dev.ev.count e
          ∧ Tab.get (fun _ => 0) d.ev.unit e = Tab.get (fun _ => 0) s.dev.ev.unit e)
      ∧ s.dev.OnlyNoted d [] (fieldsOf [])))
  ∧ (∀ (s : State) (ev : Fin 128) (unit : BitVec 12) (payload : BitVec 32), s.dev.rst.por = false →
      neverLatches ev.val = false → s.dev.silent unit.toNat = false →
      (s.dev.board.mck = true ∨ ev.val = Ev.MCK_RANGE) →
    completes (.eventRaise ev unit payload) s (fun d => d.latched ev.val = true))
  ∧ (∀ (s : State) (ev : Fin 128) (unit : BitVec 12) (payload : BitVec 32), s.dev.rst.por = false →
      s.dev.get F.PW_STATUS_PHASE = 0 → s.dev.board.mck = false → ev.val ≠ Ev.MCK_RANGE →
    completes (.eventRaise ev unit payload) s (fun d => (∀ e, e < 128 → d.latched e = s.dev.latched e)
      ∧ d.ev.count = s.dev.ev.count ∧ d.ev.unit = s.dev.ev.unit))
  ∧ (∀ (s : State) (ev : Fin 128) (unit : BitVec 12) (payload : BitVec 32), unitDie unit.toNat ≠ 0 →
      (s.dev.fenced (unitDie unit.toNat) = true ∨ s.dev.dormant = true) →
    completes (.eventRaise ev unit payload) s (fun d => d = s.dev))

/-- A raise joins the end of the delivery queue with the subscription mask of its event, or, with 64 waiting, is counted as
lost. Delivery takes the oldest raise and issues from stop 6 one EVT of class 3 for each zone of the mask, in ascending
order, with the unit of Table 19.1, from which event, unit, payload and time are read back. A zone's write of EV_USER_RAISE
raises USERn for it; another initiator's write is refused with NOT_OWNER at index 0x19 and raises no user event. -/
def Obligations.EventDelivery : Prop :=
  (∀ (s : State) (ev : Fin 128) (unit : BitVec 12) (payload : BitVec 32), s.dev.rst.por = false →
      s.dev.silent unit.toNat = false → s.dev.get F.PW_STATUS_PHASE = 0 →
    completes (.eventRaise ev unit payload) s (fun d =>
      (s.dev.ev.queue.length < 64 → d.ev.queue = s.dev.ev.queue ++ [({
          ev := ev.val, unit := unit.toNat, payload := payload.toNat, mt := s.dev.mtOf (unitDie unit.toNat) },
          s.dev.subMask ev.val)] ∧ d.get F.EV_DELIV_LOST_COUNT = s.dev.get F.EV_DELIV_LOST_COUNT)
      ∧ (64 ≤ s.dev.ev.queue.length → d.ev.queue = s.dev.ev.queue
          ∧ d.get F.EV_DELIV_LOST_COUNT = satInc 16 (s.dev.get F.EV_DELIV_LOST_COUNT))
      ∧ (bit (s.dev.get (F.EV_HOST_MASK_EVENTS (ev.val / 32))) (ev.val % 32) = true → neverLatches ev.val = false →
          s.dev.board.mck = true → d.ev.mirqLow = true)))
  ∧ (∀ (s : State) (r : Raise) (mask : Nat) (rest : List (Raise × Nat)), s.dev.ev.queue = (r, mask) :: rest →
      (s.dev.init 6).fence = none → (∀ k ∈ fabricDies, s.dev.fenced k = false) →
    completes .evtDelivery s (fun d => d.ev = { s.dev.ev with queue := rest }
      ∧ (d.init 6).port = (s.dev.init 6).port ++ (zoneNumbers.filter (bit mask)).zipIdx.map (fun (e : Nat × Nat) => {
          seq := (s.dev.init 6).nextSeq + e.2, cmd := Cmd.EVT, cls := 3, addr := zoneStop e.1 * 2 ^ 38, len := 1,
          be := 0xFFFF, data := [r.evtUnit], who := 0 })
      ∧ (∀ k, k ≠ 6 → d.init k = s.dev.init k) ∧ s.dev.Only d [.ev, .ring] (fieldsOf [])))
  ∧ (∀ s : State, s.dev.ev.queue = [] → completes .evtDelivery s (fun d => d = s.dev))
  ∧ (∀ r : Raise, r.ev < 128 → r.unit < 4096 → r.payload < 2 ^ 32 → r.mt < 2 ^ 64 → raiseOf r.evtUnit = r)
  ∧ (∀ (s : State) (z : ZoneId) (user : BitVec 5), s.dev.running = true → s.dev.silent (zoneUnit z.no) = false →
    completes (.evUserRaise (.zone z) user) s (fun d => d.latched (96 + user.toNat) = true
      ∧ Tab.get (fun _ => 0) d.ev.unit (96 + user.toNat) = zoneUnit z.no ∧ s.dev.OnlyNoted d [] (fieldsOf [])))
  ∧ (∀ (s : State) (who : Initiator) (user : BitVec 5), s.dev.running = true → isZoneKey who.key = false →
    completes (.evUserRaise who user) s (fun d => d.get F.EV_REFUSE_REASON = Reason.notOwner.code
      ∧ d.get F.EV_REFUSE_INDEX = 0x19 ∧ (∀ e, 96 ≤ e → e < 128 → d.latched e = s.dev.latched e)
      ∧ s.dev.OnlyNoted d [] (fieldsOf [F.EV_REFUSE_REASON.reg])))

/-! ## User I/O banks (chapter 20) -/

/-- A bank that Table 20.2 does not refuse is enabled; one that it refuses keeps EN at 0 and records the first reason with its
index for its die; a full refusal queue makes the write wait. An enabled bank whose supply comes to differ from its declared
VCCIO is held, with VMISMATCH and SUPPLY_WARN; any other change of class is only noted. A write of IOB_DLY gives the selected
pin new targets, and each reference cycle moves every delay of the bank one tap nearer to its target. -/
def Obligations.BanksAndDelays : Prop :=
  (∀ (s : State) (b : Fin 32), s.dev.refusalsFull (bankDie b.val) = false → s.dev.bankRefusal b.val = none →
      s.dev.get (F.IOB_CTL_EN (bankUnit b.val)) = 0 →
    completes (.iobEnable b) s (fun d => d.get (F.IOB_CTL_EN (bankUnit b.val)) = 1 ∧ b.val ∉ d.bankVolt
      ∧ (∀ k, k ≠ b.val → (k ∈ d.bankVolt ↔ k ∈ s.dev.bankVolt))
      ∧ s.dev.Only d [.bankVolt] (fieldsOf [F.IOB_CTL_EN (bankUnit b.val)])))
  ∧ (∀ (s : State) (b : Fin 32) (why : Reason) (i : Nat), s.dev.refusalsFull (bankDie b.val) = false →
      s.dev.bankRefusal b.val = some (why, i) → s.dev.get (F.IOB_CTL_EN (bankUnit b.val)) = 0 →
    completes (.iobEnable b) s (fun d => d.get (F.IOB_CTL_EN (bankUnit b.val)) = 0
      ∧ d.get (F.IOB_REFUSE_REASON (bankUnit b.val)) = why.code ∧ d.get (F.IOB_REFUSE_INDEX (bankUnit b.val)) = i % 256
      ∧ (s.dev.fenced (bankDie b.val) = false → d.refusalQueue (bankDie b.val)
          = s.dev.refusalQueue (bankDie b.val) ++ [{ unit := bankUnit b.val, reason := why.code, index := i % 256 }])
      ∧ s.dev.Only d [.refusals] (fieldsOf [(F.IOB_REFUSE_REASON (bankUnit b.val)).reg])))
  ∧ (∀ (s : State) (b : Fin 32), s.dev.refusalsFull (bankDie b.val) = true →
    completes (.iobEnable b) s (fun d => d = s.dev))
  ∧ (∀ (s : State) (b : Fin 32) (c : Fin 5), s.dev.running = true → s.dev.silent (bankUnit b.val) = false →
      s.dev.classOk b.val = true → c.val ≠ s.dev.get (F.IOB_CTL_VCCIO (bankUnit b.val)) + 1 →
      s.dev.get (F.IOB_CTL_EN (bankUnit b.val)) = 1 →
    completes (.vccioClassChange b c) s (fun d => d.bankClass b.val = c.val ∧ d.bankHeld b.val = true
      ∧ d.get (F.IOB_STATUS_VMISMATCH (bankUnit b.val)) = 1 ∧ d.latched Ev.SUPPLY_WARN = true
      ∧ s.dev.OnlyNoted d [.board, .bankVolt] (fieldsOf [F.IOB_STATUS_VMISMATCH (bankUnit b.val)])))
  ∧ (∀ (s : State) (b : Fin 32) (c : Fin 5), (s.dev.classOk b.val = false
        ∨ c.val = s.dev.get (F.IOB_CTL_VCCIO (bankUnit b.val)) + 1
        ∨ s.dev.get (F.IOB_CTL_EN (bankUnit b.val)) = 0) →
    completes (.vccioClassChange b c) s (fun d => d.bankClass b.val = c.val
      ∧ (∀ k, k ≠ b.val → d.bankClass k = s.dev.bankClass k) ∧ s.dev.Only d [.board] (fieldsOf [])))
  ∧ (∀ s : State, s.dev.clk.osc = Osc.STABLE →
    completes .ioCalibration s (fun d => d.calSeen = min 2 (s.dev.calSeen + 1)
      ∧ s.dev.Only d [.calSeen] (fieldsOf [])))
  ∧ (∀ s : State, s.dev.clk.osc ≠ Osc.STABLE → completes .ioCalibration s (fun d => d = s.dev))
  ∧ (∀ (s : State) (b : Fin 32) (out inp : Fin 512), s.dev.refusalsFull (bankDie b.val) = false →
    completes (.iobDlyWrite b out inp) s (fun d =>
      (let i := s.dev.get (F.IOB_PIN_SEL_PIN (bankUnit b.val))
       d.pin b.val i = { s.dev.pin b.val i with outTgt := out.val, inTgt := inp.val }
       ∧ (∀ k j, (k ≠ b.val ∨ j ≠ i) → d.pin k j = s.dev.pin k j)) ∧ s.dev.Only d [.banks] (fieldsOf [])))
  ∧ (∀ (s : State) (b : Fin 32), s.dev.clk.osc = Osc.STABLE →
      Tab.wf (fun _ => PinState.unused) (s.dev.pins b.val) = true →
    completes (.ioDelayStep b) s (fun d => (∀ i, d.pin b.val i =
        { s.dev.pin b.val i with
          outNow := stepTo (s.dev.pin b.val i).outNow (s.dev.pin b.val i).outTgt,
          inNow := stepTo (s.dev.pin b.val i).inNow (s.dev.pin b.val i).inTgt })
      ∧ (∀ k i, k ≠ b.val → d.pin k i = s.dev.pin k i) ∧ s.dev.Only d [.banks] (fieldsOf [])))
  ∧ (∀ (s : State) (b : Fin 32), s.dev.clk.osc ≠ Osc.STABLE →
    completes (.ioDelayStep b) s (fun d => d = s.dev))

/-! ## The machine I/O pins and the crossbar (chapter 21) -/

/-- MLINK enables a group whose pins pass R553 and of which none is SECURE; a failing pin gives its reason and number, another
writer NOT_OWNER. A pin's MAP is taken from its owner, field by field, a field that it leaves as it is without a check; its
OWNER from its owner or, for a ZONE pin, from MLINK, and not once it is SECURE. GENk takes EN, DIR and ZONE unless it is in
use, its defaults always. FORCE_SAFE puts every pin into its safe state. An edge of EVIk that IOX_EVI_CFG selects raises
MIO_EDGE with k and the level. -/
def Obligations.CrossbarCommands : Prop :=
  (∀ (s : State) (g : Fin 8), s.dev.board.mck = true → s.dev.groupWritable 1 g.val = true →
      s.dev.get (F.IOX_GRP_CTL_EN g.val) = 0 → s.dev.groupBad g.val = none →
    completes (.ioxGroupEnable .mlink g) s (fun d => d.get (F.IOX_GRP_CTL_EN g.val) = 1
      ∧ d.get (F.IOX_GRP_CTL_MODE g.val) = s.dev.get (F.IOX_GRP_CTL_MODE g.val)
      ∧ (s.dev.running = true → s.dev.portsOff = true →
          s.dev.OnlyNoted d [.xbConf] (fieldsOf [F.IOX_GRP_CTL_EN g.val]))))
  ∧ (∀ (s : State) (g : Fin 8) (why : Reason) (p : Nat), s.dev.running = true → s.dev.groupWritable 1 g.val = true →
      s.dev.get (F.IOX_GRP_CTL_EN g.val) = 0 → s.dev.groupBad g.val = some (why, p) → s.dev.portsOff = true →
    completes (.ioxGroupEnable .mlink g) s (fun d => d.get (F.IOX_GRP_CTL_EN g.val) = 0
      ∧ d.get F.IOX_REFUSE_REASON = why.code ∧ d.get F.IOX_REFUSE_INDEX = p % 256
      ∧ s.dev.OnlyNoted d [.xbConf] (fieldsOf [F.IOX_REFUSE_REASON.reg])))
  ∧ (∀ (s : State) (who : Initiator) (g : Fin 8), s.dev.running = true → s.dev.groupWritable who.key g.val = false →
    completes (.ioxGroupEnable who g) s (fun d => d.get F.IOX_REFUSE_REASON = Reason.notOwner.code
      ∧ s.dev.OnlyNoted d [] (fieldsOf [F.IOX_REFUSE_REASON.reg])))
  ∧ (∀ (s : State) (who : Initiator) (p : Fin 64) (a b c : BitVec 8), s.dev.running = true →
      s.dev.pinOwned who.key p.val = true → s.dev.portsOff = true →
    completes (.ioxPinMapWrite who p a b c) s (fun d =>
      d.get (F.IOX_PIN_MAP_IN p.val) = (if s.dev.mapWriteBad (F.IOX_PIN_MAP_IN p.val) true a.toNat = none then
          a.toNat else s.dev.get (F.IOX_PIN_MAP_IN p.val))
      ∧ d.get (F.IOX_PIN_MAP_OUT_B p.val) = (if s.dev.mapWriteBad (F.IOX_PIN_MAP_OUT_B p.val) false b.toNat = none then
          b.toNat else s.dev.get (F.IOX_PIN_MAP_OUT_B p.val))
      ∧ d.get (F.IOX_PIN_MAP_OUT_A p.val) = (if s.dev.mapWriteBad (F.IOX_PIN_MAP_OUT_A p.val) false c.toNat = none then
          c.toNat else s.dev.get (F.IOX_PIN_MAP_OUT_A p.val))
      ∧ (∀ why, s.dev.mapWhy p.val a.toNat b.toNat c.toNat = some why → d.get F.IOX_REFUSE_REASON = why.code
          ∧ d.get F.IOX_REFUSE_INDEX = p.val)
      ∧ (s.dev.mapWhy p.val a.toNat b.toNat c.toNat = none → d.get F.IOX_REFUSE_REASON = s.dev.get F.IOX_REFUSE_REASON)
      ∧ s.dev.OnlyNoted d [.xbConf] (fieldsOf [F.IOX_PIN_MAP_IN p.val, F.IOX_PIN_MAP_OUT_B p.val,
          F.IOX_PIN_MAP_OUT_A p.val, F.IOX_REFUSE_REASON.reg])))
  ∧ (∀ (s : State) (who : Initiator) (p : Fin 64) (a b c : BitVec 8), s.dev.running = true →
      s.dev.pinOwned who.key p.val = false →
    completes (.ioxPinMapWrite who p a b c) s (fun d => d.get F.IOX_REFUSE_REASON = Reason.notOwner.code
      ∧ d.get F.IOX_REFUSE_INDEX = p.val ∧ s.dev.OnlyNoted d [] (fieldsOf [F.IOX_REFUSE_REASON.reg])))
  ∧ (∀ (s : State) (who : Initiator) (p : Fin 64) (k : BitVec 2) (u : BitVec 12), s.dev.board.mck = true →
      s.dev.get (F.IOX_PIN_OWNER_KIND p.val) ≠ 1 →
      (s.dev.pinOwned who.key p.val = true ∨ (s.dev.get (F.IOX_PIN_OWNER_KIND p.val) = 2 ∧ who = .mlink)) →
      (k.toNat < 2 ∨ (k.toNat = 2 ∧ ∃ z : ZoneId, u.toNat = zoneUnit z.no)) →
    completes (.ioxPinOwnerWrite who p k u) s (fun d => d.get (F.IOX_PIN_OWNER_KIND p.val) = k.toNat
      ∧ d.get (F.IOX_PIN_OWNER_UNIT p.val) = (if k.toNat = 2 then u.toNat else 0)
      ∧ s.dev.Only d [] (fieldsOf [F.IOX_PIN_OWNER_KIND p.val, F.IOX_PIN_OWNER_UNIT p.val])))
  ∧ (∀ (s : State) (who : Initiator) (p : Fin 64) (k : BitVec 2) (u : BitVec 12), s.dev.running = true →
      (s.dev.get (F.IOX_PIN_OWNER_KIND p.val) = 1 ∨ (s.dev.pinOwned who.key p.val = false
        ∧ ¬(s.dev.get (F.IOX_PIN_OWNER_KIND p.val) = 2 ∧ who = .mlink))) →
    completes (.ioxPinOwnerWrite who p k u) s (fun d => d.get F.IOX_REFUSE_REASON = Reason.notOwner.code
      ∧ d.get F.IOX_REFUSE_INDEX = p.val ∧ s.dev.OnlyNoted d [] (fieldsOf [F.IOX_REFUSE_REASON.reg])))
  ∧ (∀ (s : State) (k : Fin 64) (en oe v dir : Bool) (z : Fin 64), s.dev.board.mck = true →
      s.dev.genInUse k.val = false →
    completes (.ioxGenCfgWrite k en oe v dir z) s (fun d => d.get (F.IOX_GEN_CFG_EN k.val) = b2n en
      ∧ d.get (F.IOX_GEN_CFG_DIR k.val) = b2n dir ∧ d.get (F.IOX_GEN_CFG_ZONE k.val) = z.val
      ∧ d.get (F.IOX_GEN_CFG_DEF_OE k.val) = b2n oe ∧ d.get (F.IOX_GEN_CFG_DEF_VAL k.val) = b2n v
      ∧ (s.dev.running = true → s.dev.portsOff = true → s.dev.OnlyNoted d [.xbConf] (fieldsOf [F.IOX_GEN_CFG_EN k.val,
          F.IOX_GEN_CFG_DIR k.val, F.IOX_GEN_CFG_ZONE k.val, F.IOX_GEN_CFG_DEF_OE k.val, F.IOX_GEN_CFG_DEF_VAL k.val]))))
  ∧ (∀ (s : State) (k : Fin 64) (en oe v dir : Bool) (z : Fin 64), s.dev.running = true → s.dev.portsOff = true →
      s.dev.genInUse k.val = true →
      (b2n en ≠ s.dev.get (F.IOX_GEN_CFG_EN k.val) ∨ b2n dir ≠ s.dev.get (F.IOX_GEN_CFG_DIR k.val)
        ∨ z.val ≠ s.dev.get (F.IOX_GEN_CFG_ZONE k.val)) →
    completes (.ioxGenCfgWrite k en oe v dir z) s (fun d => d.get F.IOX_REFUSE_REASON = Reason.busy.code
      ∧ d.get (F.IOX_GEN_CFG_DEF_OE k.val) = b2n oe ∧ d.get (F.IOX_GEN_CFG_DEF_VAL k.val) = b2n v
      ∧ s.dev.OnlyNoted d [.xbConf] (fieldsOf [F.IOX_GEN_CFG_DEF_OE k.val, F.IOX_GEN_CFG_DEF_VAL k.val,
          F.IOX_REFUSE_REASON.reg])))
  ∧ (∀ (s : State) (on : Bool), s.dev.board.mck = true →
    completes (.ioxForceSafe on) s (fun d => d.get F.IOX_CTL_FORCE_SAFE = b2n on
      ∧ (on = true → s.dev.mioOff = false →
          ∀ p, d.pinDrive p = (bit s.dev.orm.opt.mioVal p, bit s.dev.orm.opt.mioOe p))
      ∧ s.dev.Only d [] (fieldsOf [F.IOX_CTL_FORCE_SAFE])))
  ∧ (∀ (s : State) (k : Fin 16) (p : Nat) (level : Bool), s.dev.running = true → s.dev.pSvc = true →
      s.dev.routed (0x40 + k.val) p = true →
      level ≠ bit s.dev.eviSeen k.val → (k.val < 8 → s.dev.idState k.val = 0) →
      s.dev.ev.queue.length < 64 →
      bit (s.dev.get F.IOX_EVI_CFG_EDGE) (2 * k.val + b2n (!level)) = true →
    completes (.eviEdge k level) s (fun d => d.padLevel p = level ∧ bit d.eviSeen k.val = level
      ∧ d.latched Ev.MIO_EDGE = true
      ∧ (∃ m, (d.ev.queue.getLast?).map (·.1) = some {
          ev := Ev.MIO_EDGE, unit := U.IOX, payload := k.val + 16 * b2n level, mt := m })
      ∧ s.dev.OnlyNoted d [.board, .eviSeen] (fieldsOf [])))
  ∧ (∀ (s : State) (k : Fin 16) (p : Nat) (level : Bool), s.dev.pSvc = true → s.dev.routed (0x40 + k.val) p = true →
      (k.val < 8 → s.dev.idState k.val = 0) →
      bit (s.dev.get F.IOX_EVI_CFG_EDGE) (2 * k.val + b2n (!level)) = false →
    completes (.eviEdge k level) s (fun d => d.padLevel p = level ∧ bit d.eviSeen k.val = level
      ∧ s.dev.Only d [.board, .eviSeen] (fieldsOf [])))

/-! ## The motion front end and the cam engines (chapter 22) -/

/-- Writing EN to 1 sets the position of an encoder to 0 unless a field is reserved. In quadrature mode a change of A or of B
moves the position by one, up when A leads B and DIR is 0; a change of both is fault ILLEGAL and moves nothing. A counting Z
latches the position, and in ZMODE 2 the first Z sets it to 0. An SSI frame starts with B high and at its end moves the
position by the signed difference from the last frame (SSI_JUMP if it is too large), or is fault SSI_FRAME. Reading POS_LO
captures POS_HI. A window of 1 ms notes every encoder's span. -/
def Obligations.EncoderCommands : Prop :=
  (∀ (s : State) (k : Fin 8), s.dev.board.mck = true → s.dev.get (F.MFE_ENC_CFG_EN k.val) = 0 →
      s.dev.encBad k.val = false → s.dev.unfollowed k.val = true →
    completes (.mfeEncEnable k) s (fun d => d.get (F.MFE_ENC_CFG_EN k.val) = 1 ∧ (d.encoder k.val).pos = 0
      ∧ (d.encoder k.val).zRef = 0 ∧ (d.encoder k.val).zFirst = true ∧ (d.encoder k.val).frame = none
      ∧ (∀ j, j ≠ k.val → d.encoder j = s.dev.encoder j)
      ∧ (s.dev.running = true →
          s.dev.OnlyNoted d [.enc, .xbConf, .free] (fieldsOf [F.MFE_ENC_CFG_EN k.val]))))
  ∧ (∀ (s : State) (k : Fin 8), s.dev.running = true → s.dev.get (F.MFE_ENC_CFG_EN k.val) = 0 →
      s.dev.encBad k.val = true →
    completes (.mfeEncEnable k) s (fun d => d.get (F.MFE_ENC_CFG_EN k.val) = 0
      ∧ d.get F.MFE_REFUSE_REASON = Reason.reservedValue.code
      ∧ s.dev.OnlyNoted d [] (fieldsOf [F.MFE_REFUSE_REASON.reg])))
  ∧ (∀ (s : State) (k : Fin 8) (a b : Bool) (p q : Nat), s.dev.pSvc = true →
      s.dev.routed (1 + 3 * k.val) p = true → s.dev.routed (2 + 3 * k.val) q = true → p ≠ q →
      s.dev.get (F.MFE_ENC_CFG_EN k.val) = 1 → s.dev.get (F.MFE_ENC_CFG_MODE k.val) = 0 →
      (a != (s.dev.encoder k.val).a) = !(b != (s.dev.encoder k.val).b) →
      s.dev.unfollowed k.val = true → s.dev.zCounts k.val = false →
    completes (.encoderTransition k a b) s (fun d =>
      (d.encoder k.val).pos = posAdd (s.dev.encoder k.val).pos
        (if (quadPhase a b = (quadPhase (s.dev.encoder k.val).a (s.dev.encoder k.val).b + 1) % 4)
            ↔ s.dev.get (F.MFE_ENC_CFG_DIR k.val) = 0 then 1 else -1)
      ∧ (d.encoder k.val).a = a ∧ (d.encoder k.val).b = b ∧ (∀ j, j ≠ k.val → d.encoder j = s.dev.encoder j)
      ∧ s.dev.Only d [.board, .enc] (fieldsOf [])))
  ∧ (∀ (s : State) (k : Fin 8) (a b : Bool) (p q : Nat), s.dev.running = true → s.dev.pSvc = true →
      s.dev.routed (1 + 3 * k.val) p = true → s.dev.routed (2 + 3 * k.val) q = true → p ≠ q →
      s.dev.get (F.MFE_ENC_CFG_EN k.val) = 1 → s.dev.get (F.MFE_ENC_CFG_MODE k.val) = 0 →
      a ≠ (s.dev.encoder k.val).a → b ≠ (s.dev.encoder k.val).b →
    completes (.encoderTransition k a b) s (fun d => (d.encoder k.val).pos = (s.dev.encoder k.val).pos
      ∧ bit (d.get (F.MFE_ENC_STATUS_FAULT k.val)) 0 = true
      ∧ d.get (F.MFE_ENC_STATUS_FAULT_CNT k.val) = satInc 16 (s.dev.get (F.MFE_ENC_STATUS_FAULT_CNT k.val))
      ∧ (bit (s.dev.get (F.MFE_ENC_STATUS_FAULT k.val)) 0 = false → d.latched Ev.ENCODER_FAULT = true)
      ∧ s.dev.OnlyNoted d [.board, .enc] (fieldsOf [F.MFE_ENC_STATUS_FAULT k.val, F.MFE_ENC_STATUS_FAULT_CNT k.val])))
  ∧ (∀ (s : State) (k : Fin 8) (p : Nat), s.dev.pSvc = true → s.dev.zCounts k.val = true →
      s.dev.sigPins (3 + 3 * k.val) = [p] →
      ¬(s.dev.get (F.MFE_ENC_CFG_ZMODE k.val) = 2 ∧ (s.dev.encoder k.val).zFirst = true) →
    completes (.encoderZPulse k) s (fun d =>
      d.get (F.MFE_ENC_ZPOS_POS k.val) = (s.dev.encoder k.val).pos % 2 ^ 32
      ∧ d.encoder k.val = { s.dev.encoder k.val with zRef := (s.dev.encoder k.val).pos, zFirst := false }
      ∧ s.dev.Only d [.enc] (fieldsOf [F.MFE_ENC_ZPOS_POS k.val])))
  ∧ (∀ (s : State) (k : Fin 8) (p : Nat), s.dev.pSvc = true → s.dev.zCounts k.val = true →
      s.dev.sigPins (3 + 3 * k.val) = [p] → s.dev.get (F.MFE_ENC_CFG_ZMODE k.val) = 2 →
      (s.dev.encoder k.val).zFirst = true → s.dev.unfollowed k.val = true →
    completes (.encoderZPulse k) s (fun d =>
      d.get (F.MFE_ENC_ZPOS_POS k.val) = (s.dev.encoder k.val).pos % 2 ^ 32 ∧ (d.encoder k.val).pos = 0
      ∧ (d.encoder k.val).zFirst = false ∧ s.dev.Only d [.enc] (fieldsOf [F.MFE_ENC_ZPOS_POS k.val])))
  ∧ (∀ (s : State) (k : Fin 8), s.dev.zCounts k.val = false →
    completes (.encoderZPulse k) s (fun d => d = s.dev))
  ∧ (∀ (s : State) (k : Fin 8) (b : Bool) (q : Nat), s.dev.pSvc = true → s.dev.clk.osc = Osc.STABLE →
      s.dev.routed (2 + 3 * k.val) q = true → s.dev.get (F.MFE_ENC_CFG_EN k.val) = 1 →
      s.dev.get (F.MFE_ENC_CFG_MODE k.val) = 1 → (s.dev.encoder k.val).frame = none →
    completes (.ssiPoll k b) s (fun d => d.encoder k.val = { s.dev.encoder k.val with frame := some b }
      ∧ s.dev.Only d [.board, .enc] (fieldsOf [])))
  ∧ (∀ (s : State) (k : Fin 8) (b : Bool), (s.dev.encoder k.val).frame.isSome = true →
    completes (.ssiPoll k b) s (fun d => d = s.dev))
  ∧ (∀ (s : State) (k : Fin 8) (raw : BitVec 48) (q : Nat), s.dev.running = true → s.dev.pSvc = true →
      s.dev.routed (2 + 3 * k.val) q = true → (s.dev.encoder k.val).frame = some true →
      s.dev.get (F.MFE_ENC_CFG_GRAY k.val) = 0 → s.dev.get (F.MFE_ENC_CFG_MODE k.val) = 1 →
      10 ≤ s.dev.get (F.MFE_ENC_CFG_BITS k.val) → s.dev.unfollowed k.val = true →
    completes (.ssiFrameEnd k raw true) s (fun d =>
      (let w := s.dev.get (F.MFE_ENC_CFG_BITS k.val)
       let e := s.dev.encoder k.val
       let diff := signed w (raw.toNat % 2 ^ w + (2 ^ w - e.vPrev % 2 ^ w))
       (d.encoder k.val).pos = posAdd e.pos diff ∧ (d.encoder k.val).vPrev = raw.toNat % 2 ^ w
       ∧ (d.encoder k.val).frame = none
       ∧ (2 ^ (w - 2) < diff.natAbs → bit (d.get (F.MFE_ENC_STATUS_FAULT k.val)) 3 = true)
       ∧ (diff.natAbs ≤ 2 ^ (w - 2) → d.get (F.MFE_ENC_STATUS_FAULT k.val) = s.dev.get (F.MFE_ENC_STATUS_FAULT k.val)))
      ∧ s.dev.OnlyNoted d [.board, .enc] (fieldsOf [F.MFE_ENC_STATUS_FAULT k.val, F.MFE_ENC_STATUS_FAULT_CNT k.val])))
  ∧ (∀ (s : State) (k : Fin 8) (raw : BitVec 48) (b high : Bool) (q : Nat), s.dev.running = true → s.dev.pSvc = true →
      s.dev.routed (2 + 3 * k.val) q = true → (s.dev.encoder k.val).frame = some high → (high && b) = false →
    completes (.ssiFrameEnd k raw b) s (fun d => d.encoder k.val = { s.dev.encoder k.val with frame := none }
      ∧ bit (d.get (F.MFE_ENC_STATUS_FAULT k.val)) 2 = true
      ∧ d.get (F.MFE_ENC_STATUS_FAULT_CNT k.val) = satInc 16 (s.dev.get (F.MFE_ENC_STATUS_FAULT_CNT k.val))
      ∧ (bit (s.dev.get (F.MFE_ENC_STATUS_FAULT k.val)) 2 = false → d.latched Ev.ENCODER_FAULT = true)
      ∧ s.dev.OnlyNoted d [.board, .enc] (fieldsOf [F.MFE_ENC_STATUS_FAULT k.val, F.MFE_ENC_STATUS_FAULT_CNT k.val])))
  ∧ (∀ (s : State) (k : Fin 8),
    completes (.mfePosLoRead k) s (fun d =>
      d.encoder k.val = { s.dev.encoder k.val with capt := some ((s.dev.encoder k.val).pos / 2 ^ 32) }
      ∧ (∀ j, j ≠ k.val → d.encoder j = s.dev.encoder j) ∧ s.dev.Only d [.enc] (fieldsOf [])))
  ∧ (∀ s : State, s.dev.clk.osc = Osc.STABLE → s.dev.get F.MFE_STILL_CFG_EN = 0 →
    completes .standstillWindow s (fun d => (∀ k, k < 8 → d.encoder k =
        { s.dev.encoder k with
          cur := 0, low := 0, high := 0,
          spans := ((s.dev.encoder k).high - (s.dev.encoder k).low).toNat :: (s.dev.encoder k).spans.take 254 })
      ∧ d.get F.MFE_STATUS_STILL = 0 ∧ s.dev.Only d [.enc] (fieldsOf [F.MFE_STATUS_STILL])))
  ∧ (∀ s : State, s.dev.clk.osc = Osc.STABLE → s.dev.get F.MFE_STILL_CFG_EN = 1 →
      s.dev.get F.MFE_STATUS_STILL = 1 → 1 ≤ s.dev.get F.MFE_STILL_CFG_DWELL →
    completes .standstillWindow s (fun d =>
      (let e := s.dev.encoder (s.dev.get F.MFE_STILL_CFG_ENC)
       let spans := (e.high - e.low).toNat :: e.spans.take 254
       d.get F.MFE_STATUS_STILL = b2n (decide (s.dev.get F.MFE_STILL_CFG_DWELL ≤ spans.length)
         && (spans.take (s.dev.get F.MFE_STILL_CFG_DWELL)).all
           (fun x => decide (x ≤ s.dev.get F.MFE_STILL_CFG_THRESH))))
      ∧ s.dev.Only d [.enc] (fieldsOf [F.MFE_STATUS_STILL])))
  ∧ (∀ s : State, s.dev.clk.osc ≠ Osc.STABLE → completes .standstillWindow s (fun d => d = s.dev))

/-- Both commands answer a next state in every state. MARK_CHANNEL_ENABLE of a disabled channel with HIST 2 to 16, MISS_LIMIT not 0
and WINDOW at most LEAD sets EN, with STATE ACQUIRE, no outstanding prediction, no misses and an empty history (R560, R567);
otherwise it is refused. MARK_EDGE with the level that EDGE selects, on an enabled channel whose encoder has moved MASK counts
since the last accepted edge, is an accepted edge (R559). In ACQUIRE, with a running root, the first one records the encoder's
position and a machine time within two root cycles; a later one adds its interval to the history; the one with which the
history holds HIST intervals starts TRACK with the rounded mean pitch and the next predicted position (R560, R561). In TRACK
with an outstanding prediction and idle cam engines, one not before the window confirms the prediction, one before the window
cancels it as EARLY, and at MISS_LIMIT the channel is back in ACQUIRE with no history (R562, R564). A level that gives no
accepted edge is noted, nothing else. A count forward of the encoder that brings it to LEAD before the predicted position
issues a prediction: OUTSTANDING, the next SEQ, its log entry, MARK_PREDICT where EVT_EN is set (R561, R565, R566). -/
def Obligations.MarkChannels : Prop :=
  (∀ (s : State) (k : Fin 8) (level : Bool), ∀ c ∈ [Instr.markChannelEnable k, .markEdge k level],
    ∃ u, exec c s = .next u ∧ u.pending = s.pending)
  ∧ (∀ (s : State) (k : Fin 8), s.dev.board.mck = true → s.dev.get (F.MFE_MK_CFG_EN k.val) = 0 →
      2 ≤ s.dev.get (F.MFE_MK_CFG_HIST k.val) → s.dev.get (F.MFE_MK_CFG_HIST k.val) ≤ 16 →
      s.dev.get (F.MFE_MK_CFG_MISS_LIMIT k.val) ≠ 0 →
      s.dev.get (F.MFE_MK_WINDOW_COUNTS k.val) ≤ s.dev.get (F.MFE_MK_LEAD_COUNTS k.val) →
    completes (.markChannelEnable k) s (fun d => d.get (F.MFE_MK_CFG_EN k.val) = 1
      ∧ d.get (F.MFE_MK_STATUS_STATE k.val) = 0 ∧ d.get (F.MFE_MK_STATUS_OUTSTANDING k.val) = 0
      ∧ d.get (F.MFE_MK_STATUS_MISSES k.val) = 0 ∧ (d.mark k.val).hist = [] ∧ (d.mark k.val).last = none
      ∧ (∀ j, j ≠ k.val → d.mark j = s.dev.mark j)
      ∧ (s.dev.running = true → s.dev.OnlyNoted d [.marks, .xbConf] (fieldsOf [F.MFE_MK_CFG_EN k.val,
          F.MFE_MK_STATUS_STATE k.val, F.MFE_MK_STATUS_OUTSTANDING k.val, F.MFE_MK_STATUS_MISSES k.val]))))
  ∧ (∀ (s : State) (k : Fin 8), s.dev.running = true → s.dev.get (F.MFE_MK_CFG_EN k.val) = 0 →
      (s.dev.get (F.MFE_MK_CFG_HIST k.val) < 2 ∨ 16 < s.dev.get (F.MFE_MK_CFG_HIST k.val)
        ∨ s.dev.get (F.MFE_MK_CFG_MISS_LIMIT k.val) = 0
        ∨ s.dev.get (F.MFE_MK_LEAD_COUNTS k.val) < s.dev.get (F.MFE_MK_WINDOW_COUNTS k.val)) →
    completes (.markChannelEnable k) s (fun d => d.get (F.MFE_MK_CFG_EN k.val) = 0
      ∧ d.get F.MFE_REFUSE_REASON = (if s.dev.get (F.MFE_MK_CFG_HIST k.val) < 2
          ∨ 16 < s.dev.get (F.MFE_MK_CFG_HIST k.val) ∨ s.dev.get (F.MFE_MK_CFG_MISS_LIMIT k.val) = 0
          then Reason.reservedValue else .thresholdOrder).code
      ∧ s.dev.OnlyNoted d [] (fieldsOf [F.MFE_REFUSE_REASON.reg])))
  ∧ (∀ (s : State) (k : Fin 8) (p : Nat) (level : Bool), s.dev.pSvc = true → s.dev.routed (0x20 + k.val) p = true →
      s.dev.get (F.MFE_MK_CFG_EN k.val) = 1 → level ≠ (s.dev.mark k.val).level →
      b2n level ≠ s.dev.get (F.MFE_MK_CFG_EDGE k.val) →
      (∀ l, (s.dev.mark k.val).last = some l →
        s.dev.get (F.MFE_MK_MASK_COUNTS k.val) ≤ (posDiff (s.dev.markPos k.val) l).natAbs) →
      s.dev.get (F.MFE_MK_STATUS_STATE k.val) = 0 → s.dev.clk.rootGated = false → (s.dev.mark k.val).prev = none →
      (s.dev.mark k.val).hist.length < s.dev.get (F.MFE_MK_CFG_HIST k.val) →
    completes (.markEdge k level) s (fun d =>
      d.get (F.MFE_MK_EPOS_EPOS k.val) = s.dev.markPos k.val % 2 ^ 32
      ∧ (∃ ts, s.dev.clk.mt ≤ ts + 2 ∧ ts ≤ s.dev.clk.mt + 2 ∧ d.get (F.MFE_MK_TS_LO_TS k.val) = ts % 2 ^ 32
          ∧ d.get (F.MFE_MK_TS_HI_TS k.val) = ts / 2 ^ 32 % 2 ^ 32)
      ∧ (d.mark k.val).prev = some (s.dev.markPos k.val) ∧ (d.mark k.val).last = some (s.dev.markPos k.val)
      ∧ d.get (F.MFE_MK_STATUS_STATE k.val) = 0 ∧ (d.mark k.val).hist = (s.dev.mark k.val).hist
      ∧ s.dev.Only d [.board, .marks, .free] (fieldsOf [F.MFE_MK_TS_LO_TS k.val, F.MFE_MK_TS_HI_TS k.val,
          F.MFE_MK_EPOS_EPOS k.val])))
  ∧ (∀ (s : State) (k : Fin 8) (p : Nat) (level : Bool), s.dev.pSvc = true → s.dev.routed (0x20 + k.val) p = true →
      (s.dev.get (F.MFE_MK_CFG_EN k.val) = 0 ∨ b2n level = s.dev.get (F.MFE_MK_CFG_EDGE k.val)
        ∨ ∃ l, (s.dev.mark k.val).last = some l ∧
          (posDiff (s.dev.markPos k.val) l).natAbs < s.dev.get (F.MFE_MK_MASK_COUNTS k.val)) →
    completes (.markEdge k level) s (fun d => d.mark k.val = { s.dev.mark k.val with level := level }
      ∧ s.dev.Only d [.board, .marks] (fieldsOf [])))
  ∧ (∀ (s : State) (k : Fin 8) (p prev : Nat) (level : Bool), s.dev.pSvc = true →
      s.dev.routed (0x20 + k.val) p = true → s.dev.get (F.MFE_MK_CFG_EN k.val) = 1 →
      level ≠ (s.dev.mark k.val).level → b2n level ≠ s.dev.get (F.MFE_MK_CFG_EDGE k.val) →
      (s.dev.mark k.val).last = some prev →
      s.dev.get (F.MFE_MK_MASK_COUNTS k.val) ≤ (posDiff (s.dev.markPos k.val) prev).natAbs →
      s.dev.get (F.MFE_MK_STATUS_STATE k.val) = 0 → s.dev.clk.rootGated = false →
      (s.dev.mark k.val).prev = some prev →
      (s.dev.histAdd k.val (s.dev.mark k.val).hist (posDiff (s.dev.markPos k.val) prev)).length
        < s.dev.get (F.MFE_MK_CFG_HIST k.val) →
    completes (.markEdge k level) s (fun d =>
      (d.mark k.val).hist = s.dev.histAdd k.val (s.dev.mark k.val).hist (posDiff (s.dev.markPos k.val) prev)
      ∧ (d.mark k.val).prev = some (s.dev.markPos k.val) ∧ d.get (F.MFE_MK_STATUS_STATE k.val) = 0
      ∧ d.get (F.MFE_MK_EPOS_EPOS k.val) = s.dev.markPos k.val % 2 ^ 32
      ∧ s.dev.Only d [.board, .marks, .free] (fieldsOf [F.MFE_MK_TS_LO_TS k.val, F.MFE_MK_TS_HI_TS k.val,
          F.MFE_MK_EPOS_EPOS k.val])))
  ∧ (∀ (s : State) (k : Fin 8) (p prev : Nat) (level : Bool), s.dev.pSvc = true →
      s.dev.routed (0x20 + k.val) p = true → s.dev.get (F.MFE_MK_CFG_EN k.val) = 1 →
      level ≠ (s.dev.mark k.val).level → b2n level ≠ s.dev.get (F.MFE_MK_CFG_EDGE k.val) →
      (s.dev.mark k.val).last = some prev →
      s.dev.get (F.MFE_MK_MASK_COUNTS k.val) ≤ (posDiff (s.dev.markPos k.val) prev).natAbs →
      s.dev.get (F.MFE_MK_STATUS_STATE k.val) = 0 → s.dev.clk.rootGated = false →
      (s.dev.mark k.val).prev = some prev → s.dev.get (F.MFE_MK_STATUS_OUTSTANDING k.val) = 0 →
      (let h := s.dev.histAdd k.val (s.dev.mark k.val).hist (posDiff (s.dev.markPos k.val) prev)
       let n := s.dev.get (F.MFE_MK_CFG_HIST k.val)
       let pitch := (h.foldl (· + ·) 0 + Int.ofNat (n / 2)) / Int.ofNat n
       h.length = n ∧ posDiff (s.dev.markPos k.val) (posAdd (s.dev.markPos k.val) pitch)
          < -Int.ofNat (s.dev.get (F.MFE_MK_LEAD_COUNTS k.val))) →
    completes (.markEdge k level) s (fun d =>
      (let h := s.dev.histAdd k.val (s.dev.mark k.val).hist (posDiff (s.dev.markPos k.val) prev)
       let n := s.dev.get (F.MFE_MK_CFG_HIST k.val)
       let pitch := (h.foldl (· + ·) 0 + Int.ofNat (n / 2)) / Int.ofNat n
       d.get (F.MFE_MK_STATUS_STATE k.val) = 1 ∧ d.get (F.MFE_MK_PITCH_PITCH k.val) = unsigned 32 pitch
       ∧ (d.mark k.val).hist = h ∧ (d.mark k.val).pLast = s.dev.markPos k.val
       ∧ (d.mark k.val).pNext = posAdd (s.dev.markPos k.val) pitch
       ∧ d.get (F.MFE_MK_NEXT_NEXT k.val) = posAdd (s.dev.markPos k.val) pitch % 2 ^ 32)
      ∧ s.dev.Only d [.board, .marks, .free] (fieldsOf [F.MFE_MK_TS_LO_TS k.val, F.MFE_MK_TS_HI_TS k.val,
          F.MFE_MK_EPOS_EPOS k.val, F.MFE_MK_STATUS_STATE k.val, F.MFE_MK_PITCH_PITCH k.val,
          F.MFE_MK_NEXT_NEXT k.val])))
  ∧ (∀ (s : State) (k : Fin 8) (p : Nat) (level : Bool), s.dev.running = true → s.dev.pSvc = true →
      s.dev.routed (0x20 + k.val) p = true → s.dev.get (F.MFE_MK_CFG_EN k.val) = 1 →
      level ≠ (s.dev.mark k.val).level → b2n level ≠ s.dev.get (F.MFE_MK_CFG_EDGE k.val) →
      (∀ l, (s.dev.mark k.val).last = some l →
        s.dev.get (F.MFE_MK_MASK_COUNTS k.val) ≤ (posDiff (s.dev.markPos k.val) l).natAbs) →
      s.dev.get (F.MFE_MK_STATUS_STATE k.val) = 1 → s.dev.get (F.MFE_MK_STATUS_OUTSTANDING k.val) = 1 →
      s.dev.clk.rootGated = false → s.dev.camsIdle = true → 0 < s.dev.get (F.MFE_MK_CFG_HIST k.val) →
      -Int.ofNat (s.dev.get (F.MFE_MK_WINDOW_COUNTS k.val))
        ≤ posDiff (s.dev.markPos k.val) (s.dev.mark k.val).pNext →
      (let m := s.dev.mark k.val
       let h := s.dev.histAdd k.val m.hist (posDiff (s.dev.markPos k.val) m.pLast)
       let n := s.dev.get (F.MFE_MK_CFG_HIST k.val)
       posDiff (s.dev.markPos k.val)
          (posAdd (s.dev.markPos k.val) ((h.foldl (· + ·) 0 + Int.ofNat (n / 2)) / Int.ofNat n))
          < -Int.ofNat (s.dev.get (F.MFE_MK_LEAD_COUNTS k.val))) →
    completes (.markEdge k level) s (fun d => d.get (F.MFE_MK_STATUS_OUTSTANDING k.val) = 0
      ∧ d.get (F.MFE_MK_STATUS_MISSES k.val) = 0
      ∧ d.get (F.MFE_MK_CONFIRM_CNT_COUNT k.val) = satInc 32 (s.dev.get (F.MFE_MK_CONFIRM_CNT_COUNT k.val))
      ∧ d.get (F.MFE_MK_LOG0_STATE (logEntry k.val (s.dev.get (F.MFE_MK_STATUS_SEQ k.val)))) = 2
      ∧ (d.mark k.val).pLast = s.dev.markPos k.val
      ∧ (s.dev.get (F.MFE_MK_CFG_EVT_EN k.val) = 1 → d.latched Ev.MARK_CONFIRM = true)
      ∧ s.dev.OnlyNoted d [.board, .marks, .free] (fun f => decide (0x22200 + 64 * k.val ≤ f.key)
          && decide (f.key < 0x22240 + 64 * k.val) || f.key / 256 == (0x22800 + 256 * k.val) / 256)))
  ∧ (∀ (s : State) (k : Fin 8) (p : Nat) (level : Bool), s.dev.running = true → s.dev.pSvc = true →
      s.dev.routed (0x20 + k.val) p = true → s.dev.get (F.MFE_MK_CFG_EN k.val) = 1 →
      level ≠ (s.dev.mark k.val).level → b2n level ≠ s.dev.get (F.MFE_MK_CFG_EDGE k.val) →
      (∀ l, (s.dev.mark k.val).last = some l →
        s.dev.get (F.MFE_MK_MASK_COUNTS k.val) ≤ (posDiff (s.dev.markPos k.val) l).natAbs) →
      s.dev.get (F.MFE_MK_STATUS_STATE k.val) = 1 → s.dev.get (F.MFE_MK_STATUS_OUTSTANDING k.val) = 1 →
      s.dev.clk.rootGated = false → s.dev.camsIdle = true →
      posDiff (s.dev.markPos k.val) (s.dev.mark k.val).pNext
        < -Int.ofNat (s.dev.get (F.MFE_MK_WINDOW_COUNTS k.val)) →
      s.dev.get (F.MFE_MK_CFG_MISS_LIMIT k.val) ≤ s.dev.get (F.MFE_MK_STATUS_MISSES k.val) + 1 →
    completes (.markEdge k level) s (fun d => d.get (F.MFE_MK_STATUS_OUTSTANDING k.val) = 0
      ∧ d.get (F.MFE_MK_STATUS_STATE k.val) = 0 ∧ (d.mark k.val).hist = []
      ∧ d.get (F.MFE_MK_CANCEL_CNT_COUNT k.val) = satInc 32 (s.dev.get (F.MFE_MK_CANCEL_CNT_COUNT k.val))
      ∧ d.get (F.MFE_MK_LOG0_STATE (logEntry k.val (s.dev.get (F.MFE_MK_STATUS_SEQ k.val)))) = 3
      ∧ d.get (F.MFE_MK_LOG0_REASON (logEntry k.val (s.dev.get (F.MFE_MK_STATUS_SEQ k.val)))) = 2
      ∧ (s.dev.get (F.MFE_MK_CFG_EVT_EN k.val) = 1 → d.latched Ev.MARK_CANCEL = true)
      ∧ s.dev.OnlyNoted d [.board, .marks, .free] (fun f => decide (0x22200 + 64 * k.val ≤ f.key)
          && decide (f.key < 0x22240 + 64 * k.val) || f.key / 256 == (0x22800 + 256 * k.val) / 256)))
  ∧ (∀ (s : State) (k c : Fin 8) (p q : Nat), s.dev.running = true → s.dev.pSvc = true →
      s.dev.routed (1 + 3 * c.val) p = true → s.dev.routed (2 + 3 * c.val) q = true → p ≠ q →
      s.dev.get (F.MFE_ENC_CFG_EN c.val) = 1 → s.dev.get (F.MFE_ENC_CFG_MODE c.val) = 0 →
      s.dev.get (F.MFE_ENC_CFG_DIR c.val) = 0 → (s.dev.encoder c.val).a = false → (s.dev.encoder c.val).b = false →
      s.dev.zCounts c.val = false → s.dev.camsIdle = true →
      s.dev.get (F.MFE_MK_CFG_EN k.val) = 1 → s.dev.get (F.MFE_MK_CFG_ENC k.val) = c.val →
      (∀ j, j < 8 → j ≠ k.val → s.dev.get (F.MFE_MK_CFG_EN j) = 0) →
      s.dev.get (F.MFE_MK_STATUS_STATE k.val) = 1 → s.dev.get (F.MFE_MK_STATUS_OUTSTANDING k.val) = 0 →
      posDiff (posAdd (s.dev.encoder c.val).pos 1) (s.dev.mark k.val).pNext
        = -Int.ofNat (s.dev.get (F.MFE_MK_LEAD_COUNTS k.val)) →
    completes (.encoderTransition c true false) s (fun d =>
      d.get (F.MFE_MK_STATUS_OUTSTANDING k.val) = 1
      ∧ d.get (F.MFE_MK_STATUS_SEQ k.val) = (s.dev.get (F.MFE_MK_STATUS_SEQ k.val) + 1) % 65536
      ∧ d.get (F.MFE_MK_LOG0_STATE (logEntry k.val ((s.dev.get (F.MFE_MK_STATUS_SEQ k.val) + 1) % 65536))) = 1
      ∧ d.get (F.MFE_MK_LOG1_PNEXT (logEntry k.val ((s.dev.get (F.MFE_MK_STATUS_SEQ k.val) + 1) % 65536)))
        = (s.dev.mark k.val).pNext % 2 ^ 32
      ∧ (s.dev.get (F.MFE_MK_CFG_EVT_EN k.val) = 1 → d.latched Ev.MARK_PREDICT = true)))

/-- An engine that Table 22.4 does not refuse is enabled with its START segment: with no trigger it runs from the master's
position and asks for the segments that may follow, else it waits; a refused one gives the first reason. A fetched segment is
kept if its words and its fields are good; else the engine faults with its cause, CAM_SEGMENT_FAULT and its bit of the fault
map. A period of a running engine gives the set-point of R574 at the master's offset and sends it where DEST says: nowhere, to
a fabric endpoint as a WR of stop 35, or into its ring of records in the pool. -/
def Obligations.CamEngines : Prop :=
  (∀ (s : State) (e : Fin 16) (w : List Nat), s.dev.board.mck = true → s.dev.get (F.CAM_ENG_CTL_EN e.val) = 0 →
      s.dev.camCheck e.val [2 ^ 40] false = none →
      s.dev.camWords s.mem 8 (s.dev.segAddr e.val (s.dev.get (F.CAM_ENG_CTL_START e.val)) / 8) = (s.dev, w, false) →
      s.dev.camCheck e.val w false = none →
    completes (.camEnable e) s (fun d => d.get (F.CAM_ENG_CTL_EN e.val) = 1
      ∧ d.camState e.val = (if segTrig w = 0 then 2 else 1)
      ∧ d.get (F.CAM_ENG_STATUS_SEG e.val) = s.dev.get (F.CAM_ENG_CTL_START e.val)
      ∧ (d.cam e.val).seg = w ∧ (segTrig w = 0 → (d.cam e.val).base = s.dev.camMaster e.val
        ∧ (d.cam e.val).fetch = (if segRetract w = 0xFFFF then [0] else [0, 1]))
      ∧ (∀ j, j ≠ e.val → d.cam j = s.dev.cam j)
      ∧ s.dev.Only d [.cams] (fieldsOf [F.CAM_ENG_CTL_EN e.val, F.CAM_ENG_STATUS_CAUSE e.val,
          F.CAM_ENG_STATUS_COMMITTED e.val, F.CAM_ENG_STATUS_PRED e.val, F.CAM_ENG_STATUS_STATE e.val,
          F.CAM_ENG_STATUS_SEG e.val])))
  ∧ (∀ (s : State) (e : Fin 16) (why : Reason), s.dev.running = true → s.dev.get (F.CAM_ENG_CTL_EN e.val) = 0 →
      s.dev.camCheck e.val [2 ^ 40] false = some why →
    completes (.camEnable e) s (fun d => d.get (F.CAM_ENG_CTL_EN e.val) = 0 ∧ d.get F.CAM_REFUSE_REASON = why.code
      ∧ s.dev.OnlyNoted d [] (fieldsOf [F.CAM_REFUSE_REASON.reg])))
  ∧ (∀ (s : State) (e : Fin 16) (k : Nat) (rest w : List Nat), s.dev.pSvc = true → (s.dev.cam e.val).fetch = k :: rest →
      k < 2 → s.dev.camOwns e.val (s.dev.segAddr e.val (s.dev.fetchIndex e.val k))
        (s.dev.segAddr e.val (s.dev.fetchIndex e.val k) + 64) = true →
      (∀ d : Device, d.camWords s.mem 8 (s.dev.segAddr e.val (s.dev.fetchIndex e.val k) / 8) = (d, w, false)) →
      segBad w (s.dev.get (F.CAM_ENG_TCOUNT_TCOUNT e.val)) = false →
    completes (.camSegmentFetched e) s (fun d =>
      d.cam e.val = (if k = 0 then { s.dev.cam e.val with fetch := rest, nextSeg := some w }
        else { s.dev.cam e.val with fetch := rest, retrSeg := some w })
      ∧ (∀ j, j ≠ e.val → d.cam j = s.dev.cam j) ∧ s.dev.Only d [.cams] (fieldsOf [])))
  ∧ (∀ (s : State) (e : Fin 16) (k : Nat) (rest w : List Nat), s.dev.running = true → s.dev.pSvc = true →
      (s.dev.cam e.val).fetch = k :: rest →
      s.dev.camOwns e.val (s.dev.segAddr e.val (s.dev.fetchIndex e.val k))
        (s.dev.segAddr e.val (s.dev.fetchIndex e.val k) + 64) = true →
      (∀ d : Device, d.camWords s.mem 8 (s.dev.segAddr e.val (s.dev.fetchIndex e.val k) / 8) = (d, w, false)) →
      segBad w (s.dev.get (F.CAM_ENG_TCOUNT_TCOUNT e.val)) = true → s.dev.get (F.CAM_ENG_CTL_DEST e.val) = 0 →
    completes (.camSegmentFetched e) s (fun d => d.camState e.val = 4 ∧ d.get (F.CAM_ENG_STATUS_CAUSE e.val) = 3
      ∧ bit (d.get F.CAM_FAULT_MAP_ENG) e.val = true ∧ d.latched Ev.CAM_SEGMENT_FAULT = true
      ∧ (d.cam e.val).fetch = [] ∧ (d.cam e.val).chain = none ∧ d.get (F.CAM_ENG_STATUS_PRED e.val) = 0
      ∧ s.dev.OnlyNoted d [.cams, .cul] (fieldsOf [F.CAM_ENG_STATUS_STATE e.val, F.CAM_ENG_STATUS_CAUSE e.val,
          F.CAM_ENG_STATUS_PRED e.val, F.CAM_FAULT_MAP_ENG, F.CUL_NEXT_INDEX, F.CUL_NEXT_WRAPS])))
  ∧ (∀ (s : State) (e : Fin 16), (s.dev.cam e.val).fetch = [] →
    completes (.camSegmentFetched e) s (fun d => d = s.dev))
  ∧ (∀ (s : State) (e : Fin 16), s.dev.pSvc = true → (s.dev.camState e.val = 2 ∨ s.dev.camState e.val = 3) →
      s.dev.clk.osc = Osc.STABLE → s.dev.get (F.CAM_ENG_CTL_DEST e.val) = 0 → 0 ≤ s.dev.camOffset e.val →
    completes (.camSetpointPeriod e) s (fun d => d.get (F.CAM_ENG_SP_SP e.val)
        = unsigned 32 (camEvaluate (s.dev.cam e.val).seg (s.dev.camO e.val))
      ∧ (d.cam e.val) = { s.dev.cam e.val with first := false }
      ∧ s.dev.Only d [.cams] (fieldsOf [F.CAM_ENG_SP_SP e.val])))
  ∧ (∀ (s : State) (e : Fin 16), s.dev.pSvc = true → (s.dev.camState e.val = 2 ∨ s.dev.camState e.val = 3) →
      s.dev.clk.osc = Osc.STABLE → s.dev.get (F.CAM_ENG_CTL_DEST e.val) = 1 → 0 ≤ s.dev.camOffset e.val →
      (s.dev.init 35).fence = none → 1 ≤ s.dev.get (F.CAM_ENG_TARGET_DIE e.val) →
      s.dev.get (F.CAM_ENG_TARGET_DIE e.val) ≤ 4 → s.dev.fenced (s.dev.get (F.CAM_ENG_TARGET_DIE e.val)) = false →
    completes (.camSetpointPeriod e) s (fun d =>
      (let sp := unsigned 32 (camEvaluate (s.dev.cam e.val).seg (s.dev.camO e.val))
       let flags := s.dev.get (F.CAM_ENG_STATUS_PRED e.val) + 2 * b2n (s.dev.cam e.val).first
         + 8 * b2n (s.dev.camState e.val == 3)
       let ep := s.dev.get (F.CAM_ENG_TARGET_EP e.val)
       d.get (F.CAM_ENG_SP_SP e.val) = sp
       ∧ (d.init 35).port = (s.dev.init 35).port ++ [{
          seq := (s.dev.init 35).nextSeq, cmd := Cmd.WR, cls := 2,
          addr := (s.dev.get (F.CAM_ENG_TARGET_DIE e.val) * 128 + s.dev.get (F.CAM_ENG_TARGET_ZONE e.val)) * 2 ^ 38
            + 0xF00 + ep / 2 * 16,
          len := 1, be := if ep % 2 = 1 then 0xFF00 else 0x00FF,
          data := [halfUnit (sp + flags * 2 ^ 32) (ep % 2 == 1)], who := e.val }])
      ∧ s.dev.Only d [.cams, .ring] (fieldsOf [F.CAM_ENG_SP_SP e.val])))
  ∧ (∀ (s : State) (e : Fin 16), s.dev.pSvc = true → (s.dev.camState e.val = 2 ∨ s.dev.camState e.val = 3) →
      s.dev.clk.osc = Osc.STABLE → s.dev.get (F.CAM_ENG_CTL_DEST e.val) = 2 → 0 ≤ s.dev.camOffset e.val →
      s.mem.wf = true → s.dev.get (F.CAM_ENG_RING_RING e.val) % 16 = 0 →
      (let a := s.dev.get (F.CAM_ENG_RING_RING e.val) + 16 * s.dev.get (F.CAM_ENG_RING_IDX_IDX e.val)
       s.dev.camOwns e.val a (a + 16) = true
       ∧ s.dev.flipArmed (wordUnit (a / 8)) (wordBank (a / 8) % 4) = false) →
    completesMem (.camSetpointPeriod e) s (fun d m =>
      (let sp := unsigned 32 (camEvaluate (s.dev.cam e.val).seg (s.dev.camO e.val))
       let flags := s.dev.get (F.CAM_ENG_STATUS_PRED e.val) + 2 * b2n (s.dev.cam e.val).first
         + 8 * b2n (s.dev.camState e.val == 3)
       let a := s.dev.get (F.CAM_ENG_RING_RING e.val) + 16 * s.dev.get (F.CAM_ENG_RING_IDX_IDX e.val)
       m.poolRd (a / 8) = eccEncode (s.dev.clk.mt % 2 ^ 64)
       ∧ m.poolRd (a / 8 + 1) = eccEncode (sp + s.dev.get (F.CAM_ENG_STATUS_SEG e.val) * 2 ^ 32 + flags * 2 ^ 48)
       ∧ (∀ x, x ≠ a / 8 → x ≠ a / 8 + 1 → m.poolRd x = s.mem.poolRd x) ∧ m.bm = s.mem.bm
       ∧ d.get (F.CAM_ENG_RING_IDX_IDX e.val) = (s.dev.get (F.CAM_ENG_RING_IDX_IDX e.val) + 1)
          % s.dev.get (F.CAM_ENG_RING_LEN_LEN e.val) % 65536)
      ∧ s.dev.Only d [.cams] (fieldsOf [F.CAM_ENG_SP_SP e.val, F.CAM_ENG_RING_IDX_IDX e.val])))
  ∧ (∀ (s : State) (e : Fin 16), s.dev.camState e.val ≠ 2 → s.dev.camState e.val ≠ 3 →
    completes (.camSetpointPeriod e) s (fun d => d = s.dev))

/-! ## The identity reader (chapter 23) -/

/-- A presence that turns active moves an EMPTY port to DEBOUNCE, one that turns inactive moves it back, or a port that has
read its part to REMOVING. Debounced, an insertion is reported and its descriptor is read; a removal moves PENDING to LOST,
empties the port and is reported. A good descriptor is kept and gives READY, a bad one BAD with its reason; a bus error is
counted and the read repeated once, and the second gives BAD. EN starts a port unless NO_TIMEBASE or a reserved value refuses
it; clearing EN takes the port OFF. -/
def Obligations.IdentityReads : Prop :=
  (∀ (s : State) (k : Fin 8) (p : Nat) (level : Bool), s.dev.pSvc = true → s.dev.routed (0x40 + k.val) p = true →
      bits (s.dev.get F.IOX_EVI_CFG_EDGE) (2 * k.val + 1) (2 * k.val) = 0 → s.dev.idState k.val = 1 →
      (s.dev.idPort k.val).raw = false → (s.dev.idPort k.val).kept = false →
      b2n level = s.dev.get (F.IDR_PORT_CFG_PRES_POL k.val) →
    completes (.presenceChange k level) s (fun d => d.idState k.val = 2
      ∧ d.idPort k.val = { s.dev.idPort k.val with raw := true }
      ∧ (∀ j, j ≠ k.val → d.idPort j = s.dev.idPort j)
      ∧ s.dev.Only d [.board, .eviSeen, .ident] (fieldsOf [F.IDR_PORT_STATUS_STATE k.val,
          F.IDR_PORT_STATUS_CACHE_VALID k.val])))
  ∧ (∀ (s : State) (k : Fin 8) (p : Nat) (level : Bool), s.dev.pSvc = true → s.dev.routed (0x40 + k.val) p = true →
      bits (s.dev.get F.IOX_EVI_CFG_EDGE) (2 * k.val + 1) (2 * k.val) = 0 →
      2 ≤ s.dev.idState k.val → s.dev.idState k.val ≤ 5 →
      (s.dev.idPort k.val).raw = true → b2n level ≠ s.dev.get (F.IDR_PORT_CFG_PRES_POL k.val) →
    completes (.presenceChange k level) s (fun d =>
      d.idState k.val = (if s.dev.idState k.val = 2 then 1 else 6)
      ∧ d.idPort k.val = (if s.dev.idState k.val = 2 then
          { s.dev.idPort k.val with raw := false, deb := (s.dev.idPort k.val).kept }
          else { s.dev.idPort k.val with raw := false, back := s.dev.idState k.val })
      ∧ d.get (F.IDR_PORT_STATUS_CACHE_VALID k.val) = 0
      ∧ s.dev.Only d [.board, .eviSeen, .ident] (fieldsOf [F.IDR_PORT_STATUS_STATE k.val,
          F.IDR_PORT_STATUS_CACHE_VALID k.val])))
  ∧ (∀ (s : State) (k : Fin 8), s.dev.running = true → s.dev.idRuns = true → s.dev.idState k.val = 2 →
      (s.dev.idPort k.val).raw = true → (s.dev.idPort k.val).deb = false → (s.dev.idPort k.val).tx = 0 →
    completes (.presenceDebounced k) s (fun d => d.idState k.val = 3 ∧ (d.idPort k.val).deb = true
      ∧ (d.idPort k.val).kept = false ∧ (d.idPort k.val).tx = 1 ∧ (d.idPort k.val).fresh = true ∧ d.latched (48 + k.val) = true
      ∧ d.get (F.IDR_PORT_STATUS_WR_STOPPED k.val) = 0
      ∧ s.dev.OnlyNoted d [.ident] (fieldsOf [(F.IDR_PORT_STATUS_STATE k.val).reg])))
  ∧ (∀ (s : State) (k : Fin 8), s.dev.running = true → s.dev.idRuns = true → s.dev.idState k.val = 6 →
      (s.dev.idPort k.val).raw = false → (s.dev.idPort k.val).deb = true → s.dev.gaf.cur = none →
      s.dev.gaf.pend = none →
    completes (.presenceDebounced k) s (fun d => d.idState k.val = 1 ∧ d.idPort k.val = .idle
      ∧ d.get (F.IDR_PORT_LOST_DELTA k.val) = min (2 ^ 32 - 1)
          (s.dev.get (F.IDR_PORT_LOST_DELTA k.val) + s.dev.get (F.IDR_PORT_PENDING_DELTA k.val))
      ∧ d.get (F.IDR_PORT_PENDING_DELTA k.val) = 0 ∧ d.latched (48 + k.val) = true
      ∧ s.dev.OnlyNoted d [.ident] (fieldsOf [(F.IDR_PORT_STATUS_STATE k.val).reg, F.IDR_PORT_LOST_DELTA k.val,
          F.IDR_PORT_PENDING_DELTA k.val, F.IDR_CMD_GO])))
  ∧ (∀ (s : State) (k : Fin 8), (s.dev.idPort k.val).raw = (s.dev.idPort k.val).deb →
    completes (.presenceDebounced k) s (fun d => d = s.dev))
  ∧ (∀ (s : State) (k : Fin 8) (bytes : BitVec 2048), s.dev.running = true → (s.dev.idPort k.val).tx = 1 →
      s.dev.idState k.val = 3 → (s.dev.idPort k.val).cmd = false → s.dev.get F.GAF_CTL_EN = 0 →
    completes (.descriptorReadDone k 0 bytes) s (fun d =>
      d.idState k.val = (if descBad bytes.toNat = 0 then 4 else 5)
      ∧ d.get (F.IDR_PORT_STATUS_REASON k.val) = descBad bytes.toNat
      ∧ d.get (F.IDR_PORT_STATUS_CACHE_VALID k.val) = (if descBad bytes.toNat = 0 then 1 else 0)
      ∧ (∀ i, i < 64 → d.get (F.IDR_DESC_BYTES (64 * k.val + i)) = memField bytes.toNat (4 * i) 4)
      ∧ (d.idPort k.val).tx = 0 ∧ d.latched (48 + k.val) = true
      ∧ s.dev.OnlyNoted d [.ident] (fun f => f.key / 4096 == U.IDR)))
  ∧ (∀ (s : State) (k : Fin 8) (r : Fin 4) (bytes : BitVec 2048), (s.dev.idPort k.val).tx = 1 → r.val ≠ 0 →
      (s.dev.idPort k.val).again = false →
    completes (.descriptorReadDone k r bytes) s (fun d =>
      d.idPort k.val = { s.dev.idPort k.val with tx := 0, again := true, due := true }
      ∧ d.get (F.IDR_PORT_ERR_CNT_COUNT k.val) = satInc 16 (s.dev.get (F.IDR_PORT_ERR_CNT_COUNT k.val))
      ∧ s.dev.Only d [.ident] (fieldsOf [F.IDR_PORT_ERR_CNT_COUNT k.val])))
  ∧ (∀ (s : State) (k : Fin 8) (r : Fin 4) (bytes : BitVec 2048), s.dev.running = true →
      (s.dev.idPort k.val).tx = 1 → r.val ≠ 0 →
      (s.dev.idPort k.val).again = true → (s.dev.idPort k.val).cmd = false → s.dev.idState k.val = 3 →
    completes (.descriptorReadDone k r bytes) s (fun d => d.idState k.val = 5
      ∧ d.get (F.IDR_PORT_STATUS_REASON k.val) = r.val ∧ d.latched (48 + k.val) = true
      ∧ s.dev.OnlyNoted d [.ident] (fieldsOf [(F.IDR_PORT_STATUS_STATE k.val).reg,
          F.IDR_PORT_ERR_CNT_COUNT k.val])))
  ∧ (∀ (s : State) (k : Fin 8), s.dev.idRuns = true → (s.dev.idPort k.val).due = true →
      (s.dev.idPort k.val).tx = 0 → (s.dev.idPort k.val).raw = true → s.dev.idState k.val = 3 →
    completes (.descriptorReadRetry k) s (fun d =>
      d.idPort k.val = { s.dev.idPort k.val with tx := 1, due := false } ∧ s.dev.Only d [.ident] (fieldsOf [])))
  ∧ (∀ (s : State) (k : Fin 8), (s.dev.idPort k.val).due = false →
    completes (.descriptorReadRetry k) s (fun d => d = s.dev))
  ∧ (∀ (s : State) (k : Fin 8), (s.dev.idPort k.val).tx = 1 → (s.dev.idPort k.val).again = false →
    completes (.busStretchTimeout k) s (fun d =>
      d.idPort k.val = { s.dev.idPort k.val with tx := 0, again := true, due := true }
      ∧ d.get (F.IDR_PORT_ERR_CNT_COUNT k.val) = satInc 16 (s.dev.get (F.IDR_PORT_ERR_CNT_COUNT k.val))
      ∧ s.dev.Only d [.ident] (fieldsOf [F.IDR_PORT_ERR_CNT_COUNT k.val])))
  ∧ (∀ (s : State) (k : Fin 8), (s.dev.idPort k.val).tx = 0 →
    completes (.busStretchTimeout k) s (fun d => d = s.dev))
  ∧ (∀ (s : State) (k : Fin 8), s.dev.board.mck = true → s.dev.get (F.IDR_PORT_CFG_EN k.val) = 0 →
      s.dev.clk.osc = Osc.STABLE → 8 ≤ s.dev.get (F.IDR_PORT_CFG_ADDR k.val) →
      s.dev.get (F.IDR_PORT_CFG_ADDR k.val) < 0x78 → s.dev.get (F.IDR_PORT_CFG_PAGE k.val) ≠ 3 →
      s.dev.get (F.IDR_PORT_CFG_DEB_MS k.val) ≠ 0 → 1 ≤ s.dev.get (F.IDR_PORT_CFG_WR_MS k.val) →
      s.dev.get (F.IDR_PORT_CFG_WR_MS k.val) ≤ 50 →
    completes (.idrPortEnable k true) s (fun d => d.get (F.IDR_PORT_CFG_EN k.val) = 1
      ∧ (d.idState k.val = 1 ∨ d.idState k.val = 2) ∧ (d.idPort k.val).raw = decide (d.idState k.val = 2)
      ∧ (d.idPort k.val).deb = false
      ∧ (s.dev.running = true → s.dev.OnlyNoted d [.ident, .xbConf] (fieldsOf [F.IDR_PORT_CFG_EN k.val,
          F.IDR_PORT_STATUS_STATE k.val, F.IDR_PORT_STATUS_CACHE_VALID k.val]))))
  ∧ (∀ (s : State) (k : Fin 8), s.dev.running = true → s.dev.get (F.IDR_PORT_CFG_EN k.val) = 0 →
      (s.dev.clk.osc ≠ Osc.STABLE ∨ s.dev.get (F.IDR_PORT_CFG_ADDR k.val) < 8
        ∨ 50 < s.dev.get (F.IDR_PORT_CFG_WR_MS k.val)) →
    completes (.idrPortEnable k true) s (fun d => d.get (F.IDR_PORT_CFG_EN k.val) = 0
      ∧ d.get F.IDR_REFUSE_REASON = (if s.dev.clk.osc ≠ Osc.STABLE then Reason.noTimebase else .reservedValue).code
      ∧ d.get F.IDR_REFUSE_INDEX = k.val ∧ s.dev.OnlyNoted d [] (fieldsOf [F.IDR_REFUSE_REASON.reg])))
  ∧ (∀ (s : State) (k : Fin 8), s.dev.board.mck = true → s.dev.get (F.IDR_PORT_CFG_EN k.val) = 1 →
    completes (.idrPortEnable k false) s (fun d => d.get (F.IDR_PORT_CFG_EN k.val) = 0 ∧ d.idState k.val = 0
      ∧ d.idPort k.val = .idle ∧ d.get (F.IDR_PORT_PENDING_DELTA k.val) = 0
      ∧ (s.dev.running = true → s.dev.OnlyNoted d [.ident, .xbConf] (fieldsOf [F.IDR_PORT_CFG_EN k.val,
          (F.IDR_PORT_STATUS_STATE k.val).reg, F.IDR_PORT_LOST_DELTA k.val, F.IDR_PORT_PENDING_DELTA k.val,
          F.IDR_CMD_GO]))))

/-- ADD adds IDR_DELTA to PENDING; CNT_INIT, WRITE and REREAD start with GO at 1; a command that Table 23.3 refuses gives the
first reason with the port as the index. Where PENDING is not 0 a READY port with a good counter writes the next cell with
the next sequence and the sum. A poll that is acknowledged goes to the read-back, one out of time fails with WR_TIMEOUT.
A read-back that matches updates COUNT, SEQ and NEXT_CELL and reports it; one that does not counts an error, and the value
goes back to PENDING with the next cell. -/
def Obligations.IdentityWrites : Prop :=
  (∀ (s : State) (k : Fin 8), s.dev.board.mck = true →
      s.dev.idRefusal 1 k.val (s.dev.get F.IDR_CMD_LEN) (s.dev.get F.IDR_CMD_ADDR) = none →
      s.dev.get (F.IDR_PORT_PENDING_DELTA k.val) + s.dev.get F.IDR_DELTA_DELTA < 2 ^ 32 →
    completes (.idrAdd k) s (fun d =>
      d.get (F.IDR_PORT_PENDING_DELTA k.val) = s.dev.get (F.IDR_PORT_PENDING_DELTA k.val) + s.dev.get F.IDR_DELTA_DELTA
      ∧ d.get F.IDR_CMD_GO = s.dev.get F.IDR_CMD_GO
      ∧ s.dev.Only d [.free] (fieldsOf [F.IDR_CMD_OP, F.IDR_CMD_PORT, F.IDR_PORT_PENDING_DELTA k.val])))
  ∧ (∀ (s : State) (k : Fin 8), s.dev.board.mck = true →
      s.dev.idRefusal 1 k.val (s.dev.get F.IDR_CMD_LEN) (s.dev.get F.IDR_CMD_ADDR) = none →
    completes (.idrAdd k) s (fun d =>
      s.dev.Only d [.free] (fieldsOf [F.IDR_CMD_OP, F.IDR_CMD_PORT, F.IDR_PORT_PENDING_DELTA k.val])))
  ∧ (∀ (s : State) (k : Fin 8), s.dev.board.mck = true →
      s.dev.idRefusal 2 k.val (s.dev.get F.IDR_CMD_LEN) (s.dev.get F.IDR_CMD_ADDR) = none → s.dev.idRuns = true →
      (s.dev.idPort k.val).raw = true →
    completes (.idrCntInit k) s (fun d => d.get F.IDR_CMD_GO = 1
      ∧ d.idPort k.val = { s.dev.idPort k.val with
          cmd := true, tx := 2,
          wr := some { kind := 1, cell := 1, seq := 0, val := 0, delta := s.dev.get F.IDR_DELTA_DELTA } }
      ∧ s.dev.Only d [.ident] (fieldsOf [F.IDR_CMD_OP, F.IDR_CMD_PORT, F.IDR_CMD_GO])))
  ∧ (∀ (s : State) (k : Fin 8) (len : BitVec 6) (a : BitVec 8), s.dev.board.mck = true →
      s.dev.idRefusal 3 k.val len.toNat a.toNat = none → s.dev.idRuns = true → (s.dev.idPort k.val).raw = true →
    completes (.idrWrite k len a) s (fun d => d.get F.IDR_CMD_GO = 1
      ∧ d.idPort k.val = { s.dev.idPort k.val with
          cmd := true, tx := 2,
          wr := some { kind := 2, cell := a.toNat, seq := len.toNat, val := s.dev.idBuf len.toNat, delta := 0 } }
      ∧ s.dev.Only d [.ident] (fieldsOf [F.IDR_CMD_OP, F.IDR_CMD_PORT, F.IDR_CMD_LEN, F.IDR_CMD_ADDR, F.IDR_CMD_GO])))
  ∧ (∀ (s : State) (k : Fin 8), s.dev.board.mck = true →
      s.dev.idRefusal 4 k.val (s.dev.get F.IDR_CMD_LEN) (s.dev.get F.IDR_CMD_ADDR) = none → s.dev.idRuns = true →
      (s.dev.idPort k.val).raw = true →
    completes (.idrReread k) s (fun d => d.get F.IDR_CMD_GO = 1 ∧ d.idState k.val = 3
      ∧ d.idPort k.val = { s.dev.idPort k.val with cmd := true, tx := 1, again := false, due := false, fresh := false }
      ∧ s.dev.Only d [.ident] (fieldsOf [F.IDR_CMD_OP, F.IDR_CMD_PORT, F.IDR_CMD_GO,
          F.IDR_PORT_STATUS_STATE k.val, F.IDR_PORT_STATUS_CACHE_VALID k.val])))
  ∧ (∀ (s : State) (c : Instr) (op : Nat) (k : Fin 8) (why : Reason), s.dev.running = true →
      (c, op) ∈ [(Instr.idrAdd k, 1), (.idrCntInit k, 2), (.idrReread k, 4)] →
      s.dev.idRefusal op k.val (s.dev.get F.IDR_CMD_LEN) (s.dev.get F.IDR_CMD_ADDR) = some why →
    completes c s (fun d => d.get F.IDR_REFUSE_REASON = why.code ∧ d.get F.IDR_REFUSE_INDEX = k.val
      ∧ s.dev.OnlyNoted d [] (fieldsOf [F.IDR_CMD_OP, F.IDR_CMD_PORT, F.IDR_REFUSE_REASON.reg])))
  ∧ (∀ (s : State) (k : Fin 8) (len : BitVec 6) (a : BitVec 8) (why : Reason), s.dev.running = true →
      s.dev.idRefusal 3 k.val len.toNat a.toNat = some why →
    completes (.idrWrite k len a) s (fun d => d.get F.IDR_REFUSE_REASON = why.code ∧ d.get F.IDR_REFUSE_INDEX = k.val
      ∧ s.dev.OnlyNoted d [] (fieldsOf [F.IDR_CMD_OP, F.IDR_CMD_PORT, F.IDR_CMD_LEN, F.IDR_CMD_ADDR,
          F.IDR_REFUSE_REASON.reg])))
  ∧ (∀ (s : State) (k : Fin 8), s.dev.idRuns = true → s.dev.idState k.val = 4 → (s.dev.idPort k.val).tx = 0 →
      (s.dev.idPort k.val).raw = true → (s.dev.idPort k.val).wr = none → (s.dev.idPort k.val).redo = none →
      s.dev.get (F.IDR_PORT_PENDING_DELTA k.val) ≠ 0 → s.dev.get (F.IDR_PORT_STATUS_WR_STOPPED k.val) = 0 →
      s.dev.get (F.IDR_PORT_STATUS_CNT_BAD k.val) = 0 →
    completes (.counterCellWriteStart k) s (fun d => d.get (F.IDR_PORT_PENDING_DELTA k.val) = 0
      ∧ d.idPort k.val = { s.dev.idPort k.val with
          tx := 2,
          wr := some {
            kind := 0, cell := s.dev.get (F.IDR_PORT_STATUS_NEXT_CELL k.val),
            seq := (s.dev.get (F.IDR_PORT_SEQ_SEQ k.val) + 1) % 2 ^ 24,
            val := (s.dev.get (F.IDR_PORT_COUNT_VALUE k.val) + s.dev.get (F.IDR_PORT_PENDING_DELTA k.val)) % 2 ^ 32,
            delta := s.dev.get (F.IDR_PORT_PENDING_DELTA k.val) } }
      ∧ s.dev.Only d [.ident, .free] (fieldsOf [F.IDR_PORT_PENDING_DELTA k.val])))
  ∧ (∀ (s : State) (k : Fin 8), ((s.dev.idPort k.val).tx ≠ 0 ∨ s.dev.idState k.val ≠ 4) →
    completes (.counterCellWriteStart k) s (fun d => d = s.dev))
  ∧ (∀ (s : State) (k : Fin 8) (ack expired : Bool), s.dev.idRuns = true →
      ((s.dev.idPort k.val).tx = 2 ∨ (s.dev.idPort k.val).tx = 3) → (ack = true ∨ expired = false) →
    completes (.eepromPoll k ack expired) s (fun d =>
      d.idPort k.val = { s.dev.idPort k.val with tx := if ack then 4 else 3 } ∧ s.dev.Only d [.ident] (fieldsOf [])))
  ∧ (∀ (s : State) (k : Fin 8) (w : IdWrite), s.dev.running = true → s.dev.idRuns = true →
      ((s.dev.idPort k.val).tx = 2 ∨ (s.dev.idPort k.val).tx = 3) → (s.dev.idPort k.val).wr = some w → w.kind = 0 →
      s.dev.get (F.IDR_PORT_PENDING_DELTA k.val) + w.delta < 2 ^ 32 →
    completes (.eepromPoll k false true) s (fun d => d.get (F.IDR_PORT_STATUS_REASON k.val) = 9
      ∧ d.latched (48 + k.val) = true ∧ (d.idPort k.val).tx = 0 ∧ (d.idPort k.val).redo = some w
      ∧ d.get (F.IDR_PORT_PENDING_DELTA k.val) = s.dev.get (F.IDR_PORT_PENDING_DELTA k.val) + w.delta
      ∧ d.get (F.IDR_PORT_STATUS_NEXT_CELL k.val) = (w.cell + 1) % 16
      ∧ s.dev.OnlyNoted d [.ident, .free] (fieldsOf [(F.IDR_PORT_STATUS_STATE k.val).reg,
          F.IDR_PORT_ERR_CNT_COUNT k.val, F.IDR_PORT_PENDING_DELTA k.val])))
  ∧ (∀ (s : State) (k : Fin 8) (w : IdWrite) (data : BitVec 256), s.dev.running = true →
      (s.dev.idPort k.val).tx = 4 → (s.dev.idPort k.val).wr = some w → w.kind = 0 → w.seq < 2 ^ 24 → w.val < 2 ^ 32 →
      data.toNat % 2 ^ 64 = cellBytes w.seq w.val →
    completes (.cellWriteVerify k 0 data) s (fun d => d.get (F.IDR_PORT_COUNT_VALUE k.val) = w.val
      ∧ d.get (F.IDR_PORT_SEQ_SEQ k.val) = w.seq ∧ d.get (F.IDR_PORT_STATUS_NEXT_CELL k.val) = (w.cell + 1) % 16
      ∧ d.get (F.IDR_PORT_WR_CNT_COUNT k.val) = satInc 16 (s.dev.get (F.IDR_PORT_WR_CNT_COUNT k.val))
      ∧ d.idPort k.val = { s.dev.idPort k.val with tx := 0, wr := none, fails := 0, redo := none }
      ∧ d.latched (48 + k.val) = true
      ∧ s.dev.OnlyNoted d [.ident] (fieldsOf [(F.IDR_PORT_STATUS_STATE k.val).reg, F.IDR_PORT_SEQ_SEQ k.val,
          F.IDR_PORT_COUNT_VALUE k.val, F.IDR_PORT_WR_CNT_COUNT k.val])))
  ∧ (∀ (s : State) (k : Fin 8) (w : IdWrite) (data : BitVec 256), s.dev.running = true →
      (s.dev.idPort k.val).tx = 4 → (s.dev.idPort k.val).wr = some w → w.kind = 0 →
      data.toNat % 2 ^ 64 ≠ cellBytes w.seq w.val →
    completes (.cellWriteVerify k 0 data) s (fun d => d.get (F.IDR_PORT_STATUS_REASON k.val) = 8
      ∧ (d.idPort k.val).redo = some w ∧ (d.idPort k.val).wr = none
      ∧ d.get (F.IDR_PORT_ERR_CNT_COUNT k.val) = satInc 16 (s.dev.get (F.IDR_PORT_ERR_CNT_COUNT k.val))
      ∧ d.get (F.IDR_PORT_STATUS_NEXT_CELL k.val) = (w.cell + 1) % 16 ∧ d.latched (48 + k.val) = true
      ∧ s.dev.OnlyNoted d [.ident, .free] (fieldsOf [(F.IDR_PORT_STATUS_STATE k.val).reg,
          F.IDR_PORT_ERR_CNT_COUNT k.val, F.IDR_PORT_PENDING_DELTA k.val])))

/-! ## Serial lanes (chapter 24) -/

/-- A lane that Table 24.3 does not refuse is enabled with its divider; the first of a quad also sets QINT and QFRAC and lets
the loop acquire (LOST where it may not run). A refused one is recorded with its lane. Disabling a lane clears its locks and
buffers, and the last one stops the loop; a sweep goes on. An acquiring loop that may run locks and tells it; a running lane's CDR locks, and
when it loses lock RX_IDLE is set and a block lock that it had is lost, with LOCK_LOST and the event. -/
def Obligations.LanesAndLoops : Prop :=
  let fresh (x : LaneState) : LaneState :=
    { LaneState.idle with sweepPeak := x.sweepPeak, sweepStep := x.sweepStep, sweepErr := x.sweepErr }
  (∀ (s : State) (k : Fin 24) (l : Fin 4) (c : Nat), s.dev.refusalsFull (quadDie k.val) = false →
      s.dev.laneOn k.val l.val = false → s.dev.laneRefusal k.val l.val = none → s.dev.divFor k.val l.val = some c →
    completes (.laneEnable k l) s (fun d =>
      (let u := quadUnit k.val
       d.get (F.LQ_LANE_CTL_EN u l.val) = 1 ∧ d.get (F.LQ_LANE_STATUS_DIV u l.val) = c
       ∧ d.lane k.val l.val = fresh (s.dev.lane k.val l.val)
       ∧ (s.dev.otherLane k.val l.val = none →
          d.get (F.LQ_QLOOP_STATE u) = (if s.dev.quadMayRun k.val then 1 else 3)
          ∧ d.get (F.LQ_QSTATUS_QINT u) = quadFreq (s.dev.laneRate k.val l.val) c / 2 ^ 20 % 512
          ∧ d.get (F.LQ_QSTATUS_QFRAC u) = quadFreq (s.dev.laneRate k.val l.val) c % 2 ^ 20)
       ∧ (s.dev.otherLane k.val l.val ≠ none → d.get (F.LQ_QLOOP_STATE u) = s.dev.get (F.LQ_QLOOP_STATE u)
          ∧ d.get (F.LQ_QSTATUS_QINT u) = s.dev.get (F.LQ_QSTATUS_QINT u))
       ∧ s.dev.Only d [.lanes] (fieldsOf [F.LQ_LANE_CTL_EN u l.val, F.LQ_LANE_STATUS_DIV u l.val, F.LQ_QLOOP_STATE u,
          F.LQ_QSTATUS_QINT u, F.LQ_QSTATUS_QFRAC u]))
      ∧ (∀ q m, (q, m) ≠ (k.val, l.val) → m < 4 → d.lane q m = s.dev.lane q m)))
  ∧ (∀ (s : State) (k : Fin 24) (l : Fin 4) (why : Reason), s.dev.refusalsFull (quadDie k.val) = false →
      s.dev.laneOn k.val l.val = false → s.dev.laneRefusal k.val l.val = some why →
    completes (.laneEnable k l) s (fun d => d.laneOn k.val l.val = false
      ∧ d.get (F.LQ_REFUSE_REASON (quadUnit k.val)) = why.code ∧ d.get (F.LQ_REFUSE_INDEX (quadUnit k.val)) = l.val
      ∧ s.dev.Only d [.refusals] (fieldsOf [(F.LQ_REFUSE_REASON (quadUnit k.val)).reg])))
  ∧ (∀ (s : State) (k : Fin 24) (l : Fin 4), s.dev.refusalsFull (quadDie k.val) = true →
    completes (.laneEnable k l) s (fun d => d = s.dev))
  ∧ (∀ (s : State) (k : Fin 24) (l : Fin 4), s.dev.refusalsFull (quadDie k.val) = false →
      s.dev.laneOn k.val l.val = true →
    completes (.laneDisable k l) s (fun d =>
      (let u := quadUnit k.val
       d.laneOn k.val l.val = false ∧ d.get (F.LQ_LANE_STATUS_CDR_LOCK u l.val) = 0
       ∧ d.get (F.LQ_LANE_STATUS_BLOCK_LOCK u l.val) = 0
       ∧ d.lane k.val l.val = fresh (s.dev.lane k.val l.val)
       ∧ d.get (F.LQ_QLOOP_STATE u) = (if (s.dev.otherLane k.val l.val).isSome then s.dev.get (F.LQ_QLOOP_STATE u) else 0)
       ∧ s.dev.Only d [.lanes] (fieldsOf [F.LQ_LANE_CTL_EN u l.val, F.LQ_LANE_STATUS_CDR_LOCK u l.val,
          F.LQ_LANE_STATUS_BLOCK_LOCK u l.val, F.LQ_LANE_STATUS_PRBS_LOCK u l.val, F.LQ_QLOOP_STATE u]))))
  ∧ (∀ (s : State) (k : Fin 24), s.dev.running = true → s.dev.silent (quadUnit k.val) = false →
      s.dev.quadState k.val = 1 → s.dev.quadMayRun k.val = true →
    completes (.quadLoopLock k) s (fun d => d.quadState k.val = 2 ∧ d.latched (Ev.LANE_QUAD k.val) = true
      ∧ s.dev.OnlyNoted d [] (fieldsOf [F.LQ_QLOOP_STATE (quadUnit k.val)])))
  ∧ (∀ (s : State) (k : Fin 24), (s.dev.quadState k.val ≠ 1 ∨ s.dev.quadMayRun k.val = false) →
    completes (.quadLoopLock k) s (fun d => d = s.dev))
  ∧ (∀ (s : State) (k : Fin 24) (l : Fin 4), s.dev.laneRuns k.val l.val = true →
    completes (.cdrLock k l) s (fun d => d.get (F.LQ_LANE_STATUS_CDR_LOCK (quadUnit k.val) l.val) = 1
      ∧ d.get (F.LQ_LANE_STATUS_RX_IDLE (quadUnit k.val) l.val) = 0
      ∧ d.lane k.val l.val = { s.dev.lane k.val l.val with good := 0, seen := 0, bad := 0 }
      ∧ s.dev.Only d [.lanes] (fieldsOf [F.LQ_LANE_STATUS_CDR_LOCK (quadUnit k.val) l.val,
          F.LQ_LANE_STATUS_RX_IDLE (quadUnit k.val) l.val])))
  ∧ (∀ (s : State) (k : Fin 24) (l : Fin 4), s.dev.laneRuns k.val l.val = false →
    completes (.cdrLock k l) s (fun d => d = s.dev))
  ∧ (∀ (s : State) (k : Fin 24) (l : Fin 4), s.dev.running = true → s.dev.silent (quadUnit k.val) = false →
      s.dev.laneOn k.val l.val = true → s.dev.get (F.LQ_LANE_CTL_LOOP (quadUnit k.val) l.val) ≠ 1 →
    completes (.cdrLockLost k l) s (fun d =>
      (let u := quadUnit k.val
       d.get (F.LQ_LANE_STATUS_CDR_LOCK u l.val) = 0 ∧ d.get (F.LQ_LANE_STATUS_RX_IDLE u l.val) = 1
       ∧ d.get (F.LQ_LANE_STATUS_BLOCK_LOCK u l.val) = 0
       ∧ (s.dev.get (F.LQ_LANE_STATUS_BLOCK_LOCK u l.val) = 1 → d.get (F.LQ_LANE_STATUS_LOCK_LOST u l.val) = 1
          ∧ d.latched (Ev.LANE_QUAD k.val) = true)
       ∧ s.dev.OnlyNoted d [.lanes] (fieldsOf [F.LQ_LANE_STATUS_CDR_LOCK u l.val, F.LQ_LANE_STATUS_RX_IDLE u l.val,
          F.LQ_LANE_STATUS_BLOCK_LOCK u l.val, F.LQ_LANE_STATUS_LOCK_LOST u l.val]))))
  ∧ (∀ (s : State) (k : Fin 24) (l : Fin 4), (s.dev.laneOn k.val l.val = false
        ∨ s.dev.get (F.LQ_LANE_CTL_LOOP (quadUnit k.val) l.val) = 1) →
    completes (.cdrLockLost k l) s (fun d => d = s.dev))

/-- In HUNT a valid header counts towards LOCK_GOOD, which gives BLOCK_LOCK and its event, and an invalid one slips. Locked, a
good block is descrambled, coded and buffered for the zone, or, with the buffer full, dropped and counted. A slot sends the
oldest block, or an idle block that is counted, scrambled unless SCR_BYPASS is set; an idle transmitter sends nothing. A
locked checker counts no error in bits of its pattern. GO starts the sweep at PEAK 0, unless BUSY or NO_TIMEBASE; each step
keeps at most the errors seen, and the last restores PEAK and tells it. -/
def Obligations.LaneBlocks : Prop :=
  (∀ (s : State) (k : Fin 24) (l : Fin 4) (h : BitVec 2) (p : BitVec 64) (up : BitVec 72) (hit : Bool),
      s.dev.running = true → s.dev.silent (quadUnit k.val) = false →
      s.dev.laneHears k.val l.val = true → s.dev.get (F.LQ_LANE_CTL_LOOP (quadUnit k.val) l.val) = 0 →
      s.dev.get (F.LQ_LANE_CTL_MODE (quadUnit k.val) l.val) = 0 →
      s.dev.get (F.LQ_LANE_STATUS_BLOCK_LOCK (quadUnit k.val) l.val) = 0 →
      s.dev.get (F.LQ_LANE_SWEEP_CTL_GO (quadUnit k.val) l.val) = 0 →
    completes (.laneRxBlock k l h p up hit) s (fun d =>
      (let u := quadUnit k.val
       (h.toNat = 0 ∨ h.toNat = 3 → (d.lane k.val l.val).good = 0
          ∧ d.get (F.LQ_LANE_SLIP_CNT_COUNT u l.val) = satInc 16 (s.dev.get (F.LQ_LANE_SLIP_CNT_COUNT u l.val))
          ∧ d.get (F.LQ_LANE_STATUS_BLOCK_LOCK u l.val) = 0)
       ∧ ((h.toNat = 1 ∨ h.toNat = 2) →
          (s.dev.lane k.val l.val).good + 1 < s.dev.get (F.LQ_LANE_LOCK_LOCK_GOOD u l.val) →
          (d.lane k.val l.val).good = (s.dev.lane k.val l.val).good + 1
          ∧ d.get (F.LQ_LANE_STATUS_BLOCK_LOCK u l.val) = 0)
       ∧ ((h.toNat = 1 ∨ h.toNat = 2) →
          s.dev.get (F.LQ_LANE_LOCK_LOCK_GOOD u l.val) ≤ (s.dev.lane k.val l.val).good + 1 →
          d.get (F.LQ_LANE_STATUS_BLOCK_LOCK u l.val) = 1 ∧ (d.lane k.val l.val).first = true
          ∧ d.latched (Ev.LANE_QUAD k.val) = true)
       ∧ (d.lane k.val l.val).rx = (s.dev.lane k.val l.val).rx
       ∧ s.dev.OnlyNoted d [.lanes] (fieldsOf [F.LQ_LANE_SLIP_CNT_COUNT u l.val, F.LQ_LANE_STATUS_BLOCK_LOCK u l.val]))))
  ∧ (∀ (s : State) (k : Fin 24) (l : Fin 4) (h : BitVec 2) (p : BitVec 64), s.dev.laneHears k.val l.val = true →
      s.dev.get (F.LQ_LANE_CTL_LOOP (quadUnit k.val) l.val) = 0 →
      s.dev.get (F.LQ_LANE_CTL_MODE (quadUnit k.val) l.val) = 0 →
      s.dev.get (F.LQ_LANE_CTL_RX_POL (quadUnit k.val) l.val) = 0 →
      s.dev.get (F.LQ_LANE_STATUS_BLOCK_LOCK (quadUnit k.val) l.val) = 1 → (h.toNat = 1 ∨ h.toNat = 2) →
      (s.dev.lane k.val l.val).bad < s.dev.get (F.LQ_LANE_LOCK_LOCK_BAD (quadUnit k.val) l.val) →
      s.dev.laneMayLand k.val (2 * l.val) = false → (s.dev.lane k.val l.val).rx.length < 32 →
    completes (.laneRxBlock k l h p 0 false) s (fun d =>
      (d.lane k.val l.val).rx = (s.dev.lane k.val l.val).rx ++ [{
          word := eccEncode (if s.dev.on (F.LQ_LANE_CTL_SCR_BYPASS (quadUnit k.val) l.val) then p.toNat
            else (descramble 64 (s.dev.lane k.val l.val).rxScr p.toNat).1),
          ctrl := h.toNat == 2, err := false }]
      ∧ (∀ q m, (q, m) ≠ (k.val, l.val) → m < 4 → d.lane q m = s.dev.lane q m) ∧ s.dev.Only d [.lanes] (fieldsOf [])))
  ∧ (∀ (s : State) (k : Fin 24) (l : Fin 4) (h : BitVec 2) (p : BitVec 64), s.dev.running = true →
      s.dev.silent (quadUnit k.val) = false → s.dev.laneHears k.val l.val = true →
      s.dev.get (F.LQ_LANE_CTL_LOOP (quadUnit k.val) l.val) = 0 →
      s.dev.get (F.LQ_LANE_CTL_MODE (quadUnit k.val) l.val) = 0 →
      s.dev.get (F.LQ_LANE_CTL_RX_POL (quadUnit k.val) l.val) = 0 →
      s.dev.get (F.LQ_LANE_STATUS_BLOCK_LOCK (quadUnit k.val) l.val) = 1 → (h.toNat = 1 ∨ h.toNat = 2) →
      (s.dev.lane k.val l.val).bad < s.dev.get (F.LQ_LANE_LOCK_LOCK_BAD (quadUnit k.val) l.val) →
      s.dev.laneMayLand k.val (2 * l.val) = false → 32 ≤ (s.dev.lane k.val l.val).rx.length →
      (s.dev.lane k.val l.val).overflow = false →
    completes (.laneRxBlock k l h p 0 false) s (fun d => (d.lane k.val l.val).rx = (s.dev.lane k.val l.val).rx
      ∧ d.get (F.LQ_LANE_DROP_CNT_COUNT (quadUnit k.val) l.val)
        = satInc 32 (s.dev.get (F.LQ_LANE_DROP_CNT_COUNT (quadUnit k.val) l.val))
      ∧ d.get (F.LQ_LANE_STATUS_RX_OVF (quadUnit k.val) l.val) = 1 ∧ (d.lane k.val l.val).first = true
      ∧ d.latched (Ev.LANE_QUAD k.val) = true
      ∧ s.dev.OnlyNoted d [.lanes] (fieldsOf [F.LQ_LANE_DROP_CNT_COUNT (quadUnit k.val) l.val,
          F.LQ_LANE_STATUS_RX_OVF (quadUnit k.val) l.val])))
  ∧ (∀ (s : State) (k : Fin 24) (l : Fin 4) (h : BitVec 2) (p : BitVec 64) (up : BitVec 72) (hit : Bool),
      s.dev.laneHears k.val l.val = false →
    completes (.laneRxBlock k l h p up hit) s (fun d => d = s.dev))
  ∧ (∀ (s : State) (k : Fin 24) (l : Fin 4) (b : LaneBlock) (rest : List LaneBlock) (v : Nat),
      s.dev.txIdle k.val l.val = false → s.dev.get (F.LQ_LANE_CTL_LOOP (quadUnit k.val) l.val) = 0 →
      s.dev.get (F.LQ_LANE_CTL_MODE (quadUnit k.val) l.val) = 0 →
      s.dev.get (F.LQ_LANE_CTL_TX_POL (quadUnit k.val) l.val) = 0 →
      (s.dev.lane k.val l.val).tx = b :: rest → eccDecode b.word = (v, .good) → b.err = false →
    completes (.laneTxBlockSlot k l 0) s (fun d => (d.lane k.val l.val).tx = rest
      ∧ (d.lane k.val l.val).sent = some (if b.ctrl then 2 else 1,
          (if s.dev.on (F.LQ_LANE_CTL_SCR_BYPASS (quadUnit k.val) l.val) then v
            else (scramble 64 (s.dev.lane k.val l.val).txScr v).1) % 2 ^ 64)
      ∧ s.dev.Only d [.lanes] (fieldsOf [])))
  ∧ (∀ (s : State) (k : Fin 24) (l : Fin 4) (up : BitVec 72), s.dev.txIdle k.val l.val = false →
      s.dev.get (F.LQ_LANE_CTL_LOOP (quadUnit k.val) l.val) = 0 →
      s.dev.get (F.LQ_LANE_CTL_MODE (quadUnit k.val) l.val) = 0 →
      s.dev.get (F.LQ_LANE_CTL_TX_POL (quadUnit k.val) l.val) = 0 → (s.dev.lane k.val l.val).tx = [] →
    completes (.laneTxBlockSlot k l up) s (fun d => (d.lane k.val l.val).sent = some (2,
          (if s.dev.on (F.LQ_LANE_CTL_SCR_BYPASS (quadUnit k.val) l.val) then 0x1E
            else (scramble 64 (s.dev.lane k.val l.val).txScr 0x1E).1) % 2 ^ 64)
      ∧ d.get (F.LQ_LANE_UNDER_CNT_COUNT (quadUnit k.val) l.val)
        = satInc 32 (s.dev.get (F.LQ_LANE_UNDER_CNT_COUNT (quadUnit k.val) l.val))
      ∧ d.get (F.LQ_LANE_STATUS_TX_UNDER (quadUnit k.val) l.val) = 1
      ∧ s.dev.Only d [.lanes] (fieldsOf [F.LQ_LANE_UNDER_CNT_COUNT (quadUnit k.val) l.val,
          F.LQ_LANE_STATUS_TX_UNDER (quadUnit k.val) l.val])))
  ∧ (∀ (s : State) (k : Fin 24) (l : Fin 4) (up : BitVec 72), s.dev.txIdle k.val l.val = true →
      s.dev.get (F.LQ_LANE_CTL_LOOP (quadUnit k.val) l.val) ≠ 1 →
    completes (.laneTxBlockSlot k l up) s (fun d => d = s.dev))
  ∧ (∀ (s : State) (k : Fin 24) (l : Fin 4) (rx : BitVec 64), s.dev.laneHears k.val l.val = true →
      s.dev.get (F.LQ_LANE_CTL_MODE (quadUnit k.val) l.val) = 1 →
      s.dev.get (F.LQ_LANE_CTL_LOOP (quadUnit k.val) l.val) ≠ 1 →
      s.dev.get (F.LQ_LANE_CTL_RX_POL (quadUnit k.val) l.val) = 0 →
      s.dev.get (F.LQ_LANE_PRBS_CHK (quadUnit k.val) l.val) ≠ 0 →
      s.dev.get (F.LQ_LANE_STATUS_PRBS_LOCK (quadUnit k.val) l.val) = 1 → (s.dev.lane k.val l.val).wrong < 64 →
      rx.toNat = (prbsRun (s.dev.get (F.LQ_LANE_PRBS_CHK (quadUnit k.val) l.val)) 64 (s.dev.lane k.val l.val).chk).1 →
    completes (.prbsCheck k l rx) s (fun d =>
      (d.lane k.val l.val).chk
        = (prbsRun (s.dev.get (F.LQ_LANE_PRBS_CHK (quadUnit k.val) l.val)) 64 (s.dev.lane k.val l.val).chk).2
      ∧ s.dev.Only d [.lanes] (fieldsOf [])))
  ∧ (∀ (s : State) (k : Fin 24) (l : Fin 4) (rx : BitVec 64), s.dev.laneHears k.val l.val = false →
    completes (.prbsCheck k l rx) s (fun d => d = s.dev))
  ∧ (∀ (s : State) (k : Fin 24) (l : Fin 4), s.dev.refusalsFull (quadDie k.val) = false →
      s.dev.get (F.LQ_LANE_SWEEP_CTL_GO (quadUnit k.val) l.val) = 0 → s.dev.clk.osc = Osc.STABLE →
    completes (.laneSweepGo k l) s (fun d => d.get (F.LQ_LANE_SWEEP_CTL_GO (quadUnit k.val) l.val) = 1
      ∧ d.get (F.LQ_LANE_RX_PEAK (quadUnit k.val) l.val) = 0
      ∧ d.lane k.val l.val = { s.dev.lane k.val l.val with
          sweepPeak := s.dev.get (F.LQ_LANE_RX_PEAK (quadUnit k.val) l.val), sweepStep := 0, sweepErr := 0 }
      ∧ s.dev.Only d [.lanes] (fieldsOf [F.LQ_LANE_SWEEP_CTL_GO (quadUnit k.val) l.val,
          F.LQ_LANE_RX_PEAK (quadUnit k.val) l.val])))
  ∧ (∀ (s : State) (k : Fin 24) (l : Fin 4), s.dev.refusalsFull (quadDie k.val) = false →
      (s.dev.get (F.LQ_LANE_SWEEP_CTL_GO (quadUnit k.val) l.val) = 1 ∨ s.dev.clk.osc ≠ Osc.STABLE) →
    completes (.laneSweepGo k l) s (fun d => d.get (F.LQ_REFUSE_REASON (quadUnit k.val))
        = (if s.dev.get (F.LQ_LANE_SWEEP_CTL_GO (quadUnit k.val) l.val) = 1 then Reason.busy else .noTimebase).code
      ∧ s.dev.Only d [.refusals] (fieldsOf [(F.LQ_REFUSE_REASON (quadUnit k.val)).reg])))
  ∧ (∀ (s : State) (k : Fin 24) (l : Fin 4), s.dev.get (F.LQ_LANE_SWEEP_CTL_GO (quadUnit k.val) l.val) = 1 →
      (s.dev.lane k.val l.val).sweepStep < 15 →
    completes (.sweepStep k l) s (fun d =>
      d.get (sweepReg (quadUnit k.val) l.val (s.dev.lane k.val l.val).sweepStep) ≤ (s.dev.lane k.val l.val).sweepErr
      ∧ d.get (F.LQ_LANE_RX_PEAK (quadUnit k.val) l.val) = (s.dev.lane k.val l.val).sweepStep + 1
      ∧ d.lane k.val l.val = { s.dev.lane k.val l.val with
          sweepStep := (s.dev.lane k.val l.val).sweepStep + 1, sweepErr := 0 }
      ∧ s.dev.Only d [.lanes, .free] (fieldsOf [F.LQ_LANE_RX_PEAK (quadUnit k.val) l.val,
          sweepReg (quadUnit k.val) l.val (s.dev.lane k.val l.val).sweepStep])))
  ∧ (∀ (s : State) (k : Fin 24) (l : Fin 4), s.dev.running = true → s.dev.silent (quadUnit k.val) = false →
      s.dev.get (F.LQ_LANE_SWEEP_CTL_GO (quadUnit k.val) l.val) = 1 →
      (s.dev.lane k.val l.val).sweepStep = 15 → (s.dev.lane k.val l.val).sweepPeak < 16 →
    completes (.sweepStep k l) s (fun d =>
      d.get (sweepReg (quadUnit k.val) l.val 15) ≤ (s.dev.lane k.val l.val).sweepErr
      ∧ d.get (F.LQ_LANE_RX_PEAK (quadUnit k.val) l.val) = (s.dev.lane k.val l.val).sweepPeak
      ∧ d.get (F.LQ_LANE_SWEEP_CTL_GO (quadUnit k.val) l.val) = 0 ∧ d.latched (Ev.LANE_QUAD k.val) = true
      ∧ s.dev.OnlyNoted d [.lanes, .free] (fieldsOf [F.LQ_LANE_RX_PEAK (quadUnit k.val) l.val,
          F.LQ_LANE_SWEEP_CTL_GO (quadUnit k.val) l.val, sweepReg (quadUnit k.val) l.val 15])))
  ∧ (∀ (s : State) (k : Fin 24) (l : Fin 4), s.dev.get (F.LQ_LANE_SWEEP_CTL_GO (quadUnit k.val) l.val) = 0 →
    completes (.sweepStep k l) s (fun d => d = s.dev))

/-! ## Temperature (chapter 26) and register writes (chapter 00) -/

/-- A sample shows the reading of every die (0x80 where its core rail is not good), the highest and its die; WARN latches
with THERM_WARN when the highest reading first reaches the limit, and may do so again once it has fallen below the limit
minus 5; TRIP latches with THERM_TRIP at 118, with ACTIVE as ACTION says. With SAFE_HOLD every running zone clock is then
held after its next edge. Clearing TRIP, by its row or by a register write, restarts a zone so held on the source it
stopped on, unless the Lehr, a failed reference or a loop that is not locked goes on holding it; a ramp that the hold
interrupted goes on, and a GO or RAMP that waited starts. Clearing needs MCK. -/
def Obligations.Thermal : Prop :=
  (∀ (s : State) (p f1 f2 f3 f4 : BitVec 8), s.dev.get F.PW_STATUS_PHASE = 0 →
    completes (.tempSample p f1 f2 f3 f4) s (fun d =>
      (let r := fun k => s.dev.reading k (([p, f1, f2, f3, f4].map BitVec.toNat).getD k 0)
       d.get F.MG_TEMP0_P = r 0 ∧ d.get F.MG_TEMP0_F1 = r 1 ∧ d.get F.MG_TEMP0_F2 = r 2 ∧ d.get F.MG_TEMP0_F3 = r 3
       ∧ d.get F.MG_TEMP1_F4 = r 4
       ∧ (∀ k, k < 5 → signed 8 (r k) ≤ signed 8 (d.get F.MG_TEMP1_MAX))
       ∧ d.get F.MG_TEMP1_MAXDIE < 5 ∧ d.get F.MG_TEMP1_MAX = r (d.get F.MG_TEMP1_MAXDIE))
      ∧ (let m := signed 8 (d.get F.MG_TEMP1_MAX)
         let w := signed 8 (s.dev.get F.MG_THERM_CFG_WARN)
         (w ≤ m → s.dev.warnOn = false → d.warnOn = true ∧ d.get F.MG_THERM_STATUS_WARN = 1
            ∧ (s.dev.board.mck = true → d.latched Ev.THERM_WARN = true))
         ∧ ((m < w ∨ s.dev.warnOn = true) → d.get F.MG_THERM_STATUS_WARN = s.dev.get F.MG_THERM_STATUS_WARN)
         ∧ (m < w - 5 → d.warnOn = false) ∧ (w - 5 ≤ m → m < w → d.warnOn = s.dev.warnOn)
         ∧ (118 ≤ m → d.get F.MG_THERM_STATUS_TRIP = 1)
         ∧ (118 ≤ m → s.dev.get F.MG_THERM_STATUS_TRIP = 0 →
              d.get F.MG_THERM_STATUS_ACTIVE = b2n (s.dev.get F.MG_THERM_CFG_ACTION != 0)
              ∧ (s.dev.board.mck = true → d.latched Ev.THERM_TRIP = true))
         ∧ ((m < 118 ∨ s.dev.get F.MG_THERM_STATUS_TRIP = 1) → d.zones = s.dev.zones
              ∧ d.get F.MG_THERM_STATUS_TRIP = s.dev.get F.MG_THERM_STATUS_TRIP
              ∧ d.get F.MG_THERM_STATUS_ACTIVE = s.dev.get F.MG_THERM_STATUS_ACTIVE
              ∧ ∀ n, n < 256 → d.zcState n = s.dev.zcState n))
      ∧ s.dev.OnlyNoted d [.warnOn, .zones] (fun f => zoneClkReg f.key || fieldsOf [F.MG_TEMP0_P.reg, F.MG_TEMP1_MAX.reg,
          F.MG_THERM_STATUS_WARN, F.MG_THERM_STATUS_TRIP, F.MG_THERM_STATUS_ACTIVE] f)))
  ∧ (∀ (s : State) (p f1 f2 f3 f4 : BitVec 8), s.dev.get F.PW_STATUS_PHASE = 0 → 118 ≤ p.toInt →
      s.dev.get F.MG_THERM_STATUS_TRIP = 0 → s.dev.get F.MG_THERM_CFG_ACTION = 2 →
    completes (.tempSample p f1 f2 f3 f4) s (fun d => ∀ n, n < 256 →
      (s.dev.zcState n ∈ [Zc.REF, Zc.ROOT, Zc.RIDING] → d.zcState n = Zc.HELD
        ∧ d.zone n = { s.dev.zone n with clk := { (s.dev.zone n).clk with
            held := some .therm, heldRef := s.dev.zcState n == Zc.REF,
            heldDiv := s.dev.get (F.ZN_CLK_STATUS_DIV_NOW (zoneUnit n)), lastEdge := s.dev.nextEdge n, wait := .none } })
      ∧ (s.dev.zcState n ∈ [Zc.SWITCHING, Zc.RAMPING] → d.zcState n = Zc.HELD ∧ (d.zone n).clk.held = some .therm
        ∧ (d.zone n).clk.wait = s.dev.interrupted n)
      ∧ (s.dev.zcState n = Zc.SWITCHING → (d.zone n).clk.heldRef = (s.dev.zone n).clk.toRef
        ∧ (d.zone n).clk.heldDiv = (s.dev.zone n).clk.toDiv)
      ∧ (s.dev.zcState n = Zc.RAMPING → (d.zone n).clk.heldRef = false
        ∧ (d.zone n).clk.heldDiv = s.dev.get (F.ZN_CLK_STATUS_DIV_NOW (zoneUnit n)))
      ∧ (s.dev.zcState n ∈ [Zc.STOPPED, Zc.GATED, Zc.HELD] → d.zcState n = s.dev.zcState n
        ∧ d.zone n = s.dev.zone n)))
  ∧ (∀ (s : State) (c : Instr), (c = .thermTripClear ∨ ∃ who, c = .registerWrite who 0x000 0x0AC 2) →
      s.dev.board.mck = true → s.dev.get F.PW_STATUS_PHASE = 0 →
    completes c s (fun d => d.get F.MG_THERM_STATUS_TRIP = 0 ∧ d.get F.MG_THERM_STATUS_ACTIVE = 0
      ∧ (∀ n, n < 256 →
          (s.dev.zcState n = Zc.HELD → (s.dev.zone n).clk.held = some .therm → s.dev.lehrHeld n = true →
            d.zcState n = Zc.HELD ∧ (d.zone n).clk.held = some .lehr)
          ∧ (s.dev.zcState n = Zc.HELD → (s.dev.zone n).clk.held = some .therm → s.dev.lehrHeld n = false →
              (s.dev.zone n).clk.heldRef = true → s.dev.clk.osc ≠ Osc.STABLE →
            d.zcState n = Zc.HELD ∧ (d.zone n).clk.held = some .reference)
          ∧ (s.dev.zcState n = Zc.HELD → (s.dev.zone n).clk.held = some .therm → s.dev.lehrHeld n = false →
              (s.dev.zone n).clk.heldRef = false → s.dev.loopLocked n = false →
            d.zcState n = Zc.HELD ∧ (d.zone n).clk.held = some .policy)
          ∧ (s.dev.zcState n = Zc.HELD → (s.dev.zone n).clk.held = some .therm → s.dev.lehrHeld n = false →
              (if (s.dev.zone n).clk.heldRef then s.dev.clk.osc = Osc.STABLE else s.dev.loopLocked n = true) →
            (d.zone n).clk.held = none ∧ (d.zone n).clk.wait = .none
              ∧ d.get (F.ZN_CLK_STATUS_ALIGNED (zoneUnit n)) = b2n (!(s.dev.zone n).clk.heldRef)
              ∧ d.get (F.ZN_CLK_STATUS_DIV_NOW (zoneUnit n))
                = (if (s.dev.zone n).clk.heldRef then 0 else (s.dev.zone n).clk.heldDiv % 8192)
              ∧ d.zcState n = (match (s.dev.zone n).clk.wait with
                | .command => Zc.SWITCHING
                | .ramp => if (s.dev.zone n).clk.heldRef then Zc.REF else Zc.RAMPING
                | _ => if (s.dev.zone n).clk.heldRef then Zc.REF else Zc.ROOT)
              ∧ ((s.dev.zone n).clk.wait ≠ .switch → s.dev.silent (zoneUnit n) = false →
                  d.latched Ev.ZONE_CLK_SWITCH_DONE = true))
          ∧ ((s.dev.zcState n ≠ Zc.HELD ∨ (s.dev.zone n).clk.held ≠ some .therm) →
            d.zone n = s.dev.zone n ∧ d.zcState n = s.dev.zcState n))
      ∧ s.dev.OnlyNoted d [.zones] (fun f => zoneClkReg f.key
          || fieldsOf [F.MG_THERM_STATUS_TRIP, F.MG_THERM_STATUS_ACTIVE] f)))
  ∧ (∀ s : State, s.dev.board.mck = false → completes .thermTripClear s (fun d => d = s.dev))

/-- A register write always completes. Where no register is, it has no effect; nor in a P-die unit without MCK, nor in a unit
of a die that is fenced or has no room for a refusal. RO fields keep their values (MG_ID); RW fields take the written value
(EV_HOST_MASK but for the events that have no bit, MG_MCK_LOSS within its range); W1C fields are cleared where a 1 is written
(MG_SUPPLY_LATCH); an illegal value keeps the field and is refused with its reason and index (MG_MCK_LOSS, MG_MCK_HZ); a
locked field that would change keeps its value and is refused with BUSY (LHR_POLICY while the Lehr runs). -/
def Obligations.RegisterWrites : Prop :=
  (∀ (s : State) (who : Initiator) (unit off : BitVec 12) (v : Word),
      ∃ t, exec (.registerWrite who unit off v) s = .next t ∧ t.pending = s.pending)
  ∧ (∀ (s : State) (who : Initiator) (unit off : BitVec 12) (v : Word),
      (regDesc (unit.toNat * 4096 + off.toNat) = none ∨ (unit.toNat < 512 ∧ s.dev.board.mck = false)
        ∨ (512 ≤ unit.toNat ∧ (s.dev.fenced (unit.toNat / 512) = true ∨ s.dev.refusalsFull (unit.toNat / 512) = true))) →
    completes (.registerWrite who unit off v) s (fun d => d = s.dev))
  ∧ (∀ (s : State) (who : Initiator) (v : Word), s.dev.board.mck = true →
    completes (.registerWrite who 0x000 0x000 v) s (fun d => s.dev.Only d [] (fieldsOf [])))
  ∧ (∀ (s : State) (who : Initiator) (k : Fin 4) (v : Word), s.dev.board.mck = true →
    completes (.registerWrite who 0x006 (0x010 + 4 * BitVec.ofNat 12 k.val) v) s (fun d =>
      (∀ i, i < 32 → 32 * k.val + i ∉ [31, 94, 95] →
        bit (d.get (F.EV_HOST_MASK_EVENTS k.val)) i = v.getLsbD i)
      ∧ (∀ i, i < 32 → 32 * k.val + i ∈ [31, 94, 95] → bit (d.get (F.EV_HOST_MASK_EVENTS k.val)) i = false)
      ∧ d.ev = { s.dev.ev with mirqLow := d.ev.mirqLow } ∧ (s.dev.rst.por = false → d.ev.mirqLow = d.mirqWanted)
      ∧ s.dev.Only d [.ev] (fieldsOf [F.EV_HOST_MASK_EVENTS k.val])))
  ∧ (∀ (s : State) (who : Initiator) (v : Word), s.dev.board.mck = true →
    completes (.registerWrite who 0x000 0x044 v) s (fun d =>
      (∀ i, 2 ≤ i → i ≤ 6 → bit (d.get ⟨0x44, 31, 0⟩) i = (bit (s.dev.get ⟨0x44, 31, 0⟩) i && !v.getLsbD i))
      ∧ s.dev.Only d [] (fieldsOf [⟨0x44, 6, 2⟩])))
  ∧ (∀ (s : State) (who : Initiator) (v : Word), s.dev.board.mck = true → 10 ≤ v.toNat % 16384 → v.toNat % 16384 ≤ 10000 →
    completes (.registerWrite who 0x000 0x068 v) s (fun d => d.get F.MG_MCK_LOSS_LOSS_US = v.toNat % 16384
      ∧ s.dev.Only d [] (fieldsOf [F.MG_MCK_LOSS_LOSS_US])))
  ∧ (∀ (s : State) (who : Initiator) (off : BitVec 12) (v : Word) (why : Reason), s.dev.running = true →
      ((off = 0x068 ∧ why = .reservedValue ∧ (v.toNat % 16384 < 10 ∨ 10000 < v.toNat % 16384)
          ∧ v.toNat % 16384 ≠ s.dev.get F.MG_MCK_LOSS_LOSS_US)
        ∨ (off = 0x060 ∧ v.toNat % 2 ^ 26 ≠ s.dev.get F.MG_MCK_HZ_HZ
          ∧ ((why = .mckTooSlow ∧ v.toNat % 2 ^ 26 < 1000000)
            ∨ (why = .reservedValue ∧ 50000000 < v.toNat % 2 ^ 26)))) →
    completes (.registerWrite who 0x000 off v) s (fun d => d.get F.MG_REFUSE_REASON = why.code
      ∧ d.get F.MG_REFUSE_INDEX = off.toNat / 4 ∧ s.dev.OnlyNoted d [] (fieldsOf [F.MG_REFUSE_REASON.reg])))
  ∧ (∀ (s : State) (who : Initiator) (v : Word), s.dev.board.mck = true → 1000000 ≤ v.toNat % 2 ^ 26 →
      v.toNat % 2 ^ 26 ≤ 50000000 →
    completes (.registerWrite who 0x000 0x060 v) s (fun d => d.get F.MG_MCK_HZ_HZ = v.toNat % 2 ^ 26
      ∧ s.dev.Only d [] (fieldsOf [F.MG_MCK_HZ_HZ])))
  ∧ (∀ (s : State) (who : Initiator) (k : Die) (i : Fin 4) (v : Word), s.dev.fenced k.no = false →
      s.dev.refusalsFull k.no = false → s.dev.on (F.LHR_CTL_EN (U.GTH k.no)) = true →
      v.toNat ≠ s.dev.get (F.LHR_POLICY_POLICY (U.GTH k.no) i.val) →
    completes (.registerWrite who (BitVec.ofNat 12 (U.GTH k.no)) (0x120 + 4 * BitVec.ofNat 12 i.val) v) s (fun d =>
      d.get (F.LHR_REFUSE_REASON (U.GTH k.no)) = Reason.busy.code
      ∧ d.get (F.LHR_REFUSE_INDEX (U.GTH k.no)) = 0x48 + i.val
      ∧ d.refusalQueue k.no
        = s.dev.refusalQueue k.no ++ [{ unit := U.GTH k.no, reason := Reason.busy.code, index := 0x48 + i.val }]
      ∧ s.dev.Only d [.refusals] (fieldsOf [(F.LHR_REFUSE_REASON (U.GTH k.no)).reg])))
  ∧ (∀ (s : State) (who : Initiator) (k : Die) (i : Fin 4) (v : Word), s.dev.fenced k.no = false →
      s.dev.refusalsFull k.no = false → s.dev.on (F.LHR_CTL_EN (U.GTH k.no)) = false →
    completes (.registerWrite who (BitVec.ofNat 12 (U.GTH k.no)) (0x120 + 4 * BitVec.ofNat 12 i.val) v) s (fun d =>
      d.get (F.LHR_POLICY_POLICY (U.GTH k.no) i.val) = v.toNat
      ∧ s.dev.Only d [] (fieldsOf [F.LHR_POLICY_POLICY (U.GTH k.no) i.val])))
end

