-- ==== Sys2Proof/Laws/Bits.lean ====
section
/-! SUPPORT. Lemmas of bit fields: a field read after a field was written, and the bounds of both. -/

namespace Sys2Proof

theorem bits_lt (n hi lo : Nat) : bits n hi lo < 2 ^ (hi + 1 - lo) := Nat.mod_lt _ (Nat.two_pow_pos _)

theorem bit_eq_testBit (n i : Nat) : bit n i = n.testBit i := by
  simp [bit, Nat.testBit, Nat.shiftRight_eq_div_pow, Nat.one_and_eq_mod_two]

theorem bits_testBit (n hi lo j : Nat) :
    (bits n hi lo).testBit j = (decide (j < hi + 1 - lo) && n.testBit (lo + j)) := by
  simp [bits, Nat.testBit_mod_two_pow, Nat.testBit_div_two_pow, Nat.add_comm]

end Sys2Proof

namespace Sys2Proof.Machine

theorem putBits_testBit {hi lo : Nat} (h : lo ≤ hi) (n v j : Nat) :
    (putBits n hi lo v).testBit j =
      if lo ≤ j ∧ j ≤ hi then v.testBit (j - lo) else n.testBit j := by
  have hlow : n % 2 ^ lo < 2 ^ lo := Nat.mod_lt _ (Nat.two_pow_pos _)
  have hmid : v % 2 ^ (hi + 1 - lo) * 2 ^ lo + n % 2 ^ lo < 2 ^ (hi + 1) := by
    have h1 : v % 2 ^ (hi + 1 - lo) + 1 ≤ 2 ^ (hi + 1 - lo) := Nat.mod_lt _ (Nat.two_pow_pos _)
    have h2 : 2 ^ (hi + 1) = 2 ^ (hi + 1 - lo) * 2 ^ lo := by rw [← Nat.pow_add]; congr 1; omega
    have h3 := Nat.mul_le_mul_right (2 ^ lo) h1
    rw [h2, Nat.add_mul] at *
    omega
  have e : putBits n hi lo v
      = 2 ^ (hi + 1) * (n / 2 ^ (hi + 1)) + (2 ^ lo * (v % 2 ^ (hi + 1 - lo)) + n % 2 ^ lo) := by
    unfold putBits; rw [Nat.mul_comm (2 ^ (hi + 1)), Nat.mul_comm (2 ^ lo)]; omega
  rw [e, Nat.testBit_two_pow_mul_add _ (by rw [Nat.mul_comm]; exact hmid),
    Nat.testBit_two_pow_mul_add _ hlow, Nat.testBit_mod_two_pow, Nat.testBit_mod_two_pow,
    Nat.testBit_div_two_pow]
  by_cases h1 : j < hi + 1
  · by_cases h2 : j < lo
    · have : ¬ (lo ≤ j ∧ j ≤ hi) := by omega
      simp [h1, h2, this]
    · have h4 : j - lo < hi + 1 - lo := by omega
      have : lo ≤ j ∧ j ≤ hi := by omega
      simp [h1, h2, this, h4]
  · have : ¬ (lo ≤ j ∧ j ≤ hi) := by omega
    have h5 : hi + 1 + (j - (hi + 1)) = j := by omega
    simp [h1, this, h5, Nat.add_comm]

theorem setBit_eq_putBits (n i : Nat) : setBit n i = putBits n i i 1 := by
  have e : n = n / 2 ^ (i + 1) * 2 ^ (i + 1) + n / 2 ^ i % 2 * 2 ^ i + n % 2 ^ i := by
    have h1 := Nat.div_add_mod n (2 ^ i)
    have h2 := Nat.div_add_mod (n / 2 ^ i) 2
    rw [Nat.div_div_eq_div_mul, ← Nat.pow_succ] at h2
    have h3 : n / 2 ^ (i + 1) * 2 ^ (i + 1) = 2 ^ i * (2 * (n / 2 ^ (i + 1))) := by
      rw [Nat.pow_succ]; ac_rfl
    have h4 : 2 ^ i * (2 * (n / 2 ^ (i + 1))) + n / 2 ^ i % 2 * 2 ^ i = 2 ^ i * (n / 2 ^ i) := by
      rw [Nat.mul_comm (n / 2 ^ i % 2), ← Nat.mul_add, h2]
    rw [h3, h4, h1]
  have h1 : i + 1 - i = 1 := by omega
  unfold setBit putBits bit
  rw [h1]
  by_cases h : n / 2 ^ i % 2 = 1
  · rw [h] at e
    simp only [h, beq_self_eq_true, if_true]
    exact e
  · have h0 : n / 2 ^ i % 2 = 0 := by omega
    rw [h0] at e
    simp [h0]
    omega

theorem setBit_testBit (n i j : Nat) : (setBit n i).testBit j = (n.testBit j || decide (i = j)) := by
  rw [setBit_eq_putBits, putBits_testBit (Nat.le_refl i)]
  by_cases h : i = j
  · subst h; simp
  · have : ¬ (i ≤ j ∧ j ≤ i) := by omega
    simp [this, h]

/-- A field read after it was written. -/
theorem bits_putBits {hi lo : Nat} (h : lo ≤ hi) (n v : Nat) :
    bits (putBits n hi lo v) hi lo = v % 2 ^ (hi + 1 - lo) := by
  apply Nat.eq_of_testBit_eq
  intro j
  rw [bits_testBit, putBits_testBit h, Nat.testBit_mod_two_pow]
  by_cases hj : j < hi + 1 - lo
  · have : lo ≤ lo + j ∧ lo + j ≤ hi := by omega
    simp [hj, this]
  · simp [hj]

/-- A field read after another one of the same register was written. -/
theorem bits_putBits_apart {hi lo hi' lo' : Nat} (h : lo ≤ hi) (hd : hi' < lo ∨ hi < lo') (n v : Nat) :
    bits (putBits n hi lo v) hi' lo' = bits n hi' lo' := by
  apply Nat.eq_of_testBit_eq
  intro j
  rw [bits_testBit, bits_testBit, putBits_testBit h]
  by_cases hj : j < hi' + 1 - lo'
  · have : ¬ (lo ≤ lo' + j ∧ lo' + j ≤ hi) := by omega
    simp [this]
  · simp [hj]

/-- The bits of the low 32 are those of the number. -/
theorem bits_mod_word {hi lo : Nat} (h : hi < 32) (n : Nat) : bits (n % 2 ^ 32) hi lo = bits n hi lo := by
  apply Nat.eq_of_testBit_eq
  intro j
  rw [bits_testBit, bits_testBit, Nat.testBit_mod_two_pow]
  by_cases hj : j < hi + 1 - lo
  · have : lo + j < 32 := by omega
    simp [this]
  · simp [hj]

end Sys2Proof.Machine
end

