-- ==== Sys2Proof/Laws/State.lean ====
section
/-! SUPPORT. What each update of the device leaves: one lemma per field per update, true by `rfl`. -/

namespace Sys2Proof.Machine


/-! `Device.wr` -/

@[simp] theorem Device.wr_free (d : Device) (k v : Nat) : (d.wr k v).free = d.free := (rfl)
@[simp] theorem Device.wr_board (d : Device) (k v : Nat) : (d.wr k v).board = d.board := (rfl)
@[simp] theorem Device.wr_rst (d : Device) (k v : Nat) : (d.wr k v).rst = d.rst := (rfl)
@[simp] theorem Device.wr_clk (d : Device) (k v : Nat) : (d.wr k v).clk = d.clk := (rfl)
@[simp] theorem Device.wr_zones (d : Device) (k v : Nat) : (d.wr k v).zones = d.zones := (rfl)
@[simp] theorem Device.wr_ring (d : Device) (k v : Nat) : (d.wr k v).ring = d.ring := (rfl)
@[simp] theorem Device.wr_brErrs (d : Device) (k v : Nat) : (d.wr k v).brErrs = d.brErrs := (rfl)
@[simp] theorem Device.wr_ev (d : Device) (k v : Nat) : (d.wr k v).ev = d.ev := (rfl)
@[simp] theorem Device.wr_cul (d : Device) (k v : Nat) : (d.wr k v).cul = d.cul := (rfl)
@[simp] theorem Device.wr_refusals (d : Device) (k v : Nat) : (d.wr k v).refusals = d.refusals := (rfl)
@[simp] theorem Device.wr_pw (d : Device) (k v : Nat) : (d.wr k v).pw = d.pw := (rfl)
@[simp] theorem Device.wr_banks (d : Device) (k v : Nat) : (d.wr k v).banks = d.banks := (rfl)
@[simp] theorem Device.wr_orm (d : Device) (k v : Nat) : (d.wr k v).orm = d.orm := (rfl)
@[simp] theorem Device.wr_fuses (d : Device) (k v : Nat) : (d.wr k v).fuses = d.fuses := (rfl)
@[simp] theorem Device.wr_keys (d : Device) (k v : Nat) : (d.wr k v).keys = d.keys := (rfl)
@[simp] theorem Device.wr_trng (d : Device) (k v : Nat) : (d.wr k v).trng = d.trng := (rfl)
@[simp] theorem Device.wr_lc (d : Device) (k v : Nat) : (d.wr k v).lc = d.lc := (rfl)
@[simp] theorem Device.wr_tap (d : Device) (k v : Nat) : (d.wr k v).tap = d.tap := (rfl)
@[simp] theorem Device.wr_bat (d : Device) (k v : Nat) : (d.wr k v).bat = d.bat := (rfl)
@[simp] theorem Device.wr_gath (d : Device) (k v : Nat) : (d.wr k v).gath = d.gath := (rfl)
@[simp] theorem Device.wr_cmp (d : Device) (k v : Nat) : (d.wr k v).cmp = d.cmp := (rfl)
@[simp] theorem Device.wr_lehr (d : Device) (k v : Nat) : (d.wr k v).lehr = d.lehr := (rfl)
@[simp] theorem Device.wr_gaf (d : Device) (k v : Nat) : (d.wr k v).gaf = d.gaf := (rfl)
@[simp] theorem Device.wr_pool (d : Device) (k v : Nat) : (d.wr k v).pool = d.pool := (rfl)
@[simp] theorem Device.wr_smv (d : Device) (k v : Nat) : (d.wr k v).smv = d.smv := (rfl)
@[simp] theorem Device.wr_smvTurn (d : Device) (k v : Nat) : (d.wr k v).smvTurn = d.smvTurn := (rfl)
@[simp] theorem Device.wr_bankVolt (d : Device) (k v : Nat) : (d.wr k v).bankVolt = d.bankVolt := (rfl)
@[simp] theorem Device.wr_calSeen (d : Device) (k v : Nat) : (d.wr k v).calSeen = d.calSeen := (rfl)
@[simp] theorem Device.wr_lanes (d : Device) (k v : Nat) : (d.wr k v).lanes = d.lanes := (rfl)
@[simp] theorem Device.wr_warnOn (d : Device) (k v : Nat) : (d.wr k v).warnOn = d.warnOn := (rfl)
@[simp] theorem Device.wr_enc (d : Device) (k v : Nat) : (d.wr k v).enc = d.enc := (rfl)
@[simp] theorem Device.wr_marks (d : Device) (k v : Nat) : (d.wr k v).marks = d.marks := (rfl)
@[simp] theorem Device.wr_cams (d : Device) (k v : Nat) : (d.wr k v).cams = d.cams := (rfl)
@[simp] theorem Device.wr_eviSeen (d : Device) (k v : Nat) : (d.wr k v).eviSeen = d.eviSeen := (rfl)
@[simp] theorem Device.wr_xbConf (d : Device) (k v : Nat) : (d.wr k v).xbConf = d.xbConf := (rfl)
@[simp] theorem Device.wr_ident (d : Device) (k v : Nat) : (d.wr k v).ident = d.ident := (rfl)
@[simp] theorem Device.wr_ml (d : Device) (k v : Nat) : (d.wr k v).ml = d.ml := (rfl)

/-! `Device.set` -/

@[simp] theorem Device.set_free (d : Device) (f : Field) (v : Nat) : (d.set f v).free = d.free := (rfl)
@[simp] theorem Device.set_board (d : Device) (f : Field) (v : Nat) : (d.set f v).board = d.board := (rfl)
@[simp] theorem Device.set_rst (d : Device) (f : Field) (v : Nat) : (d.set f v).rst = d.rst := (rfl)
@[simp] theorem Device.set_clk (d : Device) (f : Field) (v : Nat) : (d.set f v).clk = d.clk := (rfl)
@[simp] theorem Device.set_zones (d : Device) (f : Field) (v : Nat) : (d.set f v).zones = d.zones := (rfl)
@[simp] theorem Device.set_ring (d : Device) (f : Field) (v : Nat) : (d.set f v).ring = d.ring := (rfl)
@[simp] theorem Device.set_brErrs (d : Device) (f : Field) (v : Nat) : (d.set f v).brErrs = d.brErrs := (rfl)
@[simp] theorem Device.set_ev (d : Device) (f : Field) (v : Nat) : (d.set f v).ev = d.ev := (rfl)
@[simp] theorem Device.set_cul (d : Device) (f : Field) (v : Nat) : (d.set f v).cul = d.cul := (rfl)
@[simp] theorem Device.set_refusals (d : Device) (f : Field) (v : Nat) : (d.set f v).refusals = d.refusals := (rfl)
@[simp] theorem Device.set_pw (d : Device) (f : Field) (v : Nat) : (d.set f v).pw = d.pw := (rfl)
@[simp] theorem Device.set_banks (d : Device) (f : Field) (v : Nat) : (d.set f v).banks = d.banks := (rfl)
@[simp] theorem Device.set_orm (d : Device) (f : Field) (v : Nat) : (d.set f v).orm = d.orm := (rfl)
@[simp] theorem Device.set_fuses (d : Device) (f : Field) (v : Nat) : (d.set f v).fuses = d.fuses := (rfl)
@[simp] theorem Device.set_keys (d : Device) (f : Field) (v : Nat) : (d.set f v).keys = d.keys := (rfl)
@[simp] theorem Device.set_trng (d : Device) (f : Field) (v : Nat) : (d.set f v).trng = d.trng := (rfl)
@[simp] theorem Device.set_lc (d : Device) (f : Field) (v : Nat) : (d.set f v).lc = d.lc := (rfl)
@[simp] theorem Device.set_tap (d : Device) (f : Field) (v : Nat) : (d.set f v).tap = d.tap := (rfl)
@[simp] theorem Device.set_bat (d : Device) (f : Field) (v : Nat) : (d.set f v).bat = d.bat := (rfl)
@[simp] theorem Device.set_gath (d : Device) (f : Field) (v : Nat) : (d.set f v).gath = d.gath := (rfl)
@[simp] theorem Device.set_cmp (d : Device) (f : Field) (v : Nat) : (d.set f v).cmp = d.cmp := (rfl)
@[simp] theorem Device.set_lehr (d : Device) (f : Field) (v : Nat) : (d.set f v).lehr = d.lehr := (rfl)
@[simp] theorem Device.set_gaf (d : Device) (f : Field) (v : Nat) : (d.set f v).gaf = d.gaf := (rfl)
@[simp] theorem Device.set_pool (d : Device) (f : Field) (v : Nat) : (d.set f v).pool = d.pool := (rfl)
@[simp] theorem Device.set_smv (d : Device) (f : Field) (v : Nat) : (d.set f v).smv = d.smv := (rfl)
@[simp] theorem Device.set_smvTurn (d : Device) (f : Field) (v : Nat) : (d.set f v).smvTurn = d.smvTurn := (rfl)
@[simp] theorem Device.set_bankVolt (d : Device) (f : Field) (v : Nat) : (d.set f v).bankVolt = d.bankVolt := (rfl)
@[simp] theorem Device.set_calSeen (d : Device) (f : Field) (v : Nat) : (d.set f v).calSeen = d.calSeen := (rfl)
@[simp] theorem Device.set_lanes (d : Device) (f : Field) (v : Nat) : (d.set f v).lanes = d.lanes := (rfl)
@[simp] theorem Device.set_warnOn (d : Device) (f : Field) (v : Nat) : (d.set f v).warnOn = d.warnOn := (rfl)
@[simp] theorem Device.set_enc (d : Device) (f : Field) (v : Nat) : (d.set f v).enc = d.enc := (rfl)
@[simp] theorem Device.set_marks (d : Device) (f : Field) (v : Nat) : (d.set f v).marks = d.marks := (rfl)
@[simp] theorem Device.set_cams (d : Device) (f : Field) (v : Nat) : (d.set f v).cams = d.cams := (rfl)
@[simp] theorem Device.set_eviSeen (d : Device) (f : Field) (v : Nat) : (d.set f v).eviSeen = d.eviSeen := (rfl)
@[simp] theorem Device.set_xbConf (d : Device) (f : Field) (v : Nat) : (d.set f v).xbConf = d.xbConf := (rfl)
@[simp] theorem Device.set_ident (d : Device) (f : Field) (v : Nat) : (d.set f v).ident = d.ident := (rfl)
@[simp] theorem Device.set_ml (d : Device) (f : Field) (v : Nat) : (d.set f v).ml = d.ml := (rfl)

/-! `Device.inc` -/

@[simp] theorem Device.inc_free (d : Device) (f : Field) : (d.inc f).free = d.free := (rfl)
@[simp] theorem Device.inc_board (d : Device) (f : Field) : (d.inc f).board = d.board := (rfl)
@[simp] theorem Device.inc_rst (d : Device) (f : Field) : (d.inc f).rst = d.rst := (rfl)
@[simp] theorem Device.inc_clk (d : Device) (f : Field) : (d.inc f).clk = d.clk := (rfl)
@[simp] theorem Device.inc_zones (d : Device) (f : Field) : (d.inc f).zones = d.zones := (rfl)
@[simp] theorem Device.inc_ring (d : Device) (f : Field) : (d.inc f).ring = d.ring := (rfl)
@[simp] theorem Device.inc_brErrs (d : Device) (f : Field) : (d.inc f).brErrs = d.brErrs := (rfl)
@[simp] theorem Device.inc_ev (d : Device) (f : Field) : (d.inc f).ev = d.ev := (rfl)
@[simp] theorem Device.inc_cul (d : Device) (f : Field) : (d.inc f).cul = d.cul := (rfl)
@[simp] theorem Device.inc_refusals (d : Device) (f : Field) : (d.inc f).refusals = d.refusals := (rfl)
@[simp] theorem Device.inc_pw (d : Device) (f : Field) : (d.inc f).pw = d.pw := (rfl)
@[simp] theorem Device.inc_banks (d : Device) (f : Field) : (d.inc f).banks = d.banks := (rfl)
@[simp] theorem Device.inc_orm (d : Device) (f : Field) : (d.inc f).orm = d.orm := (rfl)
@[simp] theorem Device.inc_fuses (d : Device) (f : Field) : (d.inc f).fuses = d.fuses := (rfl)
@[simp] theorem Device.inc_keys (d : Device) (f : Field) : (d.inc f).keys = d.keys := (rfl)
@[simp] theorem Device.inc_trng (d : Device) (f : Field) : (d.inc f).trng = d.trng := (rfl)
@[simp] theorem Device.inc_lc (d : Device) (f : Field) : (d.inc f).lc = d.lc := (rfl)
@[simp] theorem Device.inc_tap (d : Device) (f : Field) : (d.inc f).tap = d.tap := (rfl)
@[simp] theorem Device.inc_bat (d : Device) (f : Field) : (d.inc f).bat = d.bat := (rfl)
@[simp] theorem Device.inc_gath (d : Device) (f : Field) : (d.inc f).gath = d.gath := (rfl)
@[simp] theorem Device.inc_cmp (d : Device) (f : Field) : (d.inc f).cmp = d.cmp := (rfl)
@[simp] theorem Device.inc_lehr (d : Device) (f : Field) : (d.inc f).lehr = d.lehr := (rfl)
@[simp] theorem Device.inc_gaf (d : Device) (f : Field) : (d.inc f).gaf = d.gaf := (rfl)
@[simp] theorem Device.inc_pool (d : Device) (f : Field) : (d.inc f).pool = d.pool := (rfl)
@[simp] theorem Device.inc_smv (d : Device) (f : Field) : (d.inc f).smv = d.smv := (rfl)
@[simp] theorem Device.inc_smvTurn (d : Device) (f : Field) : (d.inc f).smvTurn = d.smvTurn := (rfl)
@[simp] theorem Device.inc_bankVolt (d : Device) (f : Field) : (d.inc f).bankVolt = d.bankVolt := (rfl)
@[simp] theorem Device.inc_calSeen (d : Device) (f : Field) : (d.inc f).calSeen = d.calSeen := (rfl)
@[simp] theorem Device.inc_lanes (d : Device) (f : Field) : (d.inc f).lanes = d.lanes := (rfl)
@[simp] theorem Device.inc_warnOn (d : Device) (f : Field) : (d.inc f).warnOn = d.warnOn := (rfl)
@[simp] theorem Device.inc_enc (d : Device) (f : Field) : (d.inc f).enc = d.enc := (rfl)
@[simp] theorem Device.inc_marks (d : Device) (f : Field) : (d.inc f).marks = d.marks := (rfl)
@[simp] theorem Device.inc_cams (d : Device) (f : Field) : (d.inc f).cams = d.cams := (rfl)
@[simp] theorem Device.inc_eviSeen (d : Device) (f : Field) : (d.inc f).eviSeen = d.eviSeen := (rfl)
@[simp] theorem Device.inc_xbConf (d : Device) (f : Field) : (d.inc f).xbConf = d.xbConf := (rfl)
@[simp] theorem Device.inc_ident (d : Device) (f : Field) : (d.inc f).ident = d.ident := (rfl)
@[simp] theorem Device.inc_ml (d : Device) (f : Field) : (d.inc f).ml = d.ml := (rfl)

/-! `Device.bump` -/

@[simp] theorem Device.bump_free (d : Device) (f : Field) : (d.bump f).free = d.free := (rfl)
@[simp] theorem Device.bump_board (d : Device) (f : Field) : (d.bump f).board = d.board := (rfl)
@[simp] theorem Device.bump_rst (d : Device) (f : Field) : (d.bump f).rst = d.rst := (rfl)
@[simp] theorem Device.bump_clk (d : Device) (f : Field) : (d.bump f).clk = d.clk := (rfl)
@[simp] theorem Device.bump_zones (d : Device) (f : Field) : (d.bump f).zones = d.zones := (rfl)
@[simp] theorem Device.bump_ring (d : Device) (f : Field) : (d.bump f).ring = d.ring := (rfl)
@[simp] theorem Device.bump_brErrs (d : Device) (f : Field) : (d.bump f).brErrs = d.brErrs := (rfl)
@[simp] theorem Device.bump_ev (d : Device) (f : Field) : (d.bump f).ev = d.ev := (rfl)
@[simp] theorem Device.bump_cul (d : Device) (f : Field) : (d.bump f).cul = d.cul := (rfl)
@[simp] theorem Device.bump_refusals (d : Device) (f : Field) : (d.bump f).refusals = d.refusals := (rfl)
@[simp] theorem Device.bump_pw (d : Device) (f : Field) : (d.bump f).pw = d.pw := (rfl)
@[simp] theorem Device.bump_banks (d : Device) (f : Field) : (d.bump f).banks = d.banks := (rfl)
@[simp] theorem Device.bump_orm (d : Device) (f : Field) : (d.bump f).orm = d.orm := (rfl)
@[simp] theorem Device.bump_fuses (d : Device) (f : Field) : (d.bump f).fuses = d.fuses := (rfl)
@[simp] theorem Device.bump_keys (d : Device) (f : Field) : (d.bump f).keys = d.keys := (rfl)
@[simp] theorem Device.bump_trng (d : Device) (f : Field) : (d.bump f).trng = d.trng := (rfl)
@[simp] theorem Device.bump_lc (d : Device) (f : Field) : (d.bump f).lc = d.lc := (rfl)
@[simp] theorem Device.bump_tap (d : Device) (f : Field) : (d.bump f).tap = d.tap := (rfl)
@[simp] theorem Device.bump_bat (d : Device) (f : Field) : (d.bump f).bat = d.bat := (rfl)
@[simp] theorem Device.bump_gath (d : Device) (f : Field) : (d.bump f).gath = d.gath := (rfl)
@[simp] theorem Device.bump_cmp (d : Device) (f : Field) : (d.bump f).cmp = d.cmp := (rfl)
@[simp] theorem Device.bump_lehr (d : Device) (f : Field) : (d.bump f).lehr = d.lehr := (rfl)
@[simp] theorem Device.bump_gaf (d : Device) (f : Field) : (d.bump f).gaf = d.gaf := (rfl)
@[simp] theorem Device.bump_pool (d : Device) (f : Field) : (d.bump f).pool = d.pool := (rfl)
@[simp] theorem Device.bump_smv (d : Device) (f : Field) : (d.bump f).smv = d.smv := (rfl)
@[simp] theorem Device.bump_smvTurn (d : Device) (f : Field) : (d.bump f).smvTurn = d.smvTurn := (rfl)
@[simp] theorem Device.bump_bankVolt (d : Device) (f : Field) : (d.bump f).bankVolt = d.bankVolt := (rfl)
@[simp] theorem Device.bump_calSeen (d : Device) (f : Field) : (d.bump f).calSeen = d.calSeen := (rfl)
@[simp] theorem Device.bump_lanes (d : Device) (f : Field) : (d.bump f).lanes = d.lanes := (rfl)
@[simp] theorem Device.bump_warnOn (d : Device) (f : Field) : (d.bump f).warnOn = d.warnOn := (rfl)
@[simp] theorem Device.bump_enc (d : Device) (f : Field) : (d.bump f).enc = d.enc := (rfl)
@[simp] theorem Device.bump_marks (d : Device) (f : Field) : (d.bump f).marks = d.marks := (rfl)
@[simp] theorem Device.bump_cams (d : Device) (f : Field) : (d.bump f).cams = d.cams := (rfl)
@[simp] theorem Device.bump_eviSeen (d : Device) (f : Field) : (d.bump f).eviSeen = d.eviSeen := (rfl)
@[simp] theorem Device.bump_xbConf (d : Device) (f : Field) : (d.bump f).xbConf = d.xbConf := (rfl)
@[simp] theorem Device.bump_ident (d : Device) (f : Field) : (d.bump f).ident = d.ident := (rfl)
@[simp] theorem Device.bump_ml (d : Device) (f : Field) : (d.bump f).ml = d.ml := (rfl)

/-! `Device.setFieldBit` -/

@[simp] theorem Device.setFieldBit_free (d : Device) (f : Field) (i : Nat) : (d.setFieldBit f i).free = d.free := (rfl)
@[simp] theorem Device.setFieldBit_board (d : Device) (f : Field) (i : Nat) : (d.setFieldBit f i).board = d.board := (rfl)
@[simp] theorem Device.setFieldBit_rst (d : Device) (f : Field) (i : Nat) : (d.setFieldBit f i).rst = d.rst := (rfl)
@[simp] theorem Device.setFieldBit_clk (d : Device) (f : Field) (i : Nat) : (d.setFieldBit f i).clk = d.clk := (rfl)
@[simp] theorem Device.setFieldBit_zones (d : Device) (f : Field) (i : Nat) : (d.setFieldBit f i).zones = d.zones := (rfl)
@[simp] theorem Device.setFieldBit_ring (d : Device) (f : Field) (i : Nat) : (d.setFieldBit f i).ring = d.ring := (rfl)
@[simp] theorem Device.setFieldBit_brErrs (d : Device) (f : Field) (i : Nat) : (d.setFieldBit f i).brErrs = d.brErrs := (rfl)
@[simp] theorem Device.setFieldBit_ev (d : Device) (f : Field) (i : Nat) : (d.setFieldBit f i).ev = d.ev := (rfl)
@[simp] theorem Device.setFieldBit_cul (d : Device) (f : Field) (i : Nat) : (d.setFieldBit f i).cul = d.cul := (rfl)
@[simp] theorem Device.setFieldBit_refusals (d : Device) (f : Field) (i : Nat) : (d.setFieldBit f i).refusals = d.refusals := (rfl)
@[simp] theorem Device.setFieldBit_pw (d : Device) (f : Field) (i : Nat) : (d.setFieldBit f i).pw = d.pw := (rfl)
@[simp] theorem Device.setFieldBit_banks (d : Device) (f : Field) (i : Nat) : (d.setFieldBit f i).banks = d.banks := (rfl)
@[simp] theorem Device.setFieldBit_orm (d : Device) (f : Field) (i : Nat) : (d.setFieldBit f i).orm = d.orm := (rfl)
@[simp] theorem Device.setFieldBit_fuses (d : Device) (f : Field) (i : Nat) : (d.setFieldBit f i).fuses = d.fuses := (rfl)
@[simp] theorem Device.setFieldBit_keys (d : Device) (f : Field) (i : Nat) : (d.setFieldBit f i).keys = d.keys := (rfl)
@[simp] theorem Device.setFieldBit_trng (d : Device) (f : Field) (i : Nat) : (d.setFieldBit f i).trng = d.trng := (rfl)
@[simp] theorem Device.setFieldBit_lc (d : Device) (f : Field) (i : Nat) : (d.setFieldBit f i).lc = d.lc := (rfl)
@[simp] theorem Device.setFieldBit_tap (d : Device) (f : Field) (i : Nat) : (d.setFieldBit f i).tap = d.tap := (rfl)
@[simp] theorem Device.setFieldBit_bat (d : Device) (f : Field) (i : Nat) : (d.setFieldBit f i).bat = d.bat := (rfl)
@[simp] theorem Device.setFieldBit_gath (d : Device) (f : Field) (i : Nat) : (d.setFieldBit f i).gath = d.gath := (rfl)
@[simp] theorem Device.setFieldBit_cmp (d : Device) (f : Field) (i : Nat) : (d.setFieldBit f i).cmp = d.cmp := (rfl)
@[simp] theorem Device.setFieldBit_lehr (d : Device) (f : Field) (i : Nat) : (d.setFieldBit f i).lehr = d.lehr := (rfl)
@[simp] theorem Device.setFieldBit_gaf (d : Device) (f : Field) (i : Nat) : (d.setFieldBit f i).gaf = d.gaf := (rfl)
@[simp] theorem Device.setFieldBit_pool (d : Device) (f : Field) (i : Nat) : (d.setFieldBit f i).pool = d.pool := (rfl)
@[simp] theorem Device.setFieldBit_smv (d : Device) (f : Field) (i : Nat) : (d.setFieldBit f i).smv = d.smv := (rfl)
@[simp] theorem Device.setFieldBit_smvTurn (d : Device) (f : Field) (i : Nat) : (d.setFieldBit f i).smvTurn = d.smvTurn := (rfl)
@[simp] theorem Device.setFieldBit_bankVolt (d : Device) (f : Field) (i : Nat) : (d.setFieldBit f i).bankVolt = d.bankVolt := (rfl)
@[simp] theorem Device.setFieldBit_calSeen (d : Device) (f : Field) (i : Nat) : (d.setFieldBit f i).calSeen = d.calSeen := (rfl)
@[simp] theorem Device.setFieldBit_lanes (d : Device) (f : Field) (i : Nat) : (d.setFieldBit f i).lanes = d.lanes := (rfl)
@[simp] theorem Device.setFieldBit_warnOn (d : Device) (f : Field) (i : Nat) : (d.setFieldBit f i).warnOn = d.warnOn := (rfl)
@[simp] theorem Device.setFieldBit_enc (d : Device) (f : Field) (i : Nat) : (d.setFieldBit f i).enc = d.enc := (rfl)
@[simp] theorem Device.setFieldBit_marks (d : Device) (f : Field) (i : Nat) : (d.setFieldBit f i).marks = d.marks := (rfl)
@[simp] theorem Device.setFieldBit_cams (d : Device) (f : Field) (i : Nat) : (d.setFieldBit f i).cams = d.cams := (rfl)
@[simp] theorem Device.setFieldBit_eviSeen (d : Device) (f : Field) (i : Nat) : (d.setFieldBit f i).eviSeen = d.eviSeen := (rfl)
@[simp] theorem Device.setFieldBit_xbConf (d : Device) (f : Field) (i : Nat) : (d.setFieldBit f i).xbConf = d.xbConf := (rfl)
@[simp] theorem Device.setFieldBit_ident (d : Device) (f : Field) (i : Nat) : (d.setFieldBit f i).ident = d.ident := (rfl)
@[simp] theorem Device.setFieldBit_ml (d : Device) (f : Field) (i : Nat) : (d.setFieldBit f i).ml = d.ml := (rfl)

/-! `Device.clearFieldBit` -/

@[simp] theorem Device.clearFieldBit_free (d : Device) (f : Field) (i : Nat) : (d.clearFieldBit f i).free = d.free := (rfl)
@[simp] theorem Device.clearFieldBit_board (d : Device) (f : Field) (i : Nat) : (d.clearFieldBit f i).board = d.board := (rfl)
@[simp] theorem Device.clearFieldBit_rst (d : Device) (f : Field) (i : Nat) : (d.clearFieldBit f i).rst = d.rst := (rfl)
@[simp] theorem Device.clearFieldBit_clk (d : Device) (f : Field) (i : Nat) : (d.clearFieldBit f i).clk = d.clk := (rfl)
@[simp] theorem Device.clearFieldBit_zones (d : Device) (f : Field) (i : Nat) : (d.clearFieldBit f i).zones = d.zones := (rfl)
@[simp] theorem Device.clearFieldBit_ring (d : Device) (f : Field) (i : Nat) : (d.clearFieldBit f i).ring = d.ring := (rfl)
@[simp] theorem Device.clearFieldBit_brErrs (d : Device) (f : Field) (i : Nat) : (d.clearFieldBit f i).brErrs = d.brErrs := (rfl)
@[simp] theorem Device.clearFieldBit_ev (d : Device) (f : Field) (i : Nat) : (d.clearFieldBit f i).ev = d.ev := (rfl)
@[simp] theorem Device.clearFieldBit_cul (d : Device) (f : Field) (i : Nat) : (d.clearFieldBit f i).cul = d.cul := (rfl)
@[simp] theorem Device.clearFieldBit_refusals (d : Device) (f : Field) (i : Nat) : (d.clearFieldBit f i).refusals = d.refusals := (rfl)
@[simp] theorem Device.clearFieldBit_pw (d : Device) (f : Field) (i : Nat) : (d.clearFieldBit f i).pw = d.pw := (rfl)
@[simp] theorem Device.clearFieldBit_banks (d : Device) (f : Field) (i : Nat) : (d.clearFieldBit f i).banks = d.banks := (rfl)
@[simp] theorem Device.clearFieldBit_orm (d : Device) (f : Field) (i : Nat) : (d.clearFieldBit f i).orm = d.orm := (rfl)
@[simp] theorem Device.clearFieldBit_fuses (d : Device) (f : Field) (i : Nat) : (d.clearFieldBit f i).fuses = d.fuses := (rfl)
@[simp] theorem Device.clearFieldBit_keys (d : Device) (f : Field) (i : Nat) : (d.clearFieldBit f i).keys = d.keys := (rfl)
@[simp] theorem Device.clearFieldBit_trng (d : Device) (f : Field) (i : Nat) : (d.clearFieldBit f i).trng = d.trng := (rfl)
@[simp] theorem Device.clearFieldBit_lc (d : Device) (f : Field) (i : Nat) : (d.clearFieldBit f i).lc = d.lc := (rfl)
@[simp] theorem Device.clearFieldBit_tap (d : Device) (f : Field) (i : Nat) : (d.clearFieldBit f i).tap = d.tap := (rfl)
@[simp] theorem Device.clearFieldBit_bat (d : Device) (f : Field) (i : Nat) : (d.clearFieldBit f i).bat = d.bat := (rfl)
@[simp] theorem Device.clearFieldBit_gath (d : Device) (f : Field) (i : Nat) : (d.clearFieldBit f i).gath = d.gath := (rfl)
@[simp] theorem Device.clearFieldBit_cmp (d : Device) (f : Field) (i : Nat) : (d.clearFieldBit f i).cmp = d.cmp := (rfl)
@[simp] theorem Device.clearFieldBit_lehr (d : Device) (f : Field) (i : Nat) : (d.clearFieldBit f i).lehr = d.lehr := (rfl)
@[simp] theorem Device.clearFieldBit_gaf (d : Device) (f : Field) (i : Nat) : (d.clearFieldBit f i).gaf = d.gaf := (rfl)
@[simp] theorem Device.clearFieldBit_pool (d : Device) (f : Field) (i : Nat) : (d.clearFieldBit f i).pool = d.pool := (rfl)
@[simp] theorem Device.clearFieldBit_smv (d : Device) (f : Field) (i : Nat) : (d.clearFieldBit f i).smv = d.smv := (rfl)
@[simp] theorem Device.clearFieldBit_smvTurn (d : Device) (f : Field) (i : Nat) : (d.clearFieldBit f i).smvTurn = d.smvTurn := (rfl)
@[simp] theorem Device.clearFieldBit_bankVolt (d : Device) (f : Field) (i : Nat) : (d.clearFieldBit f i).bankVolt = d.bankVolt := (rfl)
@[simp] theorem Device.clearFieldBit_calSeen (d : Device) (f : Field) (i : Nat) : (d.clearFieldBit f i).calSeen = d.calSeen := (rfl)
@[simp] theorem Device.clearFieldBit_lanes (d : Device) (f : Field) (i : Nat) : (d.clearFieldBit f i).lanes = d.lanes := (rfl)
@[simp] theorem Device.clearFieldBit_warnOn (d : Device) (f : Field) (i : Nat) : (d.clearFieldBit f i).warnOn = d.warnOn := (rfl)
@[simp] theorem Device.clearFieldBit_enc (d : Device) (f : Field) (i : Nat) : (d.clearFieldBit f i).enc = d.enc := (rfl)
@[simp] theorem Device.clearFieldBit_marks (d : Device) (f : Field) (i : Nat) : (d.clearFieldBit f i).marks = d.marks := (rfl)
@[simp] theorem Device.clearFieldBit_cams (d : Device) (f : Field) (i : Nat) : (d.clearFieldBit f i).cams = d.cams := (rfl)
@[simp] theorem Device.clearFieldBit_eviSeen (d : Device) (f : Field) (i : Nat) : (d.clearFieldBit f i).eviSeen = d.eviSeen := (rfl)
@[simp] theorem Device.clearFieldBit_xbConf (d : Device) (f : Field) (i : Nat) : (d.clearFieldBit f i).xbConf = d.xbConf := (rfl)
@[simp] theorem Device.clearFieldBit_ident (d : Device) (f : Field) (i : Nat) : (d.clearFieldBit f i).ident = d.ident := (rfl)
@[simp] theorem Device.clearFieldBit_ml (d : Device) (f : Field) (i : Nat) : (d.clearFieldBit f i).ml = d.ml := (rfl)

/-! `Device.tick` -/

@[simp] theorem Device.tick_regs (d : Device) : (d.tick).regs = d.regs := (rfl)
@[simp] theorem Device.tick_board (d : Device) : (d.tick).board = d.board := (rfl)
@[simp] theorem Device.tick_rst (d : Device) : (d.tick).rst = d.rst := (rfl)
@[simp] theorem Device.tick_clk (d : Device) : (d.tick).clk = d.clk := (rfl)
@[simp] theorem Device.tick_zones (d : Device) : (d.tick).zones = d.zones := (rfl)
@[simp] theorem Device.tick_ring (d : Device) : (d.tick).ring = d.ring := (rfl)
@[simp] theorem Device.tick_brErrs (d : Device) : (d.tick).brErrs = d.brErrs := (rfl)
@[simp] theorem Device.tick_ev (d : Device) : (d.tick).ev = d.ev := (rfl)
@[simp] theorem Device.tick_cul (d : Device) : (d.tick).cul = d.cul := (rfl)
@[simp] theorem Device.tick_refusals (d : Device) : (d.tick).refusals = d.refusals := (rfl)
@[simp] theorem Device.tick_pw (d : Device) : (d.tick).pw = d.pw := (rfl)
@[simp] theorem Device.tick_banks (d : Device) : (d.tick).banks = d.banks := (rfl)
@[simp] theorem Device.tick_orm (d : Device) : (d.tick).orm = d.orm := (rfl)
@[simp] theorem Device.tick_fuses (d : Device) : (d.tick).fuses = d.fuses := (rfl)
@[simp] theorem Device.tick_keys (d : Device) : (d.tick).keys = d.keys := (rfl)
@[simp] theorem Device.tick_trng (d : Device) : (d.tick).trng = d.trng := (rfl)
@[simp] theorem Device.tick_lc (d : Device) : (d.tick).lc = d.lc := (rfl)
@[simp] theorem Device.tick_tap (d : Device) : (d.tick).tap = d.tap := (rfl)
@[simp] theorem Device.tick_bat (d : Device) : (d.tick).bat = d.bat := (rfl)
@[simp] theorem Device.tick_gath (d : Device) : (d.tick).gath = d.gath := (rfl)
@[simp] theorem Device.tick_cmp (d : Device) : (d.tick).cmp = d.cmp := (rfl)
@[simp] theorem Device.tick_lehr (d : Device) : (d.tick).lehr = d.lehr := (rfl)
@[simp] theorem Device.tick_gaf (d : Device) : (d.tick).gaf = d.gaf := (rfl)
@[simp] theorem Device.tick_pool (d : Device) : (d.tick).pool = d.pool := (rfl)
@[simp] theorem Device.tick_smv (d : Device) : (d.tick).smv = d.smv := (rfl)
@[simp] theorem Device.tick_smvTurn (d : Device) : (d.tick).smvTurn = d.smvTurn := (rfl)
@[simp] theorem Device.tick_bankVolt (d : Device) : (d.tick).bankVolt = d.bankVolt := (rfl)
@[simp] theorem Device.tick_calSeen (d : Device) : (d.tick).calSeen = d.calSeen := (rfl)
@[simp] theorem Device.tick_lanes (d : Device) : (d.tick).lanes = d.lanes := (rfl)
@[simp] theorem Device.tick_warnOn (d : Device) : (d.tick).warnOn = d.warnOn := (rfl)
@[simp] theorem Device.tick_enc (d : Device) : (d.tick).enc = d.enc := (rfl)
@[simp] theorem Device.tick_marks (d : Device) : (d.tick).marks = d.marks := (rfl)
@[simp] theorem Device.tick_cams (d : Device) : (d.tick).cams = d.cams := (rfl)
@[simp] theorem Device.tick_eviSeen (d : Device) : (d.tick).eviSeen = d.eviSeen := (rfl)
@[simp] theorem Device.tick_xbConf (d : Device) : (d.tick).xbConf = d.xbConf := (rfl)
@[simp] theorem Device.tick_ident (d : Device) : (d.tick).ident = d.ident := (rfl)
@[simp] theorem Device.tick_ml (d : Device) : (d.tick).ml = d.ml := (rfl)

/-! `Device.setZone` -/

@[simp] theorem Device.setZone_regs (d : Device) (n : Nat) (z : Zone) : (d.setZone n z).regs = d.regs := (rfl)
@[simp] theorem Device.setZone_free (d : Device) (n : Nat) (z : Zone) : (d.setZone n z).free = d.free := (rfl)
@[simp] theorem Device.setZone_board (d : Device) (n : Nat) (z : Zone) : (d.setZone n z).board = d.board := (rfl)
@[simp] theorem Device.setZone_rst (d : Device) (n : Nat) (z : Zone) : (d.setZone n z).rst = d.rst := (rfl)
@[simp] theorem Device.setZone_clk (d : Device) (n : Nat) (z : Zone) : (d.setZone n z).clk = d.clk := (rfl)
@[simp] theorem Device.setZone_ring (d : Device) (n : Nat) (z : Zone) : (d.setZone n z).ring = d.ring := (rfl)
@[simp] theorem Device.setZone_brErrs (d : Device) (n : Nat) (z : Zone) : (d.setZone n z).brErrs = d.brErrs := (rfl)
@[simp] theorem Device.setZone_ev (d : Device) (n : Nat) (z : Zone) : (d.setZone n z).ev = d.ev := (rfl)
@[simp] theorem Device.setZone_cul (d : Device) (n : Nat) (z : Zone) : (d.setZone n z).cul = d.cul := (rfl)
@[simp] theorem Device.setZone_refusals (d : Device) (n : Nat) (z : Zone) : (d.setZone n z).refusals = d.refusals := (rfl)
@[simp] theorem Device.setZone_pw (d : Device) (n : Nat) (z : Zone) : (d.setZone n z).pw = d.pw := (rfl)
@[simp] theorem Device.setZone_banks (d : Device) (n : Nat) (z : Zone) : (d.setZone n z).banks = d.banks := (rfl)
@[simp] theorem Device.setZone_orm (d : Device) (n : Nat) (z : Zone) : (d.setZone n z).orm = d.orm := (rfl)
@[simp] theorem Device.setZone_fuses (d : Device) (n : Nat) (z : Zone) : (d.setZone n z).fuses = d.fuses := (rfl)
@[simp] theorem Device.setZone_keys (d : Device) (n : Nat) (z : Zone) : (d.setZone n z).keys = d.keys := (rfl)
@[simp] theorem Device.setZone_trng (d : Device) (n : Nat) (z : Zone) : (d.setZone n z).trng = d.trng := (rfl)
@[simp] theorem Device.setZone_lc (d : Device) (n : Nat) (z : Zone) : (d.setZone n z).lc = d.lc := (rfl)
@[simp] theorem Device.setZone_tap (d : Device) (n : Nat) (z : Zone) : (d.setZone n z).tap = d.tap := (rfl)
@[simp] theorem Device.setZone_bat (d : Device) (n : Nat) (z : Zone) : (d.setZone n z).bat = d.bat := (rfl)
@[simp] theorem Device.setZone_gath (d : Device) (n : Nat) (z : Zone) : (d.setZone n z).gath = d.gath := (rfl)
@[simp] theorem Device.setZone_cmp (d : Device) (n : Nat) (z : Zone) : (d.setZone n z).cmp = d.cmp := (rfl)
@[simp] theorem Device.setZone_lehr (d : Device) (n : Nat) (z : Zone) : (d.setZone n z).lehr = d.lehr := (rfl)
@[simp] theorem Device.setZone_gaf (d : Device) (n : Nat) (z : Zone) : (d.setZone n z).gaf = d.gaf := (rfl)
@[simp] theorem Device.setZone_pool (d : Device) (n : Nat) (z : Zone) : (d.setZone n z).pool = d.pool := (rfl)
@[simp] theorem Device.setZone_smv (d : Device) (n : Nat) (z : Zone) : (d.setZone n z).smv = d.smv := (rfl)
@[simp] theorem Device.setZone_smvTurn (d : Device) (n : Nat) (z : Zone) : (d.setZone n z).smvTurn = d.smvTurn := (rfl)
@[simp] theorem Device.setZone_bankVolt (d : Device) (n : Nat) (z : Zone) : (d.setZone n z).bankVolt = d.bankVolt := (rfl)
@[simp] theorem Device.setZone_calSeen (d : Device) (n : Nat) (z : Zone) : (d.setZone n z).calSeen = d.calSeen := (rfl)
@[simp] theorem Device.setZone_lanes (d : Device) (n : Nat) (z : Zone) : (d.setZone n z).lanes = d.lanes := (rfl)
@[simp] theorem Device.setZone_warnOn (d : Device) (n : Nat) (z : Zone) : (d.setZone n z).warnOn = d.warnOn := (rfl)
@[simp] theorem Device.setZone_enc (d : Device) (n : Nat) (z : Zone) : (d.setZone n z).enc = d.enc := (rfl)
@[simp] theorem Device.setZone_marks (d : Device) (n : Nat) (z : Zone) : (d.setZone n z).marks = d.marks := (rfl)
@[simp] theorem Device.setZone_cams (d : Device) (n : Nat) (z : Zone) : (d.setZone n z).cams = d.cams := (rfl)
@[simp] theorem Device.setZone_eviSeen (d : Device) (n : Nat) (z : Zone) : (d.setZone n z).eviSeen = d.eviSeen := (rfl)
@[simp] theorem Device.setZone_xbConf (d : Device) (n : Nat) (z : Zone) : (d.setZone n z).xbConf = d.xbConf := (rfl)
@[simp] theorem Device.setZone_ident (d : Device) (n : Nat) (z : Zone) : (d.setZone n z).ident = d.ident := (rfl)
@[simp] theorem Device.setZone_ml (d : Device) (n : Nat) (z : Zone) : (d.setZone n z).ml = d.ml := (rfl)

/-! `Device.modZone` -/

@[simp] theorem Device.modZone_regs (d : Device) (n : Nat) (g : Zone → Zone) : (d.modZone n g).regs = d.regs := (rfl)
@[simp] theorem Device.modZone_free (d : Device) (n : Nat) (g : Zone → Zone) : (d.modZone n g).free = d.free := (rfl)
@[simp] theorem Device.modZone_board (d : Device) (n : Nat) (g : Zone → Zone) : (d.modZone n g).board = d.board := (rfl)
@[simp] theorem Device.modZone_rst (d : Device) (n : Nat) (g : Zone → Zone) : (d.modZone n g).rst = d.rst := (rfl)
@[simp] theorem Device.modZone_clk (d : Device) (n : Nat) (g : Zone → Zone) : (d.modZone n g).clk = d.clk := (rfl)
@[simp] theorem Device.modZone_ring (d : Device) (n : Nat) (g : Zone → Zone) : (d.modZone n g).ring = d.ring := (rfl)
@[simp] theorem Device.modZone_brErrs (d : Device) (n : Nat) (g : Zone → Zone) : (d.modZone n g).brErrs = d.brErrs := (rfl)
@[simp] theorem Device.modZone_ev (d : Device) (n : Nat) (g : Zone → Zone) : (d.modZone n g).ev = d.ev := (rfl)
@[simp] theorem Device.modZone_cul (d : Device) (n : Nat) (g : Zone → Zone) : (d.modZone n g).cul = d.cul := (rfl)
@[simp] theorem Device.modZone_refusals (d : Device) (n : Nat) (g : Zone → Zone) : (d.modZone n g).refusals = d.refusals := (rfl)
@[simp] theorem Device.modZone_pw (d : Device) (n : Nat) (g : Zone → Zone) : (d.modZone n g).pw = d.pw := (rfl)
@[simp] theorem Device.modZone_banks (d : Device) (n : Nat) (g : Zone → Zone) : (d.modZone n g).banks = d.banks := (rfl)
@[simp] theorem Device.modZone_orm (d : Device) (n : Nat) (g : Zone → Zone) : (d.modZone n g).orm = d.orm := (rfl)
@[simp] theorem Device.modZone_fuses (d : Device) (n : Nat) (g : Zone → Zone) : (d.modZone n g).fuses = d.fuses := (rfl)
@[simp] theorem Device.modZone_keys (d : Device) (n : Nat) (g : Zone → Zone) : (d.modZone n g).keys = d.keys := (rfl)
@[simp] theorem Device.modZone_trng (d : Device) (n : Nat) (g : Zone → Zone) : (d.modZone n g).trng = d.trng := (rfl)
@[simp] theorem Device.modZone_lc (d : Device) (n : Nat) (g : Zone → Zone) : (d.modZone n g).lc = d.lc := (rfl)
@[simp] theorem Device.modZone_tap (d : Device) (n : Nat) (g : Zone → Zone) : (d.modZone n g).tap = d.tap := (rfl)
@[simp] theorem Device.modZone_bat (d : Device) (n : Nat) (g : Zone → Zone) : (d.modZone n g).bat = d.bat := (rfl)
@[simp] theorem Device.modZone_gath (d : Device) (n : Nat) (g : Zone → Zone) : (d.modZone n g).gath = d.gath := (rfl)
@[simp] theorem Device.modZone_cmp (d : Device) (n : Nat) (g : Zone → Zone) : (d.modZone n g).cmp = d.cmp := (rfl)
@[simp] theorem Device.modZone_lehr (d : Device) (n : Nat) (g : Zone → Zone) : (d.modZone n g).lehr = d.lehr := (rfl)
@[simp] theorem Device.modZone_gaf (d : Device) (n : Nat) (g : Zone → Zone) : (d.modZone n g).gaf = d.gaf := (rfl)
@[simp] theorem Device.modZone_pool (d : Device) (n : Nat) (g : Zone → Zone) : (d.modZone n g).pool = d.pool := (rfl)
@[simp] theorem Device.modZone_smv (d : Device) (n : Nat) (g : Zone → Zone) : (d.modZone n g).smv = d.smv := (rfl)
@[simp] theorem Device.modZone_smvTurn (d : Device) (n : Nat) (g : Zone → Zone) : (d.modZone n g).smvTurn = d.smvTurn := (rfl)
@[simp] theorem Device.modZone_bankVolt (d : Device) (n : Nat) (g : Zone → Zone) : (d.modZone n g).bankVolt = d.bankVolt := (rfl)
@[simp] theorem Device.modZone_calSeen (d : Device) (n : Nat) (g : Zone → Zone) : (d.modZone n g).calSeen = d.calSeen := (rfl)
@[simp] theorem Device.modZone_lanes (d : Device) (n : Nat) (g : Zone → Zone) : (d.modZone n g).lanes = d.lanes := (rfl)
@[simp] theorem Device.modZone_warnOn (d : Device) (n : Nat) (g : Zone → Zone) : (d.modZone n g).warnOn = d.warnOn := (rfl)
@[simp] theorem Device.modZone_enc (d : Device) (n : Nat) (g : Zone → Zone) : (d.modZone n g).enc = d.enc := (rfl)
@[simp] theorem Device.modZone_marks (d : Device) (n : Nat) (g : Zone → Zone) : (d.modZone n g).marks = d.marks := (rfl)
@[simp] theorem Device.modZone_cams (d : Device) (n : Nat) (g : Zone → Zone) : (d.modZone n g).cams = d.cams := (rfl)
@[simp] theorem Device.modZone_eviSeen (d : Device) (n : Nat) (g : Zone → Zone) : (d.modZone n g).eviSeen = d.eviSeen := (rfl)
@[simp] theorem Device.modZone_xbConf (d : Device) (n : Nat) (g : Zone → Zone) : (d.modZone n g).xbConf = d.xbConf := (rfl)
@[simp] theorem Device.modZone_ident (d : Device) (n : Nat) (g : Zone → Zone) : (d.modZone n g).ident = d.ident := (rfl)
@[simp] theorem Device.modZone_ml (d : Device) (n : Nat) (g : Zone → Zone) : (d.modZone n g).ml = d.ml := (rfl)

/-! `Device.setTarget` -/

@[simp] theorem Device.setTarget_regs (d : Device) (k : Nat) (x : TargetState) : (d.setTarget k x).regs = d.regs := (rfl)
@[simp] theorem Device.setTarget_free (d : Device) (k : Nat) (x : TargetState) : (d.setTarget k x).free = d.free := (rfl)
@[simp] theorem Device.setTarget_board (d : Device) (k : Nat) (x : TargetState) : (d.setTarget k x).board = d.board := (rfl)
@[simp] theorem Device.setTarget_rst (d : Device) (k : Nat) (x : TargetState) : (d.setTarget k x).rst = d.rst := (rfl)
@[simp] theorem Device.setTarget_clk (d : Device) (k : Nat) (x : TargetState) : (d.setTarget k x).clk = d.clk := (rfl)
@[simp] theorem Device.setTarget_zones (d : Device) (k : Nat) (x : TargetState) : (d.setTarget k x).zones = d.zones := (rfl)
@[simp] theorem Device.setTarget_brErrs (d : Device) (k : Nat) (x : TargetState) : (d.setTarget k x).brErrs = d.brErrs := (rfl)
@[simp] theorem Device.setTarget_ev (d : Device) (k : Nat) (x : TargetState) : (d.setTarget k x).ev = d.ev := (rfl)
@[simp] theorem Device.setTarget_cul (d : Device) (k : Nat) (x : TargetState) : (d.setTarget k x).cul = d.cul := (rfl)
@[simp] theorem Device.setTarget_refusals (d : Device) (k : Nat) (x : TargetState) : (d.setTarget k x).refusals = d.refusals := (rfl)
@[simp] theorem Device.setTarget_pw (d : Device) (k : Nat) (x : TargetState) : (d.setTarget k x).pw = d.pw := (rfl)
@[simp] theorem Device.setTarget_banks (d : Device) (k : Nat) (x : TargetState) : (d.setTarget k x).banks = d.banks := (rfl)
@[simp] theorem Device.setTarget_orm (d : Device) (k : Nat) (x : TargetState) : (d.setTarget k x).orm = d.orm := (rfl)
@[simp] theorem Device.setTarget_fuses (d : Device) (k : Nat) (x : TargetState) : (d.setTarget k x).fuses = d.fuses := (rfl)
@[simp] theorem Device.setTarget_keys (d : Device) (k : Nat) (x : TargetState) : (d.setTarget k x).keys = d.keys := (rfl)
@[simp] theorem Device.setTarget_trng (d : Device) (k : Nat) (x : TargetState) : (d.setTarget k x).trng = d.trng := (rfl)
@[simp] theorem Device.setTarget_lc (d : Device) (k : Nat) (x : TargetState) : (d.setTarget k x).lc = d.lc := (rfl)
@[simp] theorem Device.setTarget_tap (d : Device) (k : Nat) (x : TargetState) : (d.setTarget k x).tap = d.tap := (rfl)
@[simp] theorem Device.setTarget_bat (d : Device) (k : Nat) (x : TargetState) : (d.setTarget k x).bat = d.bat := (rfl)
@[simp] theorem Device.setTarget_gath (d : Device) (k : Nat) (x : TargetState) : (d.setTarget k x).gath = d.gath := (rfl)
@[simp] theorem Device.setTarget_cmp (d : Device) (k : Nat) (x : TargetState) : (d.setTarget k x).cmp = d.cmp := (rfl)
@[simp] theorem Device.setTarget_lehr (d : Device) (k : Nat) (x : TargetState) : (d.setTarget k x).lehr = d.lehr := (rfl)
@[simp] theorem Device.setTarget_gaf (d : Device) (k : Nat) (x : TargetState) : (d.setTarget k x).gaf = d.gaf := (rfl)
@[simp] theorem Device.setTarget_pool (d : Device) (k : Nat) (x : TargetState) : (d.setTarget k x).pool = d.pool := (rfl)
@[simp] theorem Device.setTarget_smv (d : Device) (k : Nat) (x : TargetState) : (d.setTarget k x).smv = d.smv := (rfl)
@[simp] theorem Device.setTarget_smvTurn (d : Device) (k : Nat) (x : TargetState) : (d.setTarget k x).smvTurn = d.smvTurn := (rfl)
@[simp] theorem Device.setTarget_bankVolt (d : Device) (k : Nat) (x : TargetState) : (d.setTarget k x).bankVolt = d.bankVolt := (rfl)
@[simp] theorem Device.setTarget_calSeen (d : Device) (k : Nat) (x : TargetState) : (d.setTarget k x).calSeen = d.calSeen := (rfl)
@[simp] theorem Device.setTarget_lanes (d : Device) (k : Nat) (x : TargetState) : (d.setTarget k x).lanes = d.lanes := (rfl)
@[simp] theorem Device.setTarget_warnOn (d : Device) (k : Nat) (x : TargetState) : (d.setTarget k x).warnOn = d.warnOn := (rfl)
@[simp] theorem Device.setTarget_enc (d : Device) (k : Nat) (x : TargetState) : (d.setTarget k x).enc = d.enc := (rfl)
@[simp] theorem Device.setTarget_marks (d : Device) (k : Nat) (x : TargetState) : (d.setTarget k x).marks = d.marks := (rfl)
@[simp] theorem Device.setTarget_cams (d : Device) (k : Nat) (x : TargetState) : (d.setTarget k x).cams = d.cams := (rfl)
@[simp] theorem Device.setTarget_eviSeen (d : Device) (k : Nat) (x : TargetState) : (d.setTarget k x).eviSeen = d.eviSeen := (rfl)
@[simp] theorem Device.setTarget_xbConf (d : Device) (k : Nat) (x : TargetState) : (d.setTarget k x).xbConf = d.xbConf := (rfl)
@[simp] theorem Device.setTarget_ident (d : Device) (k : Nat) (x : TargetState) : (d.setTarget k x).ident = d.ident := (rfl)
@[simp] theorem Device.setTarget_ml (d : Device) (k : Nat) (x : TargetState) : (d.setTarget k x).ml = d.ml := (rfl)

/-! `Device.setInit` -/

@[simp] theorem Device.setInit_regs (d : Device) (k : Nat) (x : InitState) : (d.setInit k x).regs = d.regs := (rfl)
@[simp] theorem Device.setInit_free (d : Device) (k : Nat) (x : InitState) : (d.setInit k x).free = d.free := (rfl)
@[simp] theorem Device.setInit_board (d : Device) (k : Nat) (x : InitState) : (d.setInit k x).board = d.board := (rfl)
@[simp] theorem Device.setInit_rst (d : Device) (k : Nat) (x : InitState) : (d.setInit k x).rst = d.rst := (rfl)
@[simp] theorem Device.setInit_clk (d : Device) (k : Nat) (x : InitState) : (d.setInit k x).clk = d.clk := (rfl)
@[simp] theorem Device.setInit_zones (d : Device) (k : Nat) (x : InitState) : (d.setInit k x).zones = d.zones := (rfl)
@[simp] theorem Device.setInit_brErrs (d : Device) (k : Nat) (x : InitState) : (d.setInit k x).brErrs = d.brErrs := (rfl)
@[simp] theorem Device.setInit_ev (d : Device) (k : Nat) (x : InitState) : (d.setInit k x).ev = d.ev := (rfl)
@[simp] theorem Device.setInit_cul (d : Device) (k : Nat) (x : InitState) : (d.setInit k x).cul = d.cul := (rfl)
@[simp] theorem Device.setInit_refusals (d : Device) (k : Nat) (x : InitState) : (d.setInit k x).refusals = d.refusals := (rfl)
@[simp] theorem Device.setInit_pw (d : Device) (k : Nat) (x : InitState) : (d.setInit k x).pw = d.pw := (rfl)
@[simp] theorem Device.setInit_banks (d : Device) (k : Nat) (x : InitState) : (d.setInit k x).banks = d.banks := (rfl)
@[simp] theorem Device.setInit_orm (d : Device) (k : Nat) (x : InitState) : (d.setInit k x).orm = d.orm := (rfl)
@[simp] theorem Device.setInit_fuses (d : Device) (k : Nat) (x : InitState) : (d.setInit k x).fuses = d.fuses := (rfl)
@[simp] theorem Device.setInit_keys (d : Device) (k : Nat) (x : InitState) : (d.setInit k x).keys = d.keys := (rfl)
@[simp] theorem Device.setInit_trng (d : Device) (k : Nat) (x : InitState) : (d.setInit k x).trng = d.trng := (rfl)
@[simp] theorem Device.setInit_lc (d : Device) (k : Nat) (x : InitState) : (d.setInit k x).lc = d.lc := (rfl)
@[simp] theorem Device.setInit_tap (d : Device) (k : Nat) (x : InitState) : (d.setInit k x).tap = d.tap := (rfl)
@[simp] theorem Device.setInit_bat (d : Device) (k : Nat) (x : InitState) : (d.setInit k x).bat = d.bat := (rfl)
@[simp] theorem Device.setInit_gath (d : Device) (k : Nat) (x : InitState) : (d.setInit k x).gath = d.gath := (rfl)
@[simp] theorem Device.setInit_cmp (d : Device) (k : Nat) (x : InitState) : (d.setInit k x).cmp = d.cmp := (rfl)
@[simp] theorem Device.setInit_lehr (d : Device) (k : Nat) (x : InitState) : (d.setInit k x).lehr = d.lehr := (rfl)
@[simp] theorem Device.setInit_gaf (d : Device) (k : Nat) (x : InitState) : (d.setInit k x).gaf = d.gaf := (rfl)
@[simp] theorem Device.setInit_pool (d : Device) (k : Nat) (x : InitState) : (d.setInit k x).pool = d.pool := (rfl)
@[simp] theorem Device.setInit_smv (d : Device) (k : Nat) (x : InitState) : (d.setInit k x).smv = d.smv := (rfl)
@[simp] theorem Device.setInit_smvTurn (d : Device) (k : Nat) (x : InitState) : (d.setInit k x).smvTurn = d.smvTurn := (rfl)
@[simp] theorem Device.setInit_bankVolt (d : Device) (k : Nat) (x : InitState) : (d.setInit k x).bankVolt = d.bankVolt := (rfl)
@[simp] theorem Device.setInit_calSeen (d : Device) (k : Nat) (x : InitState) : (d.setInit k x).calSeen = d.calSeen := (rfl)
@[simp] theorem Device.setInit_lanes (d : Device) (k : Nat) (x : InitState) : (d.setInit k x).lanes = d.lanes := (rfl)
@[simp] theorem Device.setInit_warnOn (d : Device) (k : Nat) (x : InitState) : (d.setInit k x).warnOn = d.warnOn := (rfl)
@[simp] theorem Device.setInit_enc (d : Device) (k : Nat) (x : InitState) : (d.setInit k x).enc = d.enc := (rfl)
@[simp] theorem Device.setInit_marks (d : Device) (k : Nat) (x : InitState) : (d.setInit k x).marks = d.marks := (rfl)
@[simp] theorem Device.setInit_cams (d : Device) (k : Nat) (x : InitState) : (d.setInit k x).cams = d.cams := (rfl)
@[simp] theorem Device.setInit_eviSeen (d : Device) (k : Nat) (x : InitState) : (d.setInit k x).eviSeen = d.eviSeen := (rfl)
@[simp] theorem Device.setInit_xbConf (d : Device) (k : Nat) (x : InitState) : (d.setInit k x).xbConf = d.xbConf := (rfl)
@[simp] theorem Device.setInit_ident (d : Device) (k : Nat) (x : InitState) : (d.setInit k x).ident = d.ident := (rfl)
@[simp] theorem Device.setInit_ml (d : Device) (k : Nat) (x : InitState) : (d.setInit k x).ml = d.ml := (rfl)

/-! The parts of a state -/

@[simp] theorem State.on_dev (s : State) (f : Device → Device) : (s.on f).dev = f s.dev := (rfl)
@[simp] theorem State.on_mem (s : State) (f : Device → Device) : (s.on f).mem = s.mem := (rfl)
@[simp] theorem State.on_pending (s : State) (f : Device → Device) : (s.on f).pending = s.pending := (rfl)
@[simp] theorem State.onBoth_dev (s : State) (f : Device → Stores → Device × Stores) :
    (s.onBoth f).dev = (f s.dev s.mem).1 := (rfl)
@[simp] theorem State.onBoth_mem (s : State) (f : Device → Stores → Device × Stores) :
    (s.onBoth f).mem = (f s.dev s.mem).2 := (rfl)
@[simp] theorem State.onBoth_pending (s : State) (f : Device → Stores → Device × Stores) :
    (s.onBoth f).pending = s.pending := (rfl)

end Sys2Proof.Machine
end

