-- ==== Sys2Proof/Laws/Tab.lean ====
section
/-! SUPPORT. Lemmas of sparse tables: a read after a write, and that writes, deletions and filters keep the canonical
form. -/

namespace Sys2Proof.Machine

variable {α : Type}

/-! ## Reading after writing -/

theorem Tab.find_del (t : Tab α) (k j : Nat) :
    Tab.find (Tab.del k t) j = if j = k then none else Tab.find t j := by
  induction t with
  | nil => simp [Tab.del, Tab.find]
  | cons e t ih =>
    obtain ⟨a, w⟩ := e
    by_cases ha : a = k <;> by_cases hj : j = k <;> by_cases haj : a = j <;>
      simp_all [Tab.del, Tab.find]

theorem Tab.find_put (t : Tab α) (k j : Nat) (v : α) :
    Tab.find (Tab.put k v t) j = if j = k then some v else Tab.find t j := by
  induction t with
  | nil => by_cases hj : k = j <;> simp [Tab.put, Tab.find, hj, eq_comm]
  | cons e t ih =>
    obtain ⟨a, w⟩ := e
    unfold Tab.put
    split
    · rename_i hk
      by_cases hj : k = j
      · simp [Tab.find, hj]
      · simp [Tab.find, hj, Ne.symm hj]
    · split
      · rename_i ha
        by_cases hj : k = j <;> simp_all [Tab.find, eq_comm]
      · rename_i ha
        by_cases hj : a = j
        · have hne : j ≠ k := fun h => ha (hj.trans h)
          simp [Tab.find, hj, hne]
        · simp [Tab.find, hj, ih]

theorem Tab.del_put (t : Tab α) (k : Nat) (v : α) : Tab.del k (Tab.put k v t) = Tab.del k t := by
  induction t with
  | nil => simp [Tab.put, Tab.del]
  | cons e t ih =>
    obtain ⟨a, w⟩ := e
    unfold Tab.put
    split
    · simp [Tab.del]
    · split
      · rename_i ha; simp [Tab.del, ha]
      · rename_i ha; simp [Tab.del, ha, ih]

theorem Tab.put_put (t : Tab α) (k : Nat) (v w : α) : Tab.put k w (Tab.put k v t) = Tab.put k w t := by
  induction t with
  | nil => simp [Tab.put]
  | cons e t ih =>
    obtain ⟨a, x⟩ := e
    by_cases h : k < a
    · simp [Tab.put, h]
    · by_cases ha : a = k
      · simp [Tab.put, ha]
      · simp [Tab.put, h, ha, ih]

section
variable [DecidableEq α] (d : Nat → α)

/-- A read after a write: the value written at its key, what was read before at any other. -/
theorem Tab.get_set (t : Tab α) (k j : Nat) (v : α) :
    Tab.get d (Tab.set d t k v) j = if j = k then v else Tab.get d t j := by
  unfold Tab.set Tab.get
  by_cases hv : v = d k
  · by_cases hj : j = k <;> simp [hv, Tab.find_del, hj]
  · by_cases hj : j = k <;> simp [hv, Tab.find_put, hj]

@[simp] theorem Tab.get_set_self (t : Tab α) (k : Nat) (v : α) : Tab.get d (Tab.set d t k v) k = v := by
  simp [Tab.get_set]

theorem Tab.get_set_ne (t : Tab α) {k j : Nat} (v : α) (h : j ≠ k) :
    Tab.get d (Tab.set d t k v) j = Tab.get d t j := by simp [Tab.get_set, h]

/-- A second write of a key replaces the first, where that listed it. -/
theorem Tab.set_set (t : Tab α) {k : Nat} {v : α} (w : α) (h : v ≠ d k) :
    Tab.set d (Tab.set d t k v) k w = Tab.set d t k w := by
  simp only [Tab.set, h, if_false]
  split
  · exact Tab.del_put t k v
  · exact Tab.put_put t k v w

end

/-! ## The canonical form -/

theorem Tab.risesFrom_le {lo lo' : Nat} (h : lo' ≤ lo) :
    ∀ {t : Tab α}, Tab.risesFrom lo t = true → Tab.risesFrom lo' t = true
  | [], _ => rfl
  | (a, w) :: t, ht => by
    simp only [Tab.risesFrom, Bool.and_eq_true, decide_eq_true_eq] at ht ⊢
    exact ⟨Nat.le_trans h ht.1, ht.2⟩

theorem Tab.risesFrom_filter (p : Nat × α → Bool) :
    ∀ (lo : Nat) (t : Tab α), Tab.risesFrom lo t = true → Tab.risesFrom lo (t.filter p) = true
  | _, [], _ => rfl
  | lo, (a, w) :: t, ht => by
    simp only [Tab.risesFrom, Bool.and_eq_true, decide_eq_true_eq] at ht
    have ih := Tab.risesFrom_filter p (a + 1) t ht.2
    by_cases hp : p (a, w) = true
    · simp [hp, Tab.risesFrom, ih, ht.1]
    · simp only [List.filter_cons, hp]
      exact Tab.risesFrom_le (by omega) ih

theorem Tab.del_eq_filter (k : Nat) (t : Tab α) : Tab.del k t = t.filter (fun e => decide (e.1 ≠ k)) := by
  induction t with
  | nil => rfl
  | cons e t ih =>
    obtain ⟨a, w⟩ := e
    by_cases h : a = k <;> simp [Tab.del, ih, h]

theorem Tab.risesFrom_put (k : Nat) (v : α) :
    ∀ (lo : Nat) (t : Tab α), lo ≤ k → Tab.risesFrom lo t = true → Tab.risesFrom lo (Tab.put k v t) = true
  | lo, [], h, _ => by simp [Tab.put, Tab.risesFrom, h]
  | lo, (a, w) :: t, h, ht => by
    simp only [Tab.risesFrom, Bool.and_eq_true, decide_eq_true_eq] at ht
    by_cases hk : k < a
    · simp only [Tab.put, hk, if_true, Tab.risesFrom, Bool.and_eq_true, decide_eq_true_eq]
      exact ⟨h, by omega, ht.2⟩
    · by_cases ha : a = k
      · subst ha
        simp [Tab.put, Tab.risesFrom, h, ht.2]
      · simp only [Tab.put, hk, ha, if_false, Tab.risesFrom, Bool.and_eq_true, decide_eq_true_eq]
        exact ⟨ht.1, Tab.risesFrom_put k v (a + 1) t (by omega) ht.2⟩

theorem Tab.mem_put {k : Nat} {v : α} {e : Nat × α} :
    ∀ {t : Tab α}, e ∈ Tab.put k v t → e = (k, v) ∨ e ∈ t
  | [], h => by simpa [Tab.put] using h
  | (a, w) :: t, h => by
    unfold Tab.put at h
    split at h
    · simpa using h
    · split at h
      · rcases List.mem_cons.1 h with h | h
        · exact .inl h
        · exact .inr (List.mem_cons_of_mem _ h)
      · rcases List.mem_cons.1 h with h | h
        · exact .inr (by simp [h])
        · rcases Tab.mem_put h with h | h
          · exact .inl h
          · exact .inr (List.mem_cons_of_mem _ h)

section
variable [DecidableEq α] (d : Nat → α)

@[simp] theorem Tab.wf_nil : Tab.wf d ([] : Tab α) = true := rfl

/-- Unlisting entries keeps the canonical form. -/
theorem Tab.wf_filter (p : Nat × α → Bool) {t : Tab α} (h : Tab.wf d t = true) : Tab.wf d (t.filter p) = true := by
  simp only [Tab.wf, Bool.and_eq_true, List.all_eq_true, decide_eq_true_eq] at h ⊢
  exact ⟨Tab.risesFrom_filter p 0 t h.1, fun e he => h.2 e ((List.mem_filter.1 he).1)⟩

/-- A write keeps the canonical form. -/
theorem Tab.wf_set {t : Tab α} (k : Nat) (v : α) (h : Tab.wf d t = true) : Tab.wf d (Tab.set d t k v) = true := by
  unfold Tab.set
  split
  · rw [Tab.del_eq_filter]
    exact Tab.wf_filter d _ h
  · rename_i hv
    simp only [Tab.wf, Bool.and_eq_true, List.all_eq_true, decide_eq_true_eq] at h ⊢
    refine ⟨Tab.risesFrom_put k v 0 t (Nat.zero_le _) h.1, fun e he => ?_⟩
    rcases Tab.mem_put he with rfl | he
    · exact hv
    · exact h.2 e he

end

end Sys2Proof.Machine
end

