-- ==== Sys2Proof/Laws/Ops.lean ====
section
/-! SUPPORT. What the shared operations do: a register field read after another was written, what a raise and a refusal
write and leave, and the memories' reads after writes. -/

namespace Sys2Proof.Machine

/-! ## Registers -/

@[simp] theorem Device.rd_wr_self (d : Device) (k v : Nat) : (d.wr k v).rd k = v % 2 ^ 32 := by
  simp [Device.rd, Device.wr]

theorem Device.rd_wr_ne (d : Device) {k j : Nat} (v : Nat) (h : j ≠ k) : (d.wr k v).rd j = d.rd j := by
  simp [Device.rd, Device.wr, Tab.get_set_ne _ _ _ h]

theorem Device.rd_set_ne (d : Device) (f : Field) (v : Nat) {j : Nat} (h : j ≠ f.key) : (d.set f v).rd j = d.rd j :=
  d.rd_wr_ne _ h

/-- A field read after it was written. -/
theorem Device.get_set_self (d : Device) (f : Field) (v : Nat) (h : f.lo ≤ f.hi) (hw : f.hi < 32) :
    (d.set f v).get f = v % 2 ^ (f.hi + 1 - f.lo) := by
  simp only [Device.get, Device.set, Device.rd_wr_self]
  rw [bits_mod_word hw, bits_putBits h]

/-- A field read after another register was written. -/
theorem Device.get_set_key (d : Device) (f g : Field) (v : Nat) (h : g.key ≠ f.key) : (d.set f v).get g = d.get g := by
  simp [Device.get, d.rd_set_ne f v h]

/-- A field read after another field, of the same register or another, was written. -/
theorem Device.get_set_apart (d : Device) (f g : Field) (v : Nat) (hf : f.lo ≤ f.hi) (hw : g.hi < 32)
    (h : g.key ≠ f.key ∨ g.hi < f.lo ∨ f.hi < g.lo) : (d.set f v).get g = d.get g := by
  by_cases hk : g.key = f.key
  · have hb : g.hi < f.lo ∨ f.hi < g.lo := by
      rcases h with h | h
      · exact absurd hk h
      · exact h
    have e : (d.set f v).rd g.key = putBits (d.rd f.key) f.hi f.lo v % 2 ^ 32 := by
      rw [hk]; simp [Device.set]
    simp only [Device.get, e, bits_mod_word hw]
    rw [bits_putBits_apart hf hb, hk]
  · exact d.get_set_key f g v hk

/-- A field read after a field that shares no bit with it was written. -/
theorem Device.get_set_apart' (d : Device) (f g : Field) (v : Nat) (hf : f.lo ≤ f.hi)
    (h : g.key ≠ f.key ∨ g.hi < f.lo ∨ f.hi < g.lo) : (d.set f v).get g = d.get g := by
  by_cases hk : g.key = f.key
  · have hb : g.hi < f.lo ∨ f.hi < g.lo := by
      rcases h with h | h
      · exact absurd hk h
      · exact h
    have hlt : d.rd f.key < 2 ^ 32 := (Tab.get regReset d.regs f.key).isLt
    have e : (d.set f v).rd g.key = putBits (d.rd f.key) f.hi f.lo v % 2 ^ 32 := by
      rw [hk]; simp [Device.set]
    rw [Device.get, Device.get, e, hk]
    apply Nat.eq_of_testBit_eq
    intro j
    rw [bits_testBit, bits_testBit, Nat.testBit_mod_two_pow, putBits_testBit hf]
    by_cases hj : j < g.hi + 1 - g.lo
    · have hn : ¬ (f.lo ≤ g.lo + j ∧ g.lo + j ≤ f.hi) := by omega
      simp only [hn, if_false]
      by_cases h3 : g.lo + j < 32
      · simp [h3]
      · have : (d.rd f.key).testBit (g.lo + j) = false :=
          Nat.testBit_lt_two_pow (Nat.lt_of_lt_of_le hlt (Nat.pow_le_pow_right (by decide) (by omega)))
        simp [this]
    · simp [hj]
  · exact d.get_set_key f g v hk

theorem Device.rd_lt (d : Device) (k : Nat) : d.rd k < 2 ^ 32 := (Tab.get regReset d.regs k).isLt

theorem Device.get_lt (d : Device) (f : Field) : d.get f < 2 ^ (f.hi + 1 - f.lo) := bits_lt _ _ _

@[simp] theorem Device.setAll_nil (d : Device) : d.setAll [] = d := (rfl)
@[simp] theorem Device.setAll_cons (d : Device) (f : Field) (v : Nat) (r : List (Field × Nat)) :
    d.setAll ((f, v) :: r) = (d.set f v).setAll r := (rfl)

/-! ## Zones, stops and initiators -/

@[simp] theorem Device.zone_setZone_self (d : Device) (n : Nat) (z : Zone) : (d.setZone n z).zone n = z := by
  simp [Device.zone, Device.setZone]
theorem Device.zone_setZone_ne (d : Device) {n m : Nat} (z : Zone) (h : m ≠ n) : (d.setZone n z).zone m = d.zone m := by
  simp [Device.zone, Device.setZone, Tab.get_set_ne _ _ _ h]
@[simp] theorem Device.zone_modZone_self (d : Device) (n : Nat) (f : Zone → Zone) :
    (d.modZone n f).zone n = f (d.zone n) := by simp [Device.modZone]
theorem Device.zone_modZone_ne (d : Device) {n m : Nat} (f : Zone → Zone) (h : m ≠ n) :
    (d.modZone n f).zone m = d.zone m := by simp [Device.modZone, Device.zone_setZone_ne _ _ h]
@[simp] theorem Device.target_setTarget_self (d : Device) (k : Nat) (x : TargetState) :
    (d.setTarget k x).target k = x := by simp [Device.target, Device.setTarget]
theorem Device.target_setTarget_ne (d : Device) {k j : Nat} (x : TargetState) (h : j ≠ k) :
    (d.setTarget k x).target j = d.target j := by simp [Device.target, Device.setTarget, Tab.get_set_ne _ _ _ h]
@[simp] theorem Device.init_setInit_self (d : Device) (k : Nat) (x : InitState) : (d.setInit k x).init k = x := by
  simp [Device.init, Device.setInit]
theorem Device.init_setInit_ne (d : Device) {k j : Nat} (x : InitState) (h : j ≠ k) :
    (d.setInit k x).init j = d.init j := by simp [Device.init, Device.setInit, Tab.get_set_ne _ _ _ h]

/-! What a register write leaves to the readings of the other structures -/

@[simp] theorem Device.rd_setZone (d : Device) (n : Nat) (z : Zone) (k : Nat) : (d.setZone n z).rd k = d.rd k := (rfl)
@[simp] theorem Device.get_setZone (d : Device) (n : Nat) (z : Zone) (f : Field) : (d.setZone n z).get f = d.get f := (rfl)
@[simp] theorem Device.get_modZone (d : Device) (n : Nat) (g : Zone → Zone) (f : Field) :
    (d.modZone n g).get f = d.get f := (rfl)
@[simp] theorem Device.get_setTarget (d : Device) (k : Nat) (x : TargetState) (f : Field) :
    (d.setTarget k x).get f = d.get f := (rfl)
@[simp] theorem Device.get_setInit (d : Device) (k : Nat) (x : InitState) (f : Field) :
    (d.setInit k x).get f = d.get f := (rfl)
@[simp] theorem Device.get_tick (d : Device) (f : Field) : d.tick.get f = d.get f := (rfl)
@[simp] theorem Device.zone_set (d : Device) (f : Field) (v n : Nat) : (d.set f v).zone n = d.zone n := (rfl)
@[simp] theorem Device.target_set (d : Device) (f : Field) (v n : Nat) : (d.set f v).target n = d.target n := (rfl)
@[simp] theorem Device.init_set (d : Device) (f : Field) (v n : Nat) : (d.set f v).init n = d.init n := (rfl)
@[simp] theorem Device.target_setZone (d : Device) (n : Nat) (z : Zone) (k : Nat) :
    (d.setZone n z).target k = d.target k := (rfl)
@[simp] theorem Device.init_setZone (d : Device) (n : Nat) (z : Zone) (k : Nat) : (d.setZone n z).init k = d.init k := (rfl)
@[simp] theorem Device.target_setInit (d : Device) (n : Nat) (x : InitState) (k : Nat) :
    (d.setInit n x).target k = d.target k := (rfl)
@[simp] theorem Device.init_setTarget (d : Device) (n : Nat) (x : TargetState) (k : Nat) :
    (d.setTarget n x).init k = d.init k := (rfl)
@[simp] theorem Device.zone_setTarget (d : Device) (n : Nat) (x : TargetState) (k : Nat) :
    (d.setTarget n x).zone k = d.zone k := (rfl)
@[simp] theorem Device.zone_setInit (d : Device) (n : Nat) (x : InitState) (k : Nat) :
    (d.setInit n x).zone k = d.zone k := (rfl)

/-! ## What a raise and a refusal leave -/

/-- From `d` to `e` no register changes but those listed by key and those that events and refusals write. -/
def Device.keepsRegs (d e : Device) (written : List Nat) : Prop :=
  ∀ k, k ∉ written → noticeReg k = false → e.rd k = d.rd k

/-- `e` differs from `d` only in what an event or a refusal writes: the event controller, the refusal records, and the
registers of `noticeReg` and of the list. -/
def Device.Noted (d e : Device) (written : List Nat) : Prop :=
  e = { d with regs := e.regs, ev := e.ev, refusals := e.refusals } ∧ d.keepsRegs e written

theorem Device.Noted.refl (d : Device) (l : List Nat) : d.Noted d l := ⟨rfl, fun _ _ _ => rfl⟩

theorem Device.Noted.trans {d e g : Device} {l : List Nat} (h : d.Noted e l) (h' : e.Noted g l) : d.Noted g l := by
  refine ⟨?_, fun k hk hn => (h'.2 k hk hn).trans (h.2 k hk hn)⟩
  rw [h'.1, h.1]

theorem Device.Noted.set {d e : Device} {l : List Nat} (h : d.Noted e l) (f : Field) (v : Nat)
    (hf : noticeReg f.key = true ∨ f.key ∈ l) : d.Noted (e.set f v) l := by
  refine h.trans ⟨rfl, fun k hk hn => ?_⟩
  refine Device.rd_set_ne _ _ _ (fun hkf => ?_)
  subst hkf
  rcases hf with hf | hf
  · simp [hf] at hn
  · exact hk hf

theorem Device.Noted.setAll {d e : Device} {l : List Nat} (h : d.Noted e l) (fs : List (Field × Nat))
    (hf : ∀ x ∈ fs, noticeReg x.1.key = true ∨ x.1.key ∈ l) : d.Noted (e.setAll fs) l := by
  induction fs generalizing e with
  | nil => exact h
  | cons x r ih =>
    obtain ⟨f, v⟩ := x
    exact ih (h.set f v (hf _ (List.mem_cons_self ..))) (fun y hy => hf y (List.mem_cons_of_mem _ hy))

theorem Device.Noted.inc {d e : Device} {l : List Nat} (h : d.Noted e l) (f : Field)
    (hf : noticeReg f.key = true ∨ f.key ∈ l) : d.Noted (e.inc f) l := h.set f _ hf

theorem Device.Noted.withEv {d e : Device} {l : List Nat} (h : d.Noted e l) (x : EventState) :
    d.Noted { e with ev := x } l := h.trans ⟨rfl, fun _ _ _ => rfl⟩

theorem Device.Noted.withRefusals {d e : Device} {l : List Nat} (h : d.Noted e l) (x : RefusalState) :
    d.Noted { e with refusals := x } l := h.trans ⟨rfl, fun _ _ _ => rfl⟩

/-- The latch register of an event of Table 19.3 is one that events write. -/
theorem noticeReg_latch {ev : Nat} (h : ev < 128) : noticeReg (0x6000 + 4 * (ev / 32)) = true := by
  simp only [noticeReg, Bool.or_eq_true, Bool.and_eq_true, decide_eq_true_eq]
  exact .inl (.inl (.inl ⟨by omega, by omega⟩))

/-- Events and refusals write no register of a fabric die beside the refusing unit's own. -/
theorem noticeReg_fabric {k : Nat} (h : 0x100000 ≤ k) : noticeReg k = false := by
  simp only [noticeReg, Bool.or_eq_false_iff, Bool.and_eq_false_iff, decide_eq_false_iff_not, List.contains_eq_mem,
    List.mem_cons, List.not_mem_nil, or_false, beq_eq_false_iff_ne, ne_eq]
  exact ⟨⟨⟨.inr (by omega), by omega⟩, .inl (.inr (by omega))⟩, by omega⟩

theorem zoneUnit_ge (n : Nat) : 512 ≤ zoneUnit n := by unfold zoneUnit; omega

/-- A register of a zone is none that events write. -/
@[simp] theorem noticeReg_zone (n o : Nat) : noticeReg (zoneUnit n * 4096 + o) = false :=
  noticeReg_fabric (by have := zoneUnit_ge n; omega)

theorem Device.Noted.latchRaise {d e : Device} {l : List Nat} (h : d.Noted e l) (r : Raise)
    (hk : noticeReg (0x6000 + 4 * (r.ev / 32)) = true ∨ 0x6000 + 4 * (r.ev / 32) ∈ l) : d.Noted (e.latchRaise r) l := by
  unfold Device.latchRaise Device.mirqUpdate Device.when
  refine Device.Noted.withEv ?_ _
  split
  · exact (h.withEv _).set _ _ hk
  · exact h.withEv _

theorem Device.Noted.enqueueRaise {d e : Device} {l : List Nat} (h : d.Noted e l) (r : Raise) :
    d.Noted (e.enqueueRaise r) l := by
  unfold Device.enqueueRaise
  split
  · exact h.withEv _
  · exact h.inc _ (.inl (by decide))

theorem Device.Noted.smvTrigger {d e : Device} {l : List Nat} (h : d.Noted e l) (ev c : Nat) (hc : c < 16) :
    d.Noted (Device.smvTrigger ev e c) l := by
  have hk : noticeReg (0x1810C + 32 * c) = true := by
    simp only [noticeReg, Bool.or_eq_true, Bool.and_eq_true, decide_eq_true_eq, beq_iff_eq]
    exact .inl (.inr ⟨⟨by omega, by omega⟩, by omega⟩)
  unfold Device.smvTrigger
  split
  · split
    · exact h.set _ _ (.inl hk)
    · split
      · exact h.set _ _ (.inl hk)
      · exact h.set _ _ (.inl hk)
  · exact h

theorem Device.Noted.each {d e : Device} {l : List Nat} (h : d.Noted e l) (L : List Nat) (f : Device → Nat → Device)
    (hf : ∀ g c, c ∈ L → d.Noted g l → d.Noted (f g c) l) : d.Noted (e.each L f) l := by
  unfold Device.each
  induction L generalizing e with
  | nil => exact h
  | cons c r ih =>
    exact ih (hf e c (List.mem_cons_self ..) h) (fun g x hx => hf g x (List.mem_cons_of_mem _ hx))

theorem Device.Noted.raiseCore {d e : Device} {l : List Nat} (h : d.Noted e l) {ev : Nat} (unit payload : Nat)
    (hr : noticeReg (0x6000 + 4 * (ev / 32)) = true ∨ 0x6000 + 4 * (ev / 32) ∈ l) : d.Noted (e.raiseCore ev unit payload) l := by
  unfold Device.raiseCore
  split
  · exact h
  · have h2 : d.Noted (((e.enqueueRaise
        { ev := ev, unit := unit, payload := payload,
          mt := e.mtOf (unitDie unit) }).each (List.range 16) (Device.smvTrigger ev))) l :=
      (h.enqueueRaise _).each _ _ (fun g c hc hg => hg.smvTrigger ev c (List.mem_range.1 hc))
    dsimp only
    split
    · exact h2.latchRaise _ hr
    · exact h2.withEv _

theorem Device.Noted.wr {d e : Device} {l : List Nat} (h : d.Noted e l) (k v : Nat)
    (hf : noticeReg k = true ∨ k ∈ l) : d.Noted (e.wr k v) l := by
  refine h.trans ⟨rfl, fun j hj hn => ?_⟩
  refine Device.rd_wr_ne _ _ (fun hkf => ?_)
  subst hkf
  rcases hf with hf | hf
  · simp [hf] at hn
  · exact hj hf

theorem Device.Noted.lastRefusal {d e : Device} {l : List Nat} (h : d.Noted e l) (r : RefusalRec) :
    d.Noted (e.lastRefusal r) l := (h.setAll _ (by simp [noticeReg])).inc _ (.inl (by decide))

/-- A refusal writes its unit's record beside what the taking of the record writes. -/
theorem Device.Noted.refuseBy {d e : Device} {l : List Nat} (h : d.Noted e l) (take : Device → RefusalRec → Device)
    (key : Nat) (why : Reason) (i : Nat) (hk : noticeReg key = true ∨ key ∈ l)
    (ht : ∀ g r, d.Noted g l → d.Noted (take g r) l) : d.Noted (Device.refuseBy take e key why i) l := by
  unfold Device.refuseBy
  dsimp only
  split
  · split
    · exact ht _ _ (h.wr _ _ hk)
    · exact (h.wr _ _ hk).withRefusals _
  · split
    · exact h.wr _ _ hk
    · exact (h.wr _ _ hk).withRefusals _

theorem Device.Noted.pwRefusal {d e : Device} {l : List Nat} (h : d.Noted e l) (kind unit : Nat) (why : Reason)
    (ev : Nat) : d.Noted (e.pwRefusal kind unit why ev) l := by
  unfold Device.pwRefusal
  refine Device.Noted.raiseCore (Device.Noted.refuseBy ?_ _ _ _ _ (.inl (by decide))
    (fun g r hg => (hg.lastRefusal r).raiseCore _ _ (.inl (by decide)))) _ _ (.inl (by decide))
  exact (h.inc _ (.inl (by decide))).setAll _ (by simp [noticeReg])

/-! ## What the power unit may do at a raise -/

/-- As `Noted`, and also the power unit, the loops that a wake starts and the drains that an abort ends (R495, R499). -/
def Device.Woken (d e : Device) (l : List Nat) : Prop :=
  e = { d with regs := e.regs, ev := e.ev, refusals := e.refusals, pw := e.pw, clk := e.clk, ring := e.ring }
    ∧ d.keepsRegs e l

theorem Device.Woken.trans {d e g : Device} {l : List Nat} (h : d.Woken e l) (h' : e.Woken g l) : d.Woken g l := by
  refine ⟨?_, fun k hk hn => (h'.2 k hk hn).trans (h.2 k hk hn)⟩
  rw [h'.1, h.1]

theorem Device.Noted.woken {d e : Device} {l : List Nat} (h : d.Noted e l) : d.Woken e l := by
  refine ⟨?_, h.2⟩
  rw [h.1]

theorem Device.Woken.each {d e : Device} {l : List Nat} (h : d.Woken e l) (L : List Nat) (f : Device → Nat → Device)
    (hf : ∀ g c, d.Woken g l → d.Woken (f g c) l) : d.Woken (e.each L f) l := by
  unfold Device.each
  induction L generalizing e with
  | nil => exact h
  | cons c r ih => exact ih (hf e c h)

theorem Device.pwAbort_woken (d : Device) (unit : Nat) (why : Reason) (ev : Nat) (l : List Nat) :
    d.Woken (d.pwAbort unit why ev) l := by
  have h1 : d.Woken (d.each d.pw.stops (fun d n => d.setTarget (zoneStop n) { d.target (zoneStop n) with drain := false }))
      l := (Device.Noted.refl d l).woken.each _ _ (fun _ _ hg => hg.trans ⟨rfl, fun _ _ _ => rfl⟩)
  unfold Device.pwAbort
  refine (h1.trans (g := { d.each d.pw.stops (fun d n => d.setTarget (zoneStop n)
    { d.target (zoneStop n) with drain := false }) with pw := .idle }) ⟨rfl, fun _ _ _ => rfl⟩).trans ?_
  exact (((Device.Noted.refl _ l).setAll _ (by simp [noticeReg])).pwRefusal _ _ _ _).woken

theorem Device.wakeBegin_woken (d : Device) (source : Nat) (l : List Nat) : d.Woken (d.wakeBegin source) l := by
  have h1 := ((Device.Noted.refl d l).setAll [(F.PW_STATUS_PHASE, 5), (F.PW_WAKE_SRC_SOURCE, source)]
    (by simp [noticeReg])).woken
  unfold Device.wakeBegin
  refine h1.trans ?_
  dsimp only
  repeat' split
  all_goals exact ⟨rfl, fun _ _ _ => rfl⟩

theorem Device.powerHook_woken (d : Device) (ev unit : Nat) (l : List Nat) : d.Woken (d.powerHook ev unit) l := by
  unfold Device.powerHook
  dsimp only
  repeat' split
  all_goals first
    | exact (Device.Noted.refl d l).woken
    | exact ⟨rfl, fun _ _ _ => rfl⟩
    | exact d.wakeBegin_woken _ l
    | exact d.pwAbort_woken _ _ _ l

/-- A raise writes only what events, and the power unit at an event, write. -/
theorem Device.raise_woken (d : Device) (ev unit payload : Nat) :
    d.Woken (d.raise ev unit payload) [0x6000 + 4 * (ev / 32)] := by
  unfold Device.raise
  split
  · exact (Device.Noted.refl d _).woken
  · exact ((Device.Noted.refl d _).raiseCore _ _ (.inr (List.mem_cons_self ..))).woken.trans
      (Device.powerHook_woken _ _ _ _)

theorem Device.raise_woken_nil (d : Device) {ev : Nat} (unit payload : Nat) (hv : ev < 128) :
    d.Woken (d.raise ev unit payload) [] := by
  unfold Device.raise
  split
  · exact (Device.Noted.refl d _).woken
  · exact ((Device.Noted.refl d _).raiseCore _ _ (.inl (noticeReg_latch hv))).woken.trans
      (Device.powerHook_woken _ _ _ _)

theorem Device.Noted.mono {d e : Device} {l m : List Nat} (h : d.Noted e l) (hs : ∀ k ∈ l, k ∈ m) : d.Noted e m :=
  ⟨h.1, fun k hk hn => h.2 k (fun hm => hk (hs k hm)) hn⟩

theorem Device.Woken.mono {d e : Device} {l m : List Nat} (h : d.Woken e l) (hs : ∀ k ∈ l, k ∈ m) : d.Woken e m :=
  ⟨h.1, fun k hk hn => h.2 k (fun hm => hk (hs k hm)) hn⟩

theorem Device.applyRefusal_woken (d : Device) (r : RefusalRec) : d.Woken (d.applyRefusal r) [] :=
  ((Device.Noted.refl d []).lastRefusal r).woken.trans (Device.raise_woken_nil _ _ _ (by decide))

/-- A refusal writes its unit's record, what any event or refusal writes, and what the power unit writes at its event. -/
theorem Device.refuse_woken (d : Device) (key : Nat) (why : Reason) (i : Nat) : d.Woken (d.refuse key why i) [key] := by
  have h := ((Device.Noted.refl d [key]).wr key (why.code * 256 + i % 256) (.inr (List.mem_cons_self ..)))
  unfold Device.refuse Device.refuseBy
  dsimp only
  split
  · split
    · exact h.woken.trans ((Device.applyRefusal_woken _ _).mono (fun k hk => nomatch hk))
    · exact (h.withRefusals _).woken
  · split
    · exact h.woken
    · exact (h.withRefusals _).woken

theorem Device.rd_raise (d : Device) {ev : Nat} (unit payload : Nat) {k : Nat} (hv : ev < 128)
    (hk : noticeReg k = false) : (d.raise ev unit payload).rd k = d.rd k :=
  (d.raise_woken_nil unit payload hv).2 k (List.not_mem_nil) hk

/-- A field outside the registers that events write reads the same after a raise. -/
theorem Device.get_raise (d : Device) {ev : Nat} (unit payload : Nat) {f : Field} (hv : ev < 128)
    (hk : noticeReg f.key = false) : (d.raise ev unit payload).get f = d.get f := by
  simp [Device.get, d.rd_raise unit payload hv hk]

/-- A field outside the registers that a refusal writes reads the same after it. -/
theorem Device.get_refuse (d : Device) (key : Nat) (why : Reason) (i : Nat) {f : Field} (h : f.key ≠ key)
    (hk : noticeReg f.key = false) : (d.refuse key why i).get f = d.get f := by
  simp [Device.get, (d.refuse_woken key why i).2 f.key (by simpa using h) hk]

/-! ## Parts of the device that a raise and a refusal leave -/

@[simp] theorem Device.refuse_free (d : Device) (k : Nat) (w : Reason) (i : Nat) : (d.refuse k w i).free = d.free :=
  (congrArg Device.free (d.refuse_woken k w i).1 :)
@[simp] theorem Device.raise_free (d : Device) (ev u p : Nat) : (d.raise ev u p).free = d.free :=
  (congrArg Device.free (d.raise_woken ev u p).1 :)
@[simp] theorem Device.refuse_board (d : Device) (k : Nat) (w : Reason) (i : Nat) : (d.refuse k w i).board = d.board :=
  (congrArg Device.board (d.refuse_woken k w i).1 :)
@[simp] theorem Device.raise_board (d : Device) (ev u p : Nat) : (d.raise ev u p).board = d.board :=
  (congrArg Device.board (d.raise_woken ev u p).1 :)
@[simp] theorem Device.refuse_rst (d : Device) (k : Nat) (w : Reason) (i : Nat) : (d.refuse k w i).rst = d.rst :=
  (congrArg Device.rst (d.refuse_woken k w i).1 :)
@[simp] theorem Device.raise_rst (d : Device) (ev u p : Nat) : (d.raise ev u p).rst = d.rst :=
  (congrArg Device.rst (d.raise_woken ev u p).1 :)
@[simp] theorem Device.refuse_zones (d : Device) (k : Nat) (w : Reason) (i : Nat) : (d.refuse k w i).zones = d.zones :=
  (congrArg Device.zones (d.refuse_woken k w i).1 :)
@[simp] theorem Device.raise_zones (d : Device) (ev u p : Nat) : (d.raise ev u p).zones = d.zones :=
  (congrArg Device.zones (d.raise_woken ev u p).1 :)
@[simp] theorem Device.refuse_brErrs (d : Device) (k : Nat) (w : Reason) (i : Nat) : (d.refuse k w i).brErrs = d.brErrs :=
  (congrArg Device.brErrs (d.refuse_woken k w i).1 :)
@[simp] theorem Device.raise_brErrs (d : Device) (ev u p : Nat) : (d.raise ev u p).brErrs = d.brErrs :=
  (congrArg Device.brErrs (d.raise_woken ev u p).1 :)
@[simp] theorem Device.refuse_cul (d : Device) (k : Nat) (w : Reason) (i : Nat) : (d.refuse k w i).cul = d.cul :=
  (congrArg Device.cul (d.refuse_woken k w i).1 :)
@[simp] theorem Device.raise_cul (d : Device) (ev u p : Nat) : (d.raise ev u p).cul = d.cul :=
  (congrArg Device.cul (d.raise_woken ev u p).1 :)
@[simp] theorem Device.refuse_banks (d : Device) (k : Nat) (w : Reason) (i : Nat) : (d.refuse k w i).banks = d.banks :=
  (congrArg Device.banks (d.refuse_woken k w i).1 :)
@[simp] theorem Device.raise_banks (d : Device) (ev u p : Nat) : (d.raise ev u p).banks = d.banks :=
  (congrArg Device.banks (d.raise_woken ev u p).1 :)
@[simp] theorem Device.refuse_orm (d : Device) (k : Nat) (w : Reason) (i : Nat) : (d.refuse k w i).orm = d.orm :=
  (congrArg Device.orm (d.refuse_woken k w i).1 :)
@[simp] theorem Device.raise_orm (d : Device) (ev u p : Nat) : (d.raise ev u p).orm = d.orm :=
  (congrArg Device.orm (d.raise_woken ev u p).1 :)
@[simp] theorem Device.refuse_fuses (d : Device) (k : Nat) (w : Reason) (i : Nat) : (d.refuse k w i).fuses = d.fuses :=
  (congrArg Device.fuses (d.refuse_woken k w i).1 :)
@[simp] theorem Device.raise_fuses (d : Device) (ev u p : Nat) : (d.raise ev u p).fuses = d.fuses :=
  (congrArg Device.fuses (d.raise_woken ev u p).1 :)
@[simp] theorem Device.refuse_keys (d : Device) (k : Nat) (w : Reason) (i : Nat) : (d.refuse k w i).keys = d.keys :=
  (congrArg Device.keys (d.refuse_woken k w i).1 :)
@[simp] theorem Device.raise_keys (d : Device) (ev u p : Nat) : (d.raise ev u p).keys = d.keys :=
  (congrArg Device.keys (d.raise_woken ev u p).1 :)
@[simp] theorem Device.refuse_trng (d : Device) (k : Nat) (w : Reason) (i : Nat) : (d.refuse k w i).trng = d.trng :=
  (congrArg Device.trng (d.refuse_woken k w i).1 :)
@[simp] theorem Device.raise_trng (d : Device) (ev u p : Nat) : (d.raise ev u p).trng = d.trng :=
  (congrArg Device.trng (d.raise_woken ev u p).1 :)
@[simp] theorem Device.refuse_lc (d : Device) (k : Nat) (w : Reason) (i : Nat) : (d.refuse k w i).lc = d.lc :=
  (congrArg Device.lc (d.refuse_woken k w i).1 :)
@[simp] theorem Device.raise_lc (d : Device) (ev u p : Nat) : (d.raise ev u p).lc = d.lc :=
  (congrArg Device.lc (d.raise_woken ev u p).1 :)
@[simp] theorem Device.refuse_tap (d : Device) (k : Nat) (w : Reason) (i : Nat) : (d.refuse k w i).tap = d.tap :=
  (congrArg Device.tap (d.refuse_woken k w i).1 :)
@[simp] theorem Device.raise_tap (d : Device) (ev u p : Nat) : (d.raise ev u p).tap = d.tap :=
  (congrArg Device.tap (d.raise_woken ev u p).1 :)
@[simp] theorem Device.refuse_bat (d : Device) (k : Nat) (w : Reason) (i : Nat) : (d.refuse k w i).bat = d.bat :=
  (congrArg Device.bat (d.refuse_woken k w i).1 :)
@[simp] theorem Device.raise_bat (d : Device) (ev u p : Nat) : (d.raise ev u p).bat = d.bat :=
  (congrArg Device.bat (d.raise_woken ev u p).1 :)
@[simp] theorem Device.refuse_gath (d : Device) (k : Nat) (w : Reason) (i : Nat) : (d.refuse k w i).gath = d.gath :=
  (congrArg Device.gath (d.refuse_woken k w i).1 :)
@[simp] theorem Device.raise_gath (d : Device) (ev u p : Nat) : (d.raise ev u p).gath = d.gath :=
  (congrArg Device.gath (d.raise_woken ev u p).1 :)
@[simp] theorem Device.refuse_cmp (d : Device) (k : Nat) (w : Reason) (i : Nat) : (d.refuse k w i).cmp = d.cmp :=
  (congrArg Device.cmp (d.refuse_woken k w i).1 :)
@[simp] theorem Device.raise_cmp (d : Device) (ev u p : Nat) : (d.raise ev u p).cmp = d.cmp :=
  (congrArg Device.cmp (d.raise_woken ev u p).1 :)
@[simp] theorem Device.refuse_lehr (d : Device) (k : Nat) (w : Reason) (i : Nat) : (d.refuse k w i).lehr = d.lehr :=
  (congrArg Device.lehr (d.refuse_woken k w i).1 :)
@[simp] theorem Device.raise_lehr (d : Device) (ev u p : Nat) : (d.raise ev u p).lehr = d.lehr :=
  (congrArg Device.lehr (d.raise_woken ev u p).1 :)
@[simp] theorem Device.refuse_gaf (d : Device) (k : Nat) (w : Reason) (i : Nat) : (d.refuse k w i).gaf = d.gaf :=
  (congrArg Device.gaf (d.refuse_woken k w i).1 :)
@[simp] theorem Device.raise_gaf (d : Device) (ev u p : Nat) : (d.raise ev u p).gaf = d.gaf :=
  (congrArg Device.gaf (d.raise_woken ev u p).1 :)
@[simp] theorem Device.refuse_pool (d : Device) (k : Nat) (w : Reason) (i : Nat) : (d.refuse k w i).pool = d.pool :=
  (congrArg Device.pool (d.refuse_woken k w i).1 :)
@[simp] theorem Device.raise_pool (d : Device) (ev u p : Nat) : (d.raise ev u p).pool = d.pool :=
  (congrArg Device.pool (d.raise_woken ev u p).1 :)
@[simp] theorem Device.refuse_smv (d : Device) (k : Nat) (w : Reason) (i : Nat) : (d.refuse k w i).smv = d.smv :=
  (congrArg Device.smv (d.refuse_woken k w i).1 :)
@[simp] theorem Device.raise_smv (d : Device) (ev u p : Nat) : (d.raise ev u p).smv = d.smv :=
  (congrArg Device.smv (d.raise_woken ev u p).1 :)
@[simp] theorem Device.refuse_smvTurn (d : Device) (k : Nat) (w : Reason) (i : Nat) : (d.refuse k w i).smvTurn = d.smvTurn :=
  (congrArg Device.smvTurn (d.refuse_woken k w i).1 :)
@[simp] theorem Device.raise_smvTurn (d : Device) (ev u p : Nat) : (d.raise ev u p).smvTurn = d.smvTurn :=
  (congrArg Device.smvTurn (d.raise_woken ev u p).1 :)
@[simp] theorem Device.refuse_bankVolt (d : Device) (k : Nat) (w : Reason) (i : Nat) : (d.refuse k w i).bankVolt = d.bankVolt :=
  (congrArg Device.bankVolt (d.refuse_woken k w i).1 :)
@[simp] theorem Device.raise_bankVolt (d : Device) (ev u p : Nat) : (d.raise ev u p).bankVolt = d.bankVolt :=
  (congrArg Device.bankVolt (d.raise_woken ev u p).1 :)
@[simp] theorem Device.refuse_calSeen (d : Device) (k : Nat) (w : Reason) (i : Nat) : (d.refuse k w i).calSeen = d.calSeen :=
  (congrArg Device.calSeen (d.refuse_woken k w i).1 :)
@[simp] theorem Device.raise_calSeen (d : Device) (ev u p : Nat) : (d.raise ev u p).calSeen = d.calSeen :=
  (congrArg Device.calSeen (d.raise_woken ev u p).1 :)
@[simp] theorem Device.refuse_lanes (d : Device) (k : Nat) (w : Reason) (i : Nat) : (d.refuse k w i).lanes = d.lanes :=
  (congrArg Device.lanes (d.refuse_woken k w i).1 :)
@[simp] theorem Device.raise_lanes (d : Device) (ev u p : Nat) : (d.raise ev u p).lanes = d.lanes :=
  (congrArg Device.lanes (d.raise_woken ev u p).1 :)
@[simp] theorem Device.refuse_warnOn (d : Device) (k : Nat) (w : Reason) (i : Nat) : (d.refuse k w i).warnOn = d.warnOn :=
  (congrArg Device.warnOn (d.refuse_woken k w i).1 :)
@[simp] theorem Device.raise_warnOn (d : Device) (ev u p : Nat) : (d.raise ev u p).warnOn = d.warnOn :=
  (congrArg Device.warnOn (d.raise_woken ev u p).1 :)
@[simp] theorem Device.refuse_enc (d : Device) (k : Nat) (w : Reason) (i : Nat) : (d.refuse k w i).enc = d.enc :=
  (congrArg Device.enc (d.refuse_woken k w i).1 :)
@[simp] theorem Device.raise_enc (d : Device) (ev u p : Nat) : (d.raise ev u p).enc = d.enc :=
  (congrArg Device.enc (d.raise_woken ev u p).1 :)
@[simp] theorem Device.refuse_marks (d : Device) (k : Nat) (w : Reason) (i : Nat) : (d.refuse k w i).marks = d.marks :=
  (congrArg Device.marks (d.refuse_woken k w i).1 :)
@[simp] theorem Device.raise_marks (d : Device) (ev u p : Nat) : (d.raise ev u p).marks = d.marks :=
  (congrArg Device.marks (d.raise_woken ev u p).1 :)
@[simp] theorem Device.refuse_cams (d : Device) (k : Nat) (w : Reason) (i : Nat) : (d.refuse k w i).cams = d.cams :=
  (congrArg Device.cams (d.refuse_woken k w i).1 :)
@[simp] theorem Device.raise_cams (d : Device) (ev u p : Nat) : (d.raise ev u p).cams = d.cams :=
  (congrArg Device.cams (d.raise_woken ev u p).1 :)
@[simp] theorem Device.refuse_eviSeen (d : Device) (k : Nat) (w : Reason) (i : Nat) : (d.refuse k w i).eviSeen = d.eviSeen :=
  (congrArg Device.eviSeen (d.refuse_woken k w i).1 :)
@[simp] theorem Device.raise_eviSeen (d : Device) (ev u p : Nat) : (d.raise ev u p).eviSeen = d.eviSeen :=
  (congrArg Device.eviSeen (d.raise_woken ev u p).1 :)
@[simp] theorem Device.refuse_xbConf (d : Device) (k : Nat) (w : Reason) (i : Nat) : (d.refuse k w i).xbConf = d.xbConf :=
  (congrArg Device.xbConf (d.refuse_woken k w i).1 :)
@[simp] theorem Device.raise_xbConf (d : Device) (ev u p : Nat) : (d.raise ev u p).xbConf = d.xbConf :=
  (congrArg Device.xbConf (d.raise_woken ev u p).1 :)
@[simp] theorem Device.refuse_ident (d : Device) (k : Nat) (w : Reason) (i : Nat) : (d.refuse k w i).ident = d.ident :=
  (congrArg Device.ident (d.refuse_woken k w i).1 :)
@[simp] theorem Device.raise_ident (d : Device) (ev u p : Nat) : (d.raise ev u p).ident = d.ident :=
  (congrArg Device.ident (d.raise_woken ev u p).1 :)
@[simp] theorem Device.refuse_ml (d : Device) (k : Nat) (w : Reason) (i : Nat) : (d.refuse k w i).ml = d.ml :=
  (congrArg Device.ml (d.refuse_woken k w i).1 :)
@[simp] theorem Device.raise_ml (d : Device) (ev u p : Nat) : (d.raise ev u p).ml = d.ml :=
  (congrArg Device.ml (d.raise_woken ev u p).1 :)

/-! ## What the event controller holds after a raise -/

@[simp] theorem Device.refuseAt_eq (d : Device) (r : Field) (w : Reason) (f : Field) :
    d.refuseAt r w f = d.refuse r.key w (f.key % 4096 / 4) := (rfl)

theorem Device.latched_iff (d : Device) (ev : Nat) :
    d.latched ev = (d.rd (0x6000 + 4 * (ev / 32))).testBit (ev % 32) := by
  have h : ev % 32 < 32 := Nat.mod_lt _ (by decide)
  simp only [Device.latched, Device.get, bit_eq_testBit]
  rw [bits_testBit]
  simp [h]

/-- A write of a register that is not the event's latch leaves the event's latch. -/
theorem Device.latched_set (d : Device) (f : Field) (v ev : Nat) (h : f.key ≠ 0x6000 + 4 * (ev / 32)) :
    (d.set f v).latched ev = d.latched ev := by
  rw [Device.latched_iff, Device.latched_iff, Device.rd_set_ne _ _ _ (Ne.symm h)]

/-- A raise sets its event's latch (R505), whatever else is latched. -/
theorem Device.latched_latchRaise (d : Device) (r : Raise) (h : neverLatches r.ev = false) :
    (d.latchRaise r).latched r.ev = true := by
  have hl : (r.ev % 32) < 32 := Nat.mod_lt _ (by decide)
  simp only [Device.latchRaise, Device.mirqUpdate, h, Device.when, Bool.not_false, if_true]
  rw [Device.latched_iff]
  simp only [Device.setFieldBit, Device.rd, Device.set, Device.wr, Tab.get_set_self, BitVec.toNat_ofNat]
  rw [Nat.testBit_mod_two_pow, putBits_testBit (by decide)]
  simp only [hl, decide_true, Bool.true_and, Nat.zero_le, Nat.sub_zero, true_and]
  rw [if_pos (by omega), setBit_testBit]
  simp

/-- From `d` to `e` every latched event stays latched, and the power unit's registers keep their values. -/
def Device.KeepsLatches (d e : Device) : Prop :=
  (∀ ev, ev < 128 → d.latched ev = true → e.latched ev = true) ∧ ∀ k, k / 4096 = 5 → e.rd k = d.rd k

theorem Device.KeepsLatches.refl (d : Device) : d.KeepsLatches d := ⟨fun _ _ h => h, fun _ _ => rfl⟩

theorem Device.KeepsLatches.trans {d e g : Device} (h : d.KeepsLatches e) (h' : e.KeepsLatches g) :
    d.KeepsLatches g :=
  ⟨fun ev hv hl => h'.1 ev hv (h.1 ev hv hl), fun k hk => (h'.2 k hk).trans (h.2 k hk)⟩

theorem Device.keepsLatches_of_regs {d e : Device} (h : e.regs = d.regs) : d.KeepsLatches e := by
  have hr : ∀ k, e.rd k = d.rd k := fun k => by simp [Device.rd, h]
  exact ⟨fun ev _ hl => by simpa [Device.latched, Device.get, hr] using hl, fun k _ => hr k⟩

theorem Device.KeepsLatches.set {d e : Device} (h : d.KeepsLatches e) (f : Field) (v : Nat)
    (hf : f.key < 0x5000 ∨ 0x600C < f.key) : d.KeepsLatches (e.set f v) := by
  refine h.trans ⟨fun ev hv hl => ?_, fun k hk => Device.rd_set_ne _ _ _ (by omega)⟩
  rw [Device.latched_set _ _ _ _ (by omega)]
  exact hl

theorem Device.KeepsLatches.inc {d e : Device} (h : d.KeepsLatches e) (f : Field)
    (hf : f.key < 0x5000 ∨ 0x600C < f.key) : d.KeepsLatches (e.inc f) := h.set f _ hf

theorem Device.keepsLatches_setLatch (d : Device) {ev : Nat} (hv : ev < 128) :
    d.KeepsLatches (d.setFieldBit (F.EV_LATCH_EVENTS (ev / 32)) (ev % 32)) := by
  have hl : ev % 32 < 32 := Nat.mod_lt _ (by decide)
  refine ⟨fun x hx h => ?_, fun k hk => Device.rd_set_ne _ _ _ (by show k ≠ 0x6000 + 4 * (ev / 32); omega)⟩
  rw [Device.latched_iff] at h ⊢
  by_cases hk : x / 32 = ev / 32
  · have hm : x % 32 < 32 := Nat.mod_lt _ (by decide)
    simp only [Device.setFieldBit, hk, Device.set, Device.rd_wr_self]
    rw [hk] at h
    rw [Nat.testBit_mod_two_pow, putBits_testBit (by decide)]
    simp only [hm, decide_true, Bool.true_and, Nat.zero_le, Nat.sub_zero, true_and]
    rw [if_pos (by omega), setBit_testBit]
    simp only [Device.get]
    rw [bits_testBit]
    simp [h, hm]
  · have e : (d.setFieldBit (F.EV_LATCH_EVENTS (ev / 32)) (ev % 32)).rd (0x6000 + 4 * (x / 32))
        = d.rd (0x6000 + 4 * (x / 32)) := Device.rd_set_ne _ _ _ (by show 0x6000 + 4 * (x / 32) ≠ 0x6000 + 4 * (ev / 32); omega)
    rw [e]; exact h

theorem Device.latchRaise_keeps (d : Device) (r : Raise) (hv : r.ev < 128) : d.KeepsLatches (d.latchRaise r) := by
  unfold Device.latchRaise Device.mirqUpdate Device.when
  split
  · exact ((Device.keepsLatches_of_regs rfl).trans (Device.keepsLatches_setLatch _ hv)).trans
      (Device.keepsLatches_of_regs rfl)
  · exact Device.keepsLatches_of_regs rfl

theorem Device.enqueueRaise_keeps (d : Device) (r : Raise) : d.KeepsLatches (d.enqueueRaise r) := by
  unfold Device.enqueueRaise
  split
  · exact Device.keepsLatches_of_regs rfl
  · exact (Device.KeepsLatches.refl d).inc _ (.inr (by decide))

theorem Device.smvTrigger_keeps (d : Device) (ev c : Nat) : d.KeepsLatches (Device.smvTrigger ev d c) := by
  have hk : (0x600C : Nat) < 0x1810C + 32 * c := by omega
  unfold Device.smvTrigger
  split
  · split
    · exact (Device.KeepsLatches.refl d).set _ _ (.inr hk)
    · split
      · exact (Device.KeepsLatches.refl d).set _ _ (.inr hk)
      · exact (Device.KeepsLatches.refl d).set _ _ (.inr hk)
  · exact Device.KeepsLatches.refl d

theorem Device.KeepsLatches.each {d e : Device} (h : d.KeepsLatches e) (L : List Nat) (f : Device → Nat → Device)
    (hf : ∀ (g : Device) (c : Nat), g.KeepsLatches (f g c)) : d.KeepsLatches (e.each L f) := by
  unfold Device.each
  induction L generalizing e with
  | nil => exact h
  | cons c r ih => exact ih (h.trans (hf e c))

theorem Device.raiseCore_keeps (d : Device) {ev : Nat} (unit payload : Nat) (hv : ev < 128) :
    d.KeepsLatches (d.raiseCore ev unit payload) := by
  unfold Device.raiseCore
  split
  · exact Device.KeepsLatches.refl d
  · have h2 := ((d.enqueueRaise_keeps ⟨ev, unit, payload, d.mtOf (unitDie unit)⟩).each (List.range 16) (Device.smvTrigger ev)
        (fun g c => g.smvTrigger_keeps ev c))
    dsimp only
    split
    · exact h2.trans (Device.latchRaise_keeps _ _ hv)
    · exact h2.trans (Device.keepsLatches_of_regs rfl)

/-- While MCK runs, a raise of a unit that is not silent latches its event (R505). -/
theorem Device.latched_raiseCore (d : Device) {ev : Nat} (unit payload : Nat) (hs : d.silent unit = false)
    (hm : d.board.mck = true) (hn : neverLatches ev = false) : (d.raiseCore ev unit payload).latched ev = true := by
  unfold Device.raiseCore
  have hb : ((d.enqueueRaise ⟨ev, unit, payload, d.mtOf (unitDie unit)⟩).each
      (List.range 16) (Device.smvTrigger ev)).board = d.board := by
    have h := (((Device.Noted.refl d []).enqueueRaise ⟨ev, unit, payload, d.mtOf (unitDie unit)⟩).each (List.range 16) (Device.smvTrigger ev)
        (fun g c hc hg => hg.smvTrigger ev c (List.mem_range.1 hc))).1
    exact (congrArg Device.board h :)
  simp only [hs, Bool.false_eq_true, if_false, hb, hm, Bool.true_or, if_true]
  exact Device.latched_latchRaise _ _ hn

theorem Device.powerHook_calm (d : Device) (ev unit : Nat) (h : d.get F.PW_STATUS_PHASE = 0) :
    d.powerHook ev unit = d := by
  unfold Device.powerHook
  split
  · rfl
  · simp [h]

/-- While no power entry, state or wake is under way, a raise is its record and delivery alone. -/
theorem Device.raise_calm (d : Device) {ev : Nat} (unit payload : Nat) (hv : ev < 128)
    (h : d.get F.PW_STATUS_PHASE = 0) : d.raise ev unit payload = d.raiseCore ev unit payload := by
  unfold Device.raise
  split
  · rename_i hs
    simp [Device.raiseCore, hs]
  · refine Device.powerHook_calm _ _ _ ?_
    rw [← h]
    simp only [Device.get]
    rw [(d.raiseCore_keeps unit payload hv).2 _ (by decide)]

theorem Device.running_iff (d : Device) :
    d.running = true ↔ d.board.mck = true ∧ d.get F.PW_STATUS_PHASE = 0 := by
  simp [Device.running]

/-- While the device runs, a raise of a unit that is not silent latches its event (R505). -/
theorem Device.latched_raise (d : Device) {ev : Nat} (unit payload : Nat) (hr : d.running = true)
    (hs : d.silent unit = false) (hv : ev < 128) (hn : neverLatches ev = false) :
    (d.raise ev unit payload).latched ev = true := by
  obtain ⟨hm, hp⟩ := d.running_iff.1 hr
  rw [d.raise_calm unit payload hv hp]
  exact d.latched_raiseCore unit payload hs hm hn

/-- While the device runs, a raise leaves every event that was latched latched. -/
theorem Device.raise_keeps (d : Device) {ev : Nat} (unit payload : Nat) (hr : d.running = true) (hv : ev < 128) :
    d.KeepsLatches (d.raise ev unit payload) := by
  rw [d.raise_calm unit payload hv (d.running_iff.1 hr).2]
  exact d.raiseCore_keeps unit payload hv

theorem Device.running_raise (d : Device) {ev : Nat} (unit payload : Nat) (hr : d.running = true) (hv : ev < 128) :
    (d.raise ev unit payload).running = true := by
  have h := d.running_iff.1 hr
  refine (Device.running_iff _).2 ⟨by simpa using h.1, ?_⟩
  have hk := (d.raise_keeps unit payload hr hv).2 0x5004 (by decide)
  simpa [Device.get, hk] using h.2

theorem Device.running_set (d : Device) (f : Field) (v : Nat) (h : f.key ≠ 0x5004) :
    (d.set f v).running = d.running := by
  have e : (d.set f v).get F.PW_STATUS_PHASE = d.get F.PW_STATUS_PHASE := d.get_set_key f _ v (Ne.symm h)
  simp [Device.running, e]

/-- While no power entry, state or wake is under way, a raise leaves the power unit, the loops and the ring alone. -/
theorem Device.raise_noted (d : Device) {ev : Nat} (unit payload : Nat) (hv : ev < 128)
    (h : d.get F.PW_STATUS_PHASE = 0) : d.Noted (d.raise ev unit payload) [] := by
  rw [d.raise_calm unit payload hv h]
  exact (Device.Noted.refl d []).raiseCore unit payload (.inl (noticeReg_latch hv))

/-- A unit of the P-die is never silent. -/
theorem Device.silent_of {d e : Device} (hf : e.get F.RS_STATUS_DIE_FENCED = d.get F.RS_STATUS_DIE_FENCED)
    (hs : e.get F.PW_STATUS_STATE = d.get F.PW_STATUS_STATE) (hp : e.pw = d.pw) (u : Nat) : e.silent u = d.silent u := by
  simp only [Device.silent, Device.fenced, Device.dormant, hf, hs, hp]

theorem Device.silent_set (d : Device) (f : Field) (v u : Nat) (h : f.key ≠ 0x2008) (h' : f.key ≠ 0x5004) :
    (d.set f v).silent u = d.silent u :=
  Device.silent_of (d.get_set_key f _ v (Ne.symm h)) (d.get_set_key f _ v (Ne.symm h')) (d.set_pw f v) u

@[simp] theorem Device.silent_modZone (d : Device) (n : Nat) (g : Zone → Zone) (u : Nat) :
    (d.modZone n g).silent u = d.silent u := (rfl)
@[simp] theorem Device.running_modZone (d : Device) (n : Nat) (g : Zone → Zone) :
    (d.modZone n g).running = d.running := (rfl)
@[simp] theorem Device.silent_tick (d : Device) (u : Nat) : d.tick.silent u = d.silent u := (rfl)
@[simp] theorem Device.running_tick (d : Device) : d.tick.running = d.running := (rfl)

theorem Device.silent_p (d : Device) {u : Nat} (h : u < 512) : d.silent u = false := by
  have : u / 512 = 0 := by omega
  simp [Device.silent, unitDie, this]

theorem Device.raise_pw (d : Device) {ev : Nat} (unit payload : Nat) (hv : ev < 128)
    (h : d.get F.PW_STATUS_PHASE = 0) : (d.raise ev unit payload).pw = d.pw :=
  (congrArg Device.pw (d.raise_noted unit payload hv h).1 :)
theorem Device.raise_clk (d : Device) {ev : Nat} (unit payload : Nat) (hv : ev < 128)
    (h : d.get F.PW_STATUS_PHASE = 0) : (d.raise ev unit payload).clk = d.clk :=
  (congrArg Device.clk (d.raise_noted unit payload hv h).1 :)
theorem Device.raise_ring (d : Device) {ev : Nat} (unit payload : Nat) (hv : ev < 128)
    (h : d.get F.PW_STATUS_PHASE = 0) : (d.raise ev unit payload).ring = d.ring :=
  (congrArg Device.ring (d.raise_noted unit payload hv h).1 :)

/-! ## A refusal while no power entry, state or wake is under way -/

theorem Device.applyRefusal_calm (d : Device) (r : RefusalRec) (h : d.get F.PW_STATUS_PHASE = 0) :
    d.applyRefusal r = (d.lastRefusal r).raiseCore Ev.REFUSAL r.unit 0 := by
  refine Device.raise_calm _ _ _ (by decide) ?_
  simp only [Device.lastRefusal, Device.inc, Device.setAll_cons, Device.setAll_nil]
  iterate 4 rw [Device.get_set_key _ _ _ _ (by decide)]
  exact h

theorem Device.applyRefusal_noted (d : Device) (r : RefusalRec) (h : d.get F.PW_STATUS_PHASE = 0) :
    d.Noted (d.applyRefusal r) [] := by
  rw [d.applyRefusal_calm r h]
  exact ((Device.Noted.refl d []).lastRefusal r).raiseCore _ _ (.inl (by decide))

/-- A refusal then writes its unit's record beside what any event or refusal writes. -/
theorem Device.refuse_noted (d : Device) (key : Nat) (why : Reason) (i : Nat) (h : d.get F.PW_STATUS_PHASE = 0)
    (hk : key ≠ 0x5004) : d.Noted (d.refuse key why i) [key] := by
  have hw := ((Device.Noted.refl d [key]).wr key (why.code * 256 + i % 256) (.inr (List.mem_cons_self ..)))
  have hp : (d.wr key (why.code * 256 + i % 256)).get F.PW_STATUS_PHASE = 0 := by
    rw [← h]; exact congrArg (bits · _ _) (d.rd_wr_ne _ (Ne.symm hk))
  unfold Device.refuse Device.refuseBy
  dsimp only
  split
  · split
    · exact hw.trans ((Device.applyRefusal_noted _ _ hp).mono (fun k hk => nomatch hk))
    · exact hw.withRefusals _
  · split
    · exact hw
    · exact hw.withRefusals _

theorem Device.refuse_pw (d : Device) (key : Nat) (why : Reason) (i : Nat) (h : d.get F.PW_STATUS_PHASE = 0)
    (hk : key ≠ 0x5004) : (d.refuse key why i).pw = d.pw := (congrArg Device.pw (d.refuse_noted key why i h hk).1 :)
theorem Device.refuse_clk (d : Device) (key : Nat) (why : Reason) (i : Nat) (h : d.get F.PW_STATUS_PHASE = 0)
    (hk : key ≠ 0x5004) : (d.refuse key why i).clk = d.clk := (congrArg Device.clk (d.refuse_noted key why i h hk).1 :)
theorem Device.refuse_ring (d : Device) (key : Nat) (why : Reason) (i : Nat) (h : d.get F.PW_STATUS_PHASE = 0)
    (hk : key ≠ 0x5004) : (d.refuse key why i).ring = d.ring := (congrArg Device.ring (d.refuse_noted key why i h hk).1 :)

/-! ## What a refusal records -/

theorem Reason.code_lt (w : Reason) : w.code < 256 := by cases w <;> decide

/-- A refusal leaves its reason and index in the unit's record (R631). -/
theorem Device.rd_refuse_self (d : Device) (key : Nat) (w : Reason) (i : Nat) (hk : noticeReg key = false) :
    (d.refuse key w i).rd key = w.code * 256 + i % 256 := by
  have hw := w.code_lt
  have e : (d.wr key (w.code * 256 + i % 256)).rd key = w.code * 256 + i % 256 := by
    rw [Device.rd_wr_self, Nat.mod_eq_of_lt (by omega)]
  have ha : ∀ r, ((d.wr key (w.code * 256 + i % 256)).applyRefusal r).rd key = w.code * 256 + i % 256 := fun r =>
    ((Device.applyRefusal_woken _ r).2 key (List.not_mem_nil) hk).trans e
  unfold Device.refuse Device.refuseBy
  dsimp only
  split
  · split
    · exact ha _
    · exact e
  · split <;> exact e

theorem Device.reason_refuse (d : Device) (key : Nat) (w : Reason) (i : Nat) (hk : noticeReg key = false) :
    (d.refuse key w i).get ⟨key, 15, 8⟩ = w.code := by
  have hw := w.code_lt
  simp only [Device.get, d.rd_refuse_self key w i hk, bits]
  omega

theorem Device.reason_refuseAt (d : Device) (r : Field) (w : Reason) (f : Field) (hr : r.hi = 15 ∧ r.lo = 8)
    (hk : noticeReg r.key = false) : (d.refuseAt r w f).get r = w.code := by
  obtain ⟨k, hi, lo⟩ := r
  obtain ⟨rfl, rfl⟩ := hr
  exact d.reason_refuse k w _ hk

theorem Device.index_refuse (d : Device) (key : Nat) (w : Reason) (i : Nat) (hk : noticeReg key = false) :
    (d.refuse key w i).get ⟨key, 7, 0⟩ = i % 256 := by
  simp only [Device.get, d.rd_refuse_self key w i hk, bits]
  omega

end Sys2Proof.Machine
end

