-- ==== Sys2Proof/Laws/Keeps.lean ====
section
/-! SUPPORT. Frames, said once per operation: which parts of the device, and which registers, an operation leaves as they
were. `Keeps K R d e` says so of the parts that `K` names and the registers that `R` names; it composes. -/

namespace Sys2Proof.Machine

variable {K K' : Part → Bool} {R R' : Field → Bool} {d e g : Device}

theorem Device.Keeps.refl (d : Device) : d.Keeps K R d := ⟨fun _ _ => rfl, fun _ _ => rfl⟩

theorem Device.Keeps.trans (h : d.Keeps K R e) (h' : e.Keeps K R g) : d.Keeps K R g :=
  ⟨fun p hp => (h'.1 p hp).trans (h.1 p hp), fun k hk => (h'.2 k hk).trans (h.2 k hk)⟩

theorem Device.Keeps.mono (h : d.Keeps K R e) (hk : ∀ p, K' p = true → K p = true)
    (hr : ∀ f, R' f = true → R f = true) : d.Keeps K' R' e :=
  ⟨fun p hp => h.1 p (hk p hp), fun k h' => h.2 k (hr k h')⟩

theorem Device.Keeps.get (h : d.Keeps K R e) (f : Field) (hf : R f = true) : e.get f = d.get f := h.2 f hf

theorem Field.overlaps_key {f g : Field} (h : g.overlaps f = true) : g.key = f.key := by
  simp only [Field.overlaps, Bool.and_eq_true, beq_iff_eq] at h
  exact h.1.1

/-! ## Parts -/

theorem Device.Keeps.free_eq (h : d.Keeps K R e) (hk : K .free = true) : e.free = d.free := h.1 .free hk
theorem Device.Keeps.board_eq (h : d.Keeps K R e) (hk : K .board = true) : e.board = d.board := h.1 .board hk
theorem Device.Keeps.rst_eq (h : d.Keeps K R e) (hk : K .rst = true) : e.rst = d.rst := h.1 .rst hk
theorem Device.Keeps.clk_eq (h : d.Keeps K R e) (hk : K .clk = true) : e.clk = d.clk := h.1 .clk hk
theorem Device.Keeps.zones_eq (h : d.Keeps K R e) (hk : K .zones = true) : e.zones = d.zones := h.1 .zones hk
theorem Device.Keeps.ring_eq (h : d.Keeps K R e) (hk : K .ring = true) : e.ring = d.ring := h.1 .ring hk
theorem Device.Keeps.brErrs_eq (h : d.Keeps K R e) (hk : K .brErrs = true) : e.brErrs = d.brErrs := h.1 .brErrs hk
theorem Device.Keeps.ev_eq (h : d.Keeps K R e) (hk : K .ev = true) : e.ev = d.ev := h.1 .ev hk
theorem Device.Keeps.cul_eq (h : d.Keeps K R e) (hk : K .cul = true) : e.cul = d.cul := h.1 .cul hk
theorem Device.Keeps.refusals_eq (h : d.Keeps K R e) (hk : K .refusals = true) : e.refusals = d.refusals := h.1 .refusals hk
theorem Device.Keeps.pw_eq (h : d.Keeps K R e) (hk : K .pw = true) : e.pw = d.pw := h.1 .pw hk
theorem Device.Keeps.banks_eq (h : d.Keeps K R e) (hk : K .banks = true) : e.banks = d.banks := h.1 .banks hk
theorem Device.Keeps.orm_eq (h : d.Keeps K R e) (hk : K .orm = true) : e.orm = d.orm := h.1 .orm hk
theorem Device.Keeps.fuses_eq (h : d.Keeps K R e) (hk : K .fuses = true) : e.fuses = d.fuses := h.1 .fuses hk
theorem Device.Keeps.keys_eq (h : d.Keeps K R e) (hk : K .keys = true) : e.keys = d.keys := h.1 .keys hk
theorem Device.Keeps.trng_eq (h : d.Keeps K R e) (hk : K .trng = true) : e.trng = d.trng := h.1 .trng hk
theorem Device.Keeps.lc_eq (h : d.Keeps K R e) (hk : K .lc = true) : e.lc = d.lc := h.1 .lc hk
theorem Device.Keeps.tap_eq (h : d.Keeps K R e) (hk : K .tap = true) : e.tap = d.tap := h.1 .tap hk
theorem Device.Keeps.bat_eq (h : d.Keeps K R e) (hk : K .bat = true) : e.bat = d.bat := h.1 .bat hk
theorem Device.Keeps.gath_eq (h : d.Keeps K R e) (hk : K .gath = true) : e.gath = d.gath := h.1 .gath hk
theorem Device.Keeps.cmp_eq (h : d.Keeps K R e) (hk : K .cmp = true) : e.cmp = d.cmp := h.1 .cmp hk
theorem Device.Keeps.lehr_eq (h : d.Keeps K R e) (hk : K .lehr = true) : e.lehr = d.lehr := h.1 .lehr hk
theorem Device.Keeps.gaf_eq (h : d.Keeps K R e) (hk : K .gaf = true) : e.gaf = d.gaf := h.1 .gaf hk
theorem Device.Keeps.pool_eq (h : d.Keeps K R e) (hk : K .pool = true) : e.pool = d.pool := h.1 .pool hk
theorem Device.Keeps.smv_eq (h : d.Keeps K R e) (hk : K .smv = true) : e.smv = d.smv := h.1 .smv hk
theorem Device.Keeps.smvTurn_eq (h : d.Keeps K R e) (hk : K .smvTurn = true) : e.smvTurn = d.smvTurn := h.1 .smvTurn hk
theorem Device.Keeps.bankVolt_eq (h : d.Keeps K R e) (hk : K .bankVolt = true) : e.bankVolt = d.bankVolt := h.1 .bankVolt hk
theorem Device.Keeps.calSeen_eq (h : d.Keeps K R e) (hk : K .calSeen = true) : e.calSeen = d.calSeen := h.1 .calSeen hk
theorem Device.Keeps.lanes_eq (h : d.Keeps K R e) (hk : K .lanes = true) : e.lanes = d.lanes := h.1 .lanes hk
theorem Device.Keeps.warnOn_eq (h : d.Keeps K R e) (hk : K .warnOn = true) : e.warnOn = d.warnOn := h.1 .warnOn hk
theorem Device.Keeps.enc_eq (h : d.Keeps K R e) (hk : K .enc = true) : e.enc = d.enc := h.1 .enc hk
theorem Device.Keeps.marks_eq (h : d.Keeps K R e) (hk : K .marks = true) : e.marks = d.marks := h.1 .marks hk
theorem Device.Keeps.cams_eq (h : d.Keeps K R e) (hk : K .cams = true) : e.cams = d.cams := h.1 .cams hk
theorem Device.Keeps.eviSeen_eq (h : d.Keeps K R e) (hk : K .eviSeen = true) : e.eviSeen = d.eviSeen := h.1 .eviSeen hk
theorem Device.Keeps.xbConf_eq (h : d.Keeps K R e) (hk : K .xbConf = true) : e.xbConf = d.xbConf := h.1 .xbConf hk
theorem Device.Keeps.ident_eq (h : d.Keeps K R e) (hk : K .ident = true) : e.ident = d.ident := h.1 .ident hk
theorem Device.Keeps.ml_eq (h : d.Keeps K R e) (hk : K .ml = true) : e.ml = d.ml := h.1 .ml hk

/-! ## Updates -/

theorem Device.Keeps.with_free (h : d.Keeps K R e) (x : Nat) (hk : K .free = false) : d.Keeps K R { e with free := x } :=
  ⟨fun p hp => by cases p <;> first | exact h.1 _ hp | (simp [hk] at hp), h.2⟩
theorem Device.Keeps.with_board (h : d.Keeps K R e) (x : BoardState) (hk : K .board = false) : d.Keeps K R { e with board := x } :=
  ⟨fun p hp => by cases p <;> first | exact h.1 _ hp | (simp [hk] at hp), h.2⟩
theorem Device.Keeps.with_rst (h : d.Keeps K R e) (x : ResetState) (hk : K .rst = false) : d.Keeps K R { e with rst := x } :=
  ⟨fun p hp => by cases p <;> first | exact h.1 _ hp | (simp [hk] at hp), h.2⟩
theorem Device.Keeps.with_clk (h : d.Keeps K R e) (x : ClockState) (hk : K .clk = false) : d.Keeps K R { e with clk := x } :=
  ⟨fun p hp => by cases p <;> first | exact h.1 _ hp | (simp [hk] at hp), h.2⟩
theorem Device.Keeps.with_zones (h : d.Keeps K R e) (x : Tab Zone) (hk : K .zones = false) : d.Keeps K R { e with zones := x } :=
  ⟨fun p hp => by cases p <;> first | exact h.1 _ hp | (simp [hk] at hp), h.2⟩
theorem Device.Keeps.with_ring (h : d.Keeps K R e) (x : RingState) (hk : K .ring = false) : d.Keeps K R { e with ring := x } :=
  ⟨fun p hp => by cases p <;> first | exact h.1 _ hp | (simp [hk] at hp), h.2⟩
theorem Device.Keeps.with_brErrs (h : d.Keeps K R e) (x : Tab (List Nat)) (hk : K .brErrs = false) : d.Keeps K R { e with brErrs := x } :=
  ⟨fun p hp => by cases p <;> first | exact h.1 _ hp | (simp [hk] at hp), h.2⟩
theorem Device.Keeps.with_ev (h : d.Keeps K R e) (x : EventState) (hk : K .ev = false) : d.Keeps K R { e with ev := x } :=
  ⟨fun p hp => by cases p <;> first | exact h.1 _ hp | (simp [hk] at hp), h.2⟩
theorem Device.Keeps.with_cul (h : d.Keeps K R e) (x : CulletState) (hk : K .cul = false) : d.Keeps K R { e with cul := x } :=
  ⟨fun p hp => by cases p <;> first | exact h.1 _ hp | (simp [hk] at hp), h.2⟩
theorem Device.Keeps.with_refusals (h : d.Keeps K R e) (x : RefusalState) (hk : K .refusals = false) : d.Keeps K R { e with refusals := x } :=
  ⟨fun p hp => by cases p <;> first | exact h.1 _ hp | (simp [hk] at hp), h.2⟩
theorem Device.Keeps.with_pw (h : d.Keeps K R e) (x : PowerState) (hk : K .pw = false) : d.Keeps K R { e with pw := x } :=
  ⟨fun p hp => by cases p <;> first | exact h.1 _ hp | (simp [hk] at hp), h.2⟩
theorem Device.Keeps.with_banks (h : d.Keeps K R e) (x : Tab BankPins) (hk : K .banks = false) : d.Keeps K R { e with banks := x } :=
  ⟨fun p hp => by cases p <;> first | exact h.1 _ hp | (simp [hk] at hp), h.2⟩
theorem Device.Keeps.with_orm (h : d.Keeps K R e) (x : OrmState) (hk : K .orm = false) : d.Keeps K R { e with orm := x } :=
  ⟨fun p hp => by cases p <;> first | exact h.1 _ hp | (simp [hk] at hp), h.2⟩
theorem Device.Keeps.with_fuses (h : d.Keeps K R e) (x : FuseState) (hk : K .fuses = false) : d.Keeps K R { e with fuses := x } :=
  ⟨fun p hp => by cases p <;> first | exact h.1 _ hp | (simp [hk] at hp), h.2⟩
theorem Device.Keeps.with_keys (h : d.Keeps K R e) (x : KeyState) (hk : K .keys = false) : d.Keeps K R { e with keys := x } :=
  ⟨fun p hp => by cases p <;> first | exact h.1 _ hp | (simp [hk] at hp), h.2⟩
theorem Device.Keeps.with_trng (h : d.Keeps K R e) (x : TrngState) (hk : K .trng = false) : d.Keeps K R { e with trng := x } :=
  ⟨fun p hp => by cases p <;> first | exact h.1 _ hp | (simp [hk] at hp), h.2⟩
theorem Device.Keeps.with_lc (h : d.Keeps K R e) (x : LcState) (hk : K .lc = false) : d.Keeps K R { e with lc := x } :=
  ⟨fun p hp => by cases p <;> first | exact h.1 _ hp | (simp [hk] at hp), h.2⟩
theorem Device.Keeps.with_tap (h : d.Keeps K R e) (x : TapState) (hk : K .tap = false) : d.Keeps K R { e with tap := x } :=
  ⟨fun p hp => by cases p <;> first | exact h.1 _ hp | (simp [hk] at hp), h.2⟩
theorem Device.Keeps.with_bat (h : d.Keeps K R e) (x : BatState) (hk : K .bat = false) : d.Keeps K R { e with bat := x } :=
  ⟨fun p hp => by cases p <;> first | exact h.1 _ hp | (simp [hk] at hp), h.2⟩
theorem Device.Keeps.with_gath (h : d.Keeps K R e) (x : Tab GatherJob) (hk : K .gath = false) : d.Keeps K R { e with gath := x } :=
  ⟨fun p hp => by cases p <;> first | exact h.1 _ hp | (simp [hk] at hp), h.2⟩
theorem Device.Keeps.with_cmp (h : d.Keeps K R e) (x : Tab CmpState) (hk : K .cmp = false) : d.Keeps K R { e with cmp := x } :=
  ⟨fun p hp => by cases p <;> first | exact h.1 _ hp | (simp [hk] at hp), h.2⟩
theorem Device.Keeps.with_lehr (h : d.Keeps K R e) (x : Tab LehrState) (hk : K .lehr = false) : d.Keeps K R { e with lehr := x } :=
  ⟨fun p hp => by cases p <;> first | exact h.1 _ hp | (simp [hk] at hp), h.2⟩
theorem Device.Keeps.with_gaf (h : d.Keeps K R e) (x : GafferState) (hk : K .gaf = false) : d.Keeps K R { e with gaf := x } :=
  ⟨fun p hp => by cases p <;> first | exact h.1 _ hp | (simp [hk] at hp), h.2⟩
theorem Device.Keeps.with_pool (h : d.Keeps K R e) (x : PoolState) (hk : K .pool = false) : d.Keeps K R { e with pool := x } :=
  ⟨fun p hp => by cases p <;> first | exact h.1 _ hp | (simp [hk] at hp), h.2⟩
theorem Device.Keeps.with_smv (h : d.Keeps K R e) (x : Tab SmvChannel) (hk : K .smv = false) : d.Keeps K R { e with smv := x } :=
  ⟨fun p hp => by cases p <;> first | exact h.1 _ hp | (simp [hk] at hp), h.2⟩
theorem Device.Keeps.with_smvTurn (h : d.Keeps K R e) (x : Nat) (hk : K .smvTurn = false) : d.Keeps K R { e with smvTurn := x } :=
  ⟨fun p hp => by cases p <;> first | exact h.1 _ hp | (simp [hk] at hp), h.2⟩
theorem Device.Keeps.with_bankVolt (h : d.Keeps K R e) (x : List Nat) (hk : K .bankVolt = false) : d.Keeps K R { e with bankVolt := x } :=
  ⟨fun p hp => by cases p <;> first | exact h.1 _ hp | (simp [hk] at hp), h.2⟩
theorem Device.Keeps.with_calSeen (h : d.Keeps K R e) (x : Nat) (hk : K .calSeen = false) : d.Keeps K R { e with calSeen := x } :=
  ⟨fun p hp => by cases p <;> first | exact h.1 _ hp | (simp [hk] at hp), h.2⟩
theorem Device.Keeps.with_lanes (h : d.Keeps K R e) (x : Tab LaneState) (hk : K .lanes = false) : d.Keeps K R { e with lanes := x } :=
  ⟨fun p hp => by cases p <;> first | exact h.1 _ hp | (simp [hk] at hp), h.2⟩
theorem Device.Keeps.with_warnOn (h : d.Keeps K R e) (x : Bool) (hk : K .warnOn = false) : d.Keeps K R { e with warnOn := x } :=
  ⟨fun p hp => by cases p <;> first | exact h.1 _ hp | (simp [hk] at hp), h.2⟩
theorem Device.Keeps.with_enc (h : d.Keeps K R e) (x : Tab Encoder) (hk : K .enc = false) : d.Keeps K R { e with enc := x } :=
  ⟨fun p hp => by cases p <;> first | exact h.1 _ hp | (simp [hk] at hp), h.2⟩
theorem Device.Keeps.with_marks (h : d.Keeps K R e) (x : Tab MarkChannel) (hk : K .marks = false) : d.Keeps K R { e with marks := x } :=
  ⟨fun p hp => by cases p <;> first | exact h.1 _ hp | (simp [hk] at hp), h.2⟩
theorem Device.Keeps.with_cams (h : d.Keeps K R e) (x : Tab CamEngine) (hk : K .cams = false) : d.Keeps K R { e with cams := x } :=
  ⟨fun p hp => by cases p <;> first | exact h.1 _ hp | (simp [hk] at hp), h.2⟩
theorem Device.Keeps.with_eviSeen (h : d.Keeps K R e) (x : Nat) (hk : K .eviSeen = false) : d.Keeps K R { e with eviSeen := x } :=
  ⟨fun p hp => by cases p <;> first | exact h.1 _ hp | (simp [hk] at hp), h.2⟩
theorem Device.Keeps.with_xbConf (h : d.Keeps K R e) (x : List Nat) (hk : K .xbConf = false) : d.Keeps K R { e with xbConf := x } :=
  ⟨fun p hp => by cases p <;> first | exact h.1 _ hp | (simp [hk] at hp), h.2⟩
theorem Device.Keeps.with_ident (h : d.Keeps K R e) (x : Tab IdPort) (hk : K .ident = false) : d.Keeps K R { e with ident := x } :=
  ⟨fun p hp => by cases p <;> first | exact h.1 _ hp | (simp [hk] at hp), h.2⟩
theorem Device.Keeps.with_ml (h : d.Keeps K R e) (x : MlinkState) (hk : K .ml = false) : d.Keeps K R { e with ml := x } :=
  ⟨fun p hp => by cases p <;> first | exact h.1 _ hp | (simp [hk] at hp), h.2⟩

theorem Device.Keeps.wr (h : d.Keeps K R e) (j v : Nat) (hj : ∀ g, g.key = j → R g = false) : d.Keeps K R (e.wr j v) :=
  ⟨fun p hp => by cases p <;> exact h.1 _ hp, fun g hg => by
    rw [← h.2 g hg]
    simp only [Device.get]
    rw [Device.rd_wr_ne e v (fun x => by simp [hj g x] at hg)]⟩

theorem Device.Keeps.set (h : d.Keeps K R e) (f : Field) (v : Nat) (hf : f.lo ≤ f.hi)
    (hj : ∀ g, g.overlaps f = true → R g = false) : d.Keeps K R (e.set f v) := by
  refine ⟨fun p hp => by cases p <;> exact h.1 _ hp, fun g hg => ?_⟩
  rw [← h.2 g hg]
  by_cases ho : g.overlaps f = true
  · simp [hj g ho] at hg
  · refine Device.get_set_apart' _ _ _ _ hf ?_
    simp only [Field.overlaps, Bool.and_eq_true, beq_iff_eq, decide_eq_true_eq] at ho
    by_cases hk : g.key = f.key
    · right; omega
    · exact .inl hk

theorem Device.Keeps.setKey (h : d.Keeps K R e) (f : Field) (v : Nat) (hj : ∀ g, g.key = f.key → R g = false) :
    d.Keeps K R (e.set f v) := h.wr _ _ hj
theorem Device.Keeps.inc (h : d.Keeps K R e) (f : Field) (hf : f.lo ≤ f.hi)
    (hj : ∀ g, g.overlaps f = true → R g = false) : d.Keeps K R (e.inc f) := h.set _ _ hf hj
theorem Device.Keeps.bump (h : d.Keeps K R e) (f : Field) (hf : f.lo ≤ f.hi)
    (hj : ∀ g, g.overlaps f = true → R g = false) : d.Keeps K R (e.bump f) := h.set _ _ hf hj
theorem Device.Keeps.setFieldBit (h : d.Keeps K R e) (f : Field) (i : Nat) (hf : f.lo ≤ f.hi)
    (hj : ∀ g, g.overlaps f = true → R g = false) : d.Keeps K R (e.setFieldBit f i) := h.set _ _ hf hj
theorem Device.Keeps.clearFieldBit (h : d.Keeps K R e) (f : Field) (i : Nat) (hf : f.lo ≤ f.hi)
    (hj : ∀ g, g.overlaps f = true → R g = false) : d.Keeps K R (e.clearFieldBit f i) := h.set _ _ hf hj

theorem Device.Keeps.setAll (h : d.Keeps K R e) (l : List (Field × Nat))
    (hl : ∀ x ∈ l, x.1.lo ≤ x.1.hi ∧ ∀ g, g.overlaps x.1 = true → R g = false) : d.Keeps K R (e.setAll l) := by
  induction l generalizing e with
  | nil => exact h
  | cons x r ih =>
    obtain ⟨f, v⟩ := x
    have hx := hl _ (List.mem_cons_self ..)
    exact ih (h.set f v hx.1 hx.2) (fun y hy => hl y (List.mem_cons_of_mem _ hy))

theorem Device.Keeps.tick (h : d.Keeps K R e) (hk : K .free = false) : d.Keeps K R e.tick := h.with_free _ hk
theorem Device.Keeps.setZone (h : d.Keeps K R e) (n : Nat) (z : Zone) (hk : K .zones = false) :
    d.Keeps K R (e.setZone n z) := h.with_zones _ hk
theorem Device.Keeps.modZone (h : d.Keeps K R e) (n : Nat) (f : Zone → Zone) (hk : K .zones = false) :
    d.Keeps K R (e.modZone n f) := h.with_zones _ hk
theorem Device.Keeps.setTarget (h : d.Keeps K R e) (n : Nat) (x : TargetState) (hk : K .ring = false) :
    d.Keeps K R (e.setTarget n x) := h.with_ring _ hk
theorem Device.Keeps.setInit (h : d.Keeps K R e) (n : Nat) (x : InitState) (hk : K .ring = false) :
    d.Keeps K R (e.setInit n x) := h.with_ring _ hk

theorem Device.Keeps.each (h : d.Keeps K R e) (l : List Nat) (f : Device → Nat → Device)
    (hf : ∀ (x : Device) n, n ∈ l → d.Keeps K R x → d.Keeps K R (f x n)) : d.Keeps K R (e.each l f) := by
  unfold Device.each
  induction l generalizing e with
  | nil => exact h
  | cons c r ih =>
    exact ih (hf e c (List.mem_cons_self ..) h) (fun x n hn => hf x n (List.mem_cons_of_mem _ hn))

theorem Device.Keeps.when (h : d.Keeps K R e) (b : Bool) (f : Device → Device)
    (hf : d.Keeps K R e → d.Keeps K R (f e)) : d.Keeps K R (e.when b f) := by
  unfold Device.when
  split
  · exact hf h
  · exact h

theorem Device.Keeps.onMck (h : d.Keeps K R e) (f : Device → Device)
    (hf : d.Keeps K R e → d.Keeps K R (f e)) : d.Keeps K R (e.onMck f) := by
  unfold Device.onMck
  split
  · exact hf h
  · exact h

/-! ## Events, refusals and records -/

theorem Device.Keeps.of_keepsRegs {l : List Nat} (h : d.Keeps K R e) (hp : ∀ p, K p = true → g.part p = e.part p)
    (hw : e.keepsRegs g l) (hr : ∀ f, R f = true → noticeReg f.key = false ∧ f.key ∉ l) : d.Keeps K R g :=
  h.trans ⟨hp, fun f hf => by simp only [Device.get, hw f.key (hr f hf).2 (hr f hf).1]⟩

/-- A raise, as far as the event controller and the power unit may act on it. -/
theorem Device.Keeps.raise (h : d.Keeps K R e) {ev : Nat} (u p : Nat)
    (hk : (K .ev || K .refusals || K .pw || K .clk || K .ring) = false) (hv : ev < 128)
    (hr : ∀ f, R f = true → noticeReg f.key = false) : d.Keeps K R (e.raise ev u p) := by
  have hw := e.raise_woken_nil u p hv
  simp only [Bool.or_eq_false_iff] at hk
  refine h.of_keepsRegs (fun q hq => ?_) hw.2 (fun f hf => ⟨hr f hf, List.not_mem_nil⟩)
  rw [hw.1]
  cases q <;> first | rfl | (simp_all)

/-- A raise while no power entry, state or wake is under way. -/
theorem Device.Keeps.raise_calm (h : d.Keeps K R e) {ev : Nat} (u p : Nat) (hk : K .ev = false)
    (hk' : K .refusals = false) (hv : ev < 128) (hr : ∀ f, R f = true → noticeReg f.key = false)
    (hc : e.get F.PW_STATUS_PHASE = 0) : d.Keeps K R (e.raise ev u p) := by
  have hw := e.raise_noted u p hv hc
  refine h.of_keepsRegs (fun q hq => ?_) hw.2 (fun f hf => ⟨hr f hf, List.not_mem_nil⟩)
  rw [hw.1]
  cases q <;> first | rfl | (simp_all)

theorem Device.Keeps.raiseCore (h : d.Keeps K R e) {ev : Nat} (u p : Nat) (hk : K .ev = false)
    (hk' : K .refusals = false) (hv : ev < 128) (hr : ∀ f, R f = true → noticeReg f.key = false) :
    d.Keeps K R (e.raiseCore ev u p) := by
  have hw := (Device.Noted.refl e []).raiseCore u p (.inl (noticeReg_latch hv))
  refine h.of_keepsRegs (fun q hq => ?_) hw.2 (fun f hf => ⟨hr f hf, List.not_mem_nil⟩)
  rw [hw.1]
  cases q <;> first | rfl | (simp_all)

/-- A refusal, as far as the event controller and the power unit may act on its event. -/
theorem Device.Keeps.refuse (h : d.Keeps K R e) (key : Nat) (w : Reason) (i : Nat)
    (hk : (K .ev || K .refusals || K .pw || K .clk || K .ring) = false)
    (hr : ∀ f, R f = true → noticeReg f.key = false)
    (hw : ∀ f, f.key = key → R f = false) : d.Keeps K R (e.refuse key w i) := by
  have hn := e.refuse_woken key w i
  simp only [Bool.or_eq_false_iff] at hk
  refine h.of_keepsRegs (fun q hq => ?_) hn.2 (fun f hf => ⟨hr f hf, fun hm => ?_⟩)
  · rw [hn.1]
    cases q <;> first | rfl | (simp_all)
  · rw [hw f (by simpa using hm)] at hf
    exact absurd hf (by decide)

/-- A refusal while no power entry, state or wake is under way. -/
theorem Device.Keeps.refuse_calm (h : d.Keeps K R e) (key : Nat) (w : Reason) (i : Nat) (hk : K .ev = false)
    (hk' : K .refusals = false) (hr : ∀ f, R f = true → noticeReg f.key = false)
    (hw : ∀ f, f.key = key → R f = false) (hc : e.get F.PW_STATUS_PHASE = 0) (h5 : key ≠ 0x5004) :
    d.Keeps K R (e.refuse key w i) := by
  have hn := e.refuse_noted key w i hc h5
  refine h.of_keepsRegs (fun q hq => ?_) hn.2 (fun f hf => ⟨hr f hf, fun hm => ?_⟩)
  · rw [hn.1]
    cases q <;> first | rfl | (simp_all)
  · rw [hw f (by simpa using hm)] at hf
    exact absurd hf (by decide)

/-- A refusal of a unit of a fabric die writes its register and its die's queue alone (R632). -/
theorem Device.Keeps.refuse_fabric (h : d.Keeps K R e) (key : Nat) (w : Reason) (i : Nat) (hk : K .refusals = false)
    (hu : 0x200000 ≤ key) (hw : ∀ f, f.key = key → R f = false) : d.Keeps K R (e.refuse key w i) := by
  have h1 := h.wr key (w.code * 256 + i % 256) hw
  unfold Device.refuse Device.refuseBy
  dsimp only
  split
  · rename_i h0
    unfold unitDie at h0
    omega
  · split
    · exact h1
    · exact h1.with_refusals _ hk

theorem Device.Keeps.refuseAt_fabric (h : d.Keeps K R e) (r : Field) (w : Reason) (f : Field) (hk : K .refusals = false)
    (hu : 0x200000 ≤ r.key) (hw : ∀ f, f.key = r.key → R f = false) : d.Keeps K R (e.refuseAt r w f) :=
  h.refuse_fabric _ _ _ hk hu hw

/-- What lets raises and refusals keep `K` and `R`: they write neither, and no power entry, state or wake is under way,
which `R` keeps so. -/
structure Quiet (K : Part → Bool) (R : Field → Bool) (d : Device) : Prop where
  ev : K .ev = false
  refusals : K .refusals = false
  kept : R F.PW_STATUS_PHASE = true
  calm : d.get F.PW_STATUS_PHASE = 0
  regs : ∀ f, R f = true → noticeReg f.key = false ∨ f = F.PW_STATUS_PHASE

theorem Device.phase_raise (d : Device) {ev : Nat} (u p : Nat) (hv : ev < 128) (h : d.get F.PW_STATUS_PHASE = 0) :
    (d.raise ev u p).get F.PW_STATUS_PHASE = 0 := by
  rw [d.raise_calm u p hv h]
  have e : (d.raiseCore ev u p).rd F.PW_STATUS_PHASE.key = d.rd F.PW_STATUS_PHASE.key :=
    (d.raiseCore_keeps u p hv).2 _ (by decide)
  simp only [Device.get, e]
  exact h

theorem Device.phase_wr (d : Device) (key v : Nat) (hk : key ≠ 0x5004) :
    (d.wr key v).get F.PW_STATUS_PHASE = d.get F.PW_STATUS_PHASE :=
  congrArg (fun x => bits x _ _) (Device.rd_wr_ne _ _ (Ne.symm hk) : (d.wr key v).rd 0x5004 = d.rd 0x5004)

theorem Device.phase_applyRefusal (d : Device) (r : RefusalRec) (h : d.get F.PW_STATUS_PHASE = 0) :
    (d.applyRefusal r).get F.PW_STATUS_PHASE = 0 := by
  refine Device.phase_raise _ _ _ (by decide) ?_
  simp only [Device.lastRefusal, Device.inc, Device.setAll_cons, Device.setAll_nil]
  iterate 4 rw [Device.get_set_key _ _ _ _ (by decide)]
  exact h

theorem Device.phase_refuse (d : Device) (key : Nat) (w : Reason) (i : Nat) (hk : key ≠ 0x5004)
    (h : d.get F.PW_STATUS_PHASE = 0) : (d.refuse key w i).get F.PW_STATUS_PHASE = 0 := by
  have hw : (d.wr key (w.code * 256 + i % 256)).get F.PW_STATUS_PHASE = 0 := (d.phase_wr _ _ hk).trans h
  unfold Device.refuse Device.refuseBy
  dsimp only
  split
  · split
    · exact Device.phase_applyRefusal _ _ hw
    · exact hw
  · split
    · exact hw
    · exact hw

/-- A raise where `Quiet` holds. -/
theorem Device.Keeps.raise_q (h : d.Keeps K R e) (q : Quiet K R d) {ev : Nat} (u p : Nat) (hv : ev < 128) :
    d.Keeps K R (e.raise ev u p) := by
  have he : e.get F.PW_STATUS_PHASE = 0 := (h.get _ q.kept).trans q.calm
  have hw := e.raise_noted u p hv he
  refine h.trans ⟨fun r hr => ?_, fun f hf => ?_⟩
  · rw [hw.1]
    have h1 := q.ev
    have h2 := q.refusals
    cases r <;> first | rfl | (simp_all)
  · rcases q.regs f hf with hn | rfl
    · exact Device.get_raise _ _ _ hv hn
    · rw [e.phase_raise u p hv he, he]

/-- A refusal where `Quiet` holds. -/
theorem Device.Keeps.refuse_q (h : d.Keeps K R e) (q : Quiet K R d) (key : Nat) (w : Reason) (i : Nat)
    (hk : key ≠ 0x5004) (hw : ∀ f, f.key = key → R f = false) : d.Keeps K R (e.refuse key w i) := by
  have he : e.get F.PW_STATUS_PHASE = 0 := (h.get _ q.kept).trans q.calm
  have hn := e.refuse_noted key w i he hk
  refine h.trans ⟨fun r hr => ?_, fun f hf => ?_⟩
  · rw [hn.1]
    have h1 := q.ev
    have h2 := q.refusals
    cases r <;> first | rfl | (simp_all)
  · rcases q.regs f hf with ho | rfl
    · exact Device.get_refuse _ _ _ _ (fun x => by simp [hw f x] at hf) ho
    · rw [e.phase_refuse key w i hk he, he]

theorem Device.Keeps.refuseAt_q (h : d.Keeps K R e) (q : Quiet K R d) (r : Field) (w : Reason) (f : Field)
    (hk : r.key ≠ 0x5004) (hw : ∀ f, f.key = r.key → R f = false) : d.Keeps K R (e.refuseAt r w f) :=
  h.refuse_q q _ _ _ hk hw

theorem Device.Keeps.culletTake (h : d.Keeps K R e) (r : Record) (hk : K .cul = false)
    (hr : ∀ f, f.key = 0x25004 → R f = false) : d.Keeps K R (e.culletTake r) := by
  unfold Device.culletTake
  dsimp only
  split
  · exact h.with_cul _ hk
  · split
    · exact ((h.with_cul _ hk).setKey _ _ hr).setKey _ _ hr
    · exact (h.with_cul _ hk).setKey _ _ hr

/-- A record reaches the Cullet or its die's buffer, or is counted as lost. -/
theorem Device.Keeps.record (h : d.Keeps K R e) (r : Record) (hk : K .cul = false)
    (hr : ∀ f, f.key = 0x25004 → R f = false)
    (hd : ∀ f, f.key = U.DR (unitDie r.unit) * 4096 + 0x120 → R f = false) : d.Keeps K R (e.record r) := by
  unfold Device.record
  dsimp only
  split
  · exact h.culletTake _ hk hr
  · split
    · exact h
    · split
      · exact h.with_cul _ hk
      · exact h.setKey _ _ hd

/-! ## What a statement's frame lets be written -/

theorem fieldsOf_mem {L : List Field} {f : Field} (h : f ∈ L) (g : Field) (ho : g.overlaps f = true) :
    fieldsOf L g = true := by
  simp only [fieldsOf, List.any_eq_true]
  exact ⟨f, h, ho⟩

/-- A frame with notices, from one in which the power unit's phase is kept as well. -/
theorem Device.onlyNoted_of {P : List Part} {W : Field → Bool}
    (h : d.Keeps (fun p => !(Part.ev :: Part.refusals :: P).contains p)
      (fun f => (decide (f.lo ≤ 31) && !(W f || noticeReg f.key)) || f == F.PW_STATUS_PHASE) e) : d.OnlyNoted e P W :=
  h.mono (fun _ hp => hp) (fun _ hf => by rw [Bool.or_eq_true]; exact .inl hf)

theorem Field.overlaps_reg {f g : Field} (h : g.key = f.key) (hw : g.lo ≤ 31) : g.overlaps f.reg = true := by
  simp [Field.overlaps, Field.reg, h, hw]

/-- What a refusal changes: its register, the refusal records, and what an event may (`hookParts`). -/
theorem Device.onlyNoted_refuse (d : Device) (f : Field) (w : Reason) (i : Nat) (hk : f.key ≠ 0x5004) :
    d.OnlyNoted (d.refuse f.key w i) d.hookParts (fieldsOf [f.reg]) := by
  have hr : ∀ g : Field, (decide (g.lo ≤ 31) && !(fieldsOf [f.reg] g || noticeReg g.key)) = true → noticeReg g.key = false := by
    intro g hg
    simp only [Bool.and_eq_true, Bool.not_eq_true', Bool.or_eq_false_iff] at hg
    exact hg.2.2
  have hw : ∀ g : Field, g.key = f.key → (decide (g.lo ≤ 31) && !(fieldsOf [f.reg] g || noticeReg g.key)) = false := by
    intro g hg
    cases h : decide (g.lo ≤ 31)
    · rfl
    · simp [fieldsOf, Field.overlaps_reg hg (of_decide_eq_true h)]
  unfold Device.hookParts
  split
  · exact (Device.Keeps.refl d).refuse_calm _ _ _ rfl rfl hr hw ‹_› hk
  · exact (Device.Keeps.refl d).refuse _ _ _ rfl hr hw

theorem Device.onlyNoted_refuseAt (d : Device) (f : Field) (w : Reason) (r : Field) (hk : f.key ≠ 0x5004) :
    d.OnlyNoted (d.refuseAt f w r) d.hookParts (fieldsOf [f.reg]) := d.onlyNoted_refuse f w _ hk

end Sys2Proof.Machine
end

