-- ==== Sys2Proof/Laws/Clocks.lean ====
section
/-! SUPPORT. What the operations of the clocks and of start-up leave as it was (chapters 05, 06): frames in the form of
Laws/Keeps.lean. An operation on zone `n` writes the zone and registers of its unit only. -/

namespace Sys2Proof.Machine

variable {K K' : Part → Bool} {R R' : Field → Bool} {d e g : Device}

/-! ## Zone clocks -/

theorem Device.Keeps.modClk (h : d.Keeps K R e) (n : Nat) (f : ZoneClock → ZoneClock) (hk : K .zones = false) :
    d.Keeps K R (e.modClk n f) := h.modZone _ _ hk

theorem Device.Keeps.setZcState (h : d.Keeps K R e) (n st : Nat)
    (hr : ∀ o (g : Field), o = 0x100 ∨ o = 0x104 → g.key = zoneUnit n * 4096 + o → R g = false) : d.Keeps K R (e.setZcState n st) :=
  h.setKey _ _ (fun g => hr _ g (by decide))

theorem Device.Keeps.startSwitch (h : d.Keeps K R e) (n : Nat) (toRef : Bool) (div : Nat) (ending : SwitchEnd)
    (hk : K .zones = false) (hr : ∀ o (g : Field), o = 0x100 ∨ o = 0x104 → g.key = zoneUnit n * 4096 + o → R g = false) :
    d.Keeps K R (e.startSwitch n toRef div ending) := (h.modClk _ _ hk).setZcState _ _ hr

theorem Device.Keeps.holdZone (h : d.Keeps K R e) (n : Nat) (why : HoldCause) (ref : Bool) (div : Nat)
    (hk : K .zones = false) (hr : ∀ o (g : Field), o = 0x100 ∨ o = 0x104 → g.key = zoneUnit n * 4096 + o → R g = false) :
    d.Keeps K R (e.holdZone n why ref div) := by
  unfold Device.holdZone
  simp only [Device.setAll_cons, Device.setAll_nil]
  exact ((h.modClk _ _ hk).setKey _ _ (fun g => hr _ g (by decide))).setKey _ _ (fun g => hr _ g (by decide))

theorem Device.Keeps.actHold (h : d.Keeps K R e) (n div : Nat)
    (hk : K .zones = false) (hr : ∀ o (g : Field), o = 0x100 ∨ o = 0x104 → g.key = zoneUnit n * 4096 + o → R g = false) :
    d.Keeps K R (e.actHold n div) := (h.holdZone _ _ _ _ hk hr).setKey _ _ (fun g => hr _ g (by decide))

theorem Device.Keeps.actFallback (h : d.Keeps K R e) (n div : Nat)
    (hk : K .zones = false) (hr : ∀ o (g : Field), o = 0x100 ∨ o = 0x104 → g.key = zoneUnit n * 4096 + o → R g = false) :
    d.Keeps K R (e.actFallback n div) := ((h.startSwitch _ _ _ _ hk hr).modClk _ _ hk).setKey _ _ (fun g => hr _ g (by decide))

theorem Device.Keeps.lossAct (h : d.Keeps K R e) (n div : Nat) (ride : Option Nat) (hk : K .zones = false)
    (hr : ∀ o (g : Field), o = 0x100 ∨ o = 0x104 → g.key = zoneUnit n * 4096 + o → R g = false) :
    d.Keeps K R (e.lossAct n div ride) := by
  unfold Device.lossAct
  extract_lets u d1
  have h1 : d.Keeps K R d1 := h.modClk _ _ hk
  clear_value d1
  split
  · cases ride with
    | none => exact h1.setKey _ _ (fun g => hr _ g (by decide))
    | some st => exact (h1.setZcState _ _ hr).setKey _ _ (fun g => hr _ g (by decide))
  · split
    · exact h1.actHold _ _ hk hr
    · exact h1.actFallback _ _ hk hr

theorem Device.Keeps.zoneLoss (h : d.Keeps K R e) (n : Nat)
    (hk : K .zones = false) (hr : ∀ o (g : Field), o = 0x100 ∨ o = 0x104 → g.key = zoneUnit n * 4096 + o → R g = false) :
    d.Keeps K R (e.zoneLoss n) := by
  have h2 : d.Keeps K R (e.setAll
      [(F.ZN_CLK_STATUS_RAMP_ABANDONED (zoneUnit n), 1), (F.ZN_CLK_CTL_RAMP (zoneUnit n), 0)]) :=
    Device.Keeps.setKey (h.setKey _ _ (fun g => hr _ g (by decide))) _ _ (fun g => hr _ g (by decide))
  unfold Device.zoneLoss
  extract_lets u st now
  clear_value st now
  by_cases h3 : st = Zc.ROOT
  · rw [if_pos h3]
    exact h.lossAct n now _ hk hr
  · rw [if_neg h3]
    by_cases h4 : st = Zc.RAMPING
    · rw [if_pos h4]
      exact h2.lossAct n now _ hk hr
    · rw [if_neg h4]
      split
      · exact h.lossAct _ _ _ hk hr
      · exact h

theorem Device.Keeps.rideEnds (h : d.Keeps K R e) (n : Nat)
    (hk : K .zones = false) (hr : ∀ o (g : Field), o = 0x100 ∨ o = 0x104 → g.key = zoneUnit n * 4096 + o → R g = false) :
    d.Keeps K R (e.rideEnds n) := by
  have ha : ∀ div, d.Keeps K R (e.thenAct n div) := fun div => by
    unfold Device.thenAct
    split
    · exact h.actFallback _ _ hk hr
    · exact h.actHold _ _ hk hr
  unfold Device.rideEnds
  dsimp only
  split
  · exact ha _
  · split
    · exact ha _
    · exact h

theorem Device.Keeps.rideRelock (h : d.Keeps K R e) (n : Nat)
    (hr : ∀ o (g : Field), o = 0x100 ∨ o = 0x104 → g.key = zoneUnit n * 4096 + o → R g = false) : d.Keeps K R (e.rideRelock n) := by
  unfold Device.rideRelock
  split
  · exact h.setZcState _ _ hr
  · exact h

theorem Device.Keeps.startCatch (h : d.Keeps K R e) (n : Nat) (ref : Bool) (div : Nat)
    (hk : K .zones = false) (hr : ∀ o (g : Field), o = 0x100 ∨ o = 0x104 → g.key = zoneUnit n * 4096 + o → R g = false) :
    d.Keeps K R (e.startCatch n ref div) := by
  unfold Device.startCatch
  split
  · exact ((h.modClk _ _ hk).setKey _ _ (fun g => hr _ g (by decide))).setKey _ _ (fun g => hr _ g (by decide))
  · split
    · exact (h.modClk _ _ hk).setZcState _ _ hr
    · exact h

theorem Device.Keeps.zoneOnRoot (h : d.Keeps K R e) (n div edge : Nat)
    (hk : K .zones = false) (hr : ∀ o (g : Field), o = 0x100 ∨ o = 0x104 → g.key = zoneUnit n * 4096 + o → R g = false) :
    d.Keeps K R (e.zoneOnRoot n div edge) := by
  unfold Device.zoneOnRoot
  simp only [Device.setAll_cons, Device.setAll_nil]
  refine Device.Keeps.startCatch ?_ _ _ _ hk hr
  exact ((((h.modZone _ _ hk).modClk _ _ hk).setKey _ _ (fun g => hr _ g (by decide))).setKey _ _ (fun g => hr _ g (by decide))).setKey _ _ (fun g => hr _ g (by decide))

theorem Device.Keeps.zoneOnRef (h : d.Keeps K R e) (n : Nat)
    (hk : K .zones = false) (hr : ∀ o (g : Field), o = 0x100 ∨ o = 0x104 → g.key = zoneUnit n * 4096 + o → R g = false) :
    d.Keeps K R (e.zoneOnRef n) := by
  unfold Device.zoneOnRef
  simp only [Device.setAll_cons, Device.setAll_nil]
  refine Device.Keeps.startCatch ?_ _ _ _ hk hr
  exact (((h.modClk _ _ hk).setKey _ _ (fun g => hr _ g (by decide))).setKey _ _ (fun g => hr _ g (by decide))).setKey _ _ (fun g => hr _ g (by decide))

theorem Device.Keeps.switchDone (h : d.Keeps K R e) (n : Nat) (ramp : Bool)
    (hr : ∀ o (g : Field), o = 0x100 ∨ o = 0x104 → g.key = zoneUnit n * 4096 + o → R g = false)
    (hz : ∀ x ev, ev < 128 → d.Keeps K R x → d.Keeps K R (x.raise ev (zoneUnit n) 0)) :
    d.Keeps K R (e.switchDone n ramp) := by
  unfold Device.switchDone
  split
  · exact hz _ _ (by decide) (h.setKey _ _ (fun g => hr _ g (by decide)))
  · exact hz _ _ (by decide) (h.setKey _ _ (fun g => hr _ g (by decide)))

/-- A resumed clock writes its zone's clock and registers, and may raise an event (`hz`: a raise keeps the frame). -/
theorem Device.Keeps.zoneResume (h : d.Keeps K R e) (n : Nat) (ref : Bool) (div : Nat) (tell : Bool)
    (hk : K .zones = false) (hr : ∀ o (g : Field), o = 0x100 ∨ o = 0x104 → g.key = zoneUnit n * 4096 + o → R g = false)
    (hz : ∀ x ev, ev < 128 → d.Keeps K R x → d.Keeps K R (x.raise ev (zoneUnit n) 0)) :
    d.Keeps K R (e.zoneResume n ref div tell) := by
  unfold Device.zoneResume
  extract_lets c ramp d1 d2 d3
  have h1 : d.Keeps K R d2 := by
    simp only [d2, d1]
    split
    · exact (h.modClk _ _ hk).zoneOnRef _ hk hr
    · exact (h.modClk _ _ hk).zoneOnRoot _ _ _ hk hr
  have h3 : d.Keeps K R d3 := by
    simp only [d3]
    split
    · exact hz _ _ (by decide) h1
    · exact h1
  clear_value d3
  split
  · exact h3
  · split
    · exact h3.setZcState _ _ hr
    · exact h3
  · exact h3.switchDone _ _ hr hz
  · exact h3.startSwitch _ _ _ _ hk hr

/-- A zone no longer held restarts, or stays held for another reason. -/
theorem Device.Keeps.unhold (h : d.Keeps K R e) (n : Nat) (tell : Bool)
    (hk : K .zones = false) (hr : ∀ o (g : Field), o = 0x100 ∨ o = 0x104 → g.key = zoneUnit n * 4096 + o → R g = false)
    (hz : ∀ x ev, ev < 128 → d.Keeps K R x → d.Keeps K R (x.raise ev (zoneUnit n) 0)) :
    d.Keeps K R (e.unhold n tell) := by
  unfold Device.unhold
  dsimp only
  split
  · exact h.modClk _ _ hk
  · split
    · exact h.modClk _ _ hk
    · split
      · exact h.modClk _ _ hk
      · split
        · exact h.modClk _ _ hk
        · split
          · exact (h.modClk _ _ hk).setZcState _ _ hr
          · exact h.zoneResume _ _ _ _ hk hr hz

/-! ## Loops -/

theorem Device.Keeps.setSlave (h : d.Keeps K R e) (die st : Nat) (hk : K .clk = false) :
    d.Keeps K R (e.setSlave die st) := h.with_clk _ hk
theorem Device.Keeps.gateSlave (h : d.Keeps K R e) (die : Nat) (b : Bool) (hk : K .clk = false) :
    d.Keeps K R (e.gateSlave die b) := h.with_clk _ hk
theorem Device.Keeps.setSvc (h : d.Keeps K R e) (i : Nat) (b : Bool) (hk : K .clk = false) :
    d.Keeps K R (e.setSvc i b) := h.with_clk _ hk
theorem Device.Keeps.setSvcP (h : d.Keeps K R e) (b : Bool) (hk : K .clk = false) : d.Keeps K R (e.setSvcP b) := by
  unfold Device.setSvcP
  refine Device.Keeps.each h (List.range 16) _ ?_
  intro x m _ hx
  exact hx.setSvc m b hk

/-- With no swap set, the loops' check of a swap does nothing. -/
theorem Device.swapLoopCheck_none (h : d.gaf.swapSet = []) : d.swapLoopCheck = d := by
  unfold Device.swapLoopCheck
  simp [h]

/-- A property that every step of a fold keeps holds after it. -/
theorem Device.each_keep {P : Device → Prop} (l : List Nat) (f : Device → Nat → Device)
    (hf : ∀ x m, m ∈ l → P x → P (f x m)) (h : P d) : P (d.each l f) := by
  unfold Device.each
  induction l generalizing d with
  | nil => exact h
  | cons c r ih => exact ih (fun x m hm => hf x m (List.mem_cons_of_mem _ hm)) (hf d c (List.mem_cons_self ..) h)

/-- What a fold does at one of its numbers, where the steps at the others keep what that step needs (`P`) and what it
does (`Q`). -/
theorem Device.each_at {P Q : Device → Prop} (l : List Nat) (f : Device → Nat → Device) (n : Nat) (hn : n ∈ l)
    (hd : l.Nodup) (hP : ∀ x m, m ≠ n → P x → P (f x m)) (hPQ : ∀ x, P x → Q (f x n))
    (hQ : ∀ x m, m ≠ n → Q x → Q (f x m)) (h : P d) : Q (d.each l f) := by
  unfold Device.each
  induction l generalizing d with
  | nil => simp at hn
  | cons c r ih =>
    rw [List.nodup_cons] at hd
    by_cases hc : c = n
    · subst hc
      have : ∀ x, Q x → Q (List.foldl f x r) := fun x hx =>
        Device.each_keep (d := x) r f (fun y m hm => hQ y m (fun e => hd.1 (e ▸ hm))) hx
      exact this _ (hPQ d h)
    · refine ih ?_ hd.2 (hP d c hc h)
      rcases List.mem_cons.1 hn with rfl | hr
      · exact absurd rfl hc
      · exact hr

end Sys2Proof.Machine
end

