-- ==== Sys2Proof/Laws/Memory.lean ====
section
/-! SUPPORT. The memories: a read after a write, and that every operation keeps their canonical form. -/

namespace Sys2Proof.Machine

theorem Memory.read_write_self (m : Memory) (a : Nat) (w : Code72) : (m.write a w).read a = w :=
  Tab.get_set_self _ m a w

theorem Memory.read_write_ne (m : Memory) {a b : Nat} (w : Code72) (h : b ≠ a) : (m.write a w).read b = m.read b :=
  Tab.get_set_ne _ m w h

theorem Memory.wf_write {m : Memory} (a : Nat) (w : Code72) (h : m.wf = true) : (m.write a w).wf = true :=
  Tab.wf_set _ a w h

theorem Memory.wf_filter {m : Memory} (p : Nat × Code72 → Bool) (h : m.wf = true) : Memory.wf (m.filter p) = true :=
  Tab.wf_filter _ p h

theorem Memory.wf_zero {m : Memory} (lo hi : Nat) (h : m.wf = true) : (m.zero lo hi).wf = true :=
  Tab.wf_filter _ _ h

theorem Stores.wf_iff (m : Stores) :
    m.wf = true ↔ m.pool.wf = true ∧ m.bm.wf = true ∧ Tab.wf (fun _ => Frame.none) m.frames = true := by
  simp [Stores.wf, and_assoc]

theorem Stores.wf_poolWr {m : Stores} (a : Nat) (w : Code72) (h : m.wf = true) : (m.poolWr a w).wf = true := by
  rw [Stores.wf_iff] at h ⊢
  exact ⟨Memory.wf_write a w h.1, h.2⟩

theorem Stores.wf_setRow {m : Stores} (a : Nat) (w : Code72) (h : m.wf = true) : (m.setRow a w).wf = true := by
  rw [Stores.wf_iff] at h ⊢
  exact ⟨h.1, Memory.wf_write a w h.2.1, h.2.2⟩

theorem Stores.wf_setFrame {m : Stores} (k : Nat) (f : Frame) (h : m.wf = true) : (m.setFrame k f).wf = true := by
  rw [Stores.wf_iff] at h ⊢
  exact ⟨h.1, h.2.1, Tab.wf_set _ k f h.2.2⟩

@[simp] theorem Stores.row_setRow_self (m : Stores) (a : Nat) (w : Code72) : (m.setRow a w).row a = w :=
  Memory.read_write_self m.bm a w

theorem Stores.row_setRow_ne (m : Stores) {a b : Nat} (w : Code72) (h : b ≠ a) : (m.setRow a w).row b = m.row b :=
  Memory.read_write_ne m.bm w h

@[simp] theorem Stores.poolRd_poolWr_self (m : Stores) (a : Nat) (w : Code72) : (m.poolWr a w).poolRd a = w :=
  Memory.read_write_self m.pool a w

theorem Stores.poolRd_poolWr_ne (m : Stores) {a b : Nat} (w : Code72) (h : b ≠ a) :
    (m.poolWr a w).poolRd b = m.poolRd b :=
  Memory.read_write_ne m.pool w h

end Sys2Proof.Machine
end

