-- ==== Sys2Proof/Laws/Ring.lean ====
section
/-! SUPPORT. The ring network: the fields of a packet that is made from them, and what a stop's intake leaves alone when
nothing waits for it (chapter 09). -/

namespace Sys2Proof.Machine

/-! ## The fields of a packet (Table 09.4) -/

/-- The bits below HOPS of a header that is made from its fields. -/
theorem fld_sealHeader (low : Nat) (data : List DataUnit) {hi lo : Nat} (h : lo ≤ hi) (hh : hi < 112) :
    ({ hdr := sealHeader low, data := data } : Packet).fld hi lo = bits low hi lo := by
  have e : ({ hdr := sealHeader low, data := data } : Packet).fld hi lo
      = bits ((low % 2 ^ 112 + 128 * 2 ^ 112 + headerCheck low * 2 ^ 120) % 2 ^ 128) hi lo := by
    simp [Packet.fld, sealHeader]
  rw [e]
  apply Nat.eq_of_testBit_eq
  intro j
  rw [bits_testBit, bits_testBit]
  by_cases hj : j < hi + 1 - lo
  · have h1 : lo + j < 112 := by omega
    have hs : low % 2 ^ 112 + 128 * 2 ^ 112 + headerCheck low * 2 ^ 120
        = 2 ^ 112 * (128 + headerCheck low * 2 ^ 8) + low % 2 ^ 112 := by omega
    rw [hs, Nat.testBit_mod_two_pow, Nat.testBit_two_pow_mul_add _ (Nat.mod_lt _ (by decide)), Nat.testBit_mod_two_pow]
    have h2 : lo + j < 128 := by omega
    simp [h1, h2]
  · simp [hj]

/-- A field of a number that is the sum of what lies below it, the field in its place, and what lies above it. -/
theorem bits_field {x A B C lo hi : Nat} (hA : A < 2 ^ lo) (hB : B < 2 ^ (hi + 1 - lo))
    (h : x = A + 2 ^ lo * (B + 2 ^ (hi + 1 - lo) * C)) : bits x hi lo = B := by
  rw [bits, h, Nat.add_mul_div_left _ _ (Nat.two_pow_pos _), Nat.div_eq_of_lt hA, Nat.zero_add, Nat.add_mul_mod_self_left,
    Nat.mod_eq_of_lt hB]

variable (src dst : Nat) (ccw : Bool) (cmd tag cls len status be addr : Nat) (data : List DataUnit)

theorem mkPacket_ddie :
    (mkPacket src dst ccw cmd tag cls len status be addr data).ddie = dst / 128 % 8 := by
  have hc : b2n ccw ≤ 1 := by cases ccw <;> decide
  unfold Packet.ddie mkPacket
  rw [fld_sealHeader _ _ (by decide) (by decide)]
  exact bits_field (A := 0)
    (C := dst % 128 + src / 128 % 8 * 2 ^ 7 + src % 128 * 2 ^ 10 + b2n ccw * 2 ^ 17 + cmd % 32 * 2 ^ 18 + tag % 1024 * 2 ^ 23 + cls % 4 * 2 ^ 33 + len % 32 * 2 ^ 35 + status % 8 * 2 ^ 41 + be % 65536 * 2 ^ 45 + addr % 2 ^ 48 * 2 ^ 61)
    (by omega) (by omega) (by omega)

theorem mkPacket_dstop :
    (mkPacket src dst ccw cmd tag cls len status be addr data).dstop = dst % 128 := by
  have hc : b2n ccw ≤ 1 := by cases ccw <;> decide
  unfold Packet.dstop mkPacket
  rw [fld_sealHeader _ _ (by decide) (by decide)]
  exact bits_field (A := dst / 128 % 8)
    (C := src / 128 % 8 + src % 128 * 2 ^ 3 + b2n ccw * 2 ^ 10 + cmd % 32 * 2 ^ 11 + tag % 1024 * 2 ^ 16 + cls % 4 * 2 ^ 26 + len % 32 * 2 ^ 28 + status % 8 * 2 ^ 34 + be % 65536 * 2 ^ 38 + addr % 2 ^ 48 * 2 ^ 54)
    (by omega) (by omega) (by omega)

theorem mkPacket_sdie :
    (mkPacket src dst ccw cmd tag cls len status be addr data).sdie = src / 128 % 8 := by
  have hc : b2n ccw ≤ 1 := by cases ccw <;> decide
  unfold Packet.sdie mkPacket
  rw [fld_sealHeader _ _ (by decide) (by decide)]
  exact bits_field (A := dst / 128 % 8 + dst % 128 * 2 ^ 3)
    (C := src % 128 + b2n ccw * 2 ^ 7 + cmd % 32 * 2 ^ 8 + tag % 1024 * 2 ^ 13 + cls % 4 * 2 ^ 23 + len % 32 * 2 ^ 25 + status % 8 * 2 ^ 31 + be % 65536 * 2 ^ 35 + addr % 2 ^ 48 * 2 ^ 51)
    (by omega) (by omega) (by omega)

theorem mkPacket_sstop :
    (mkPacket src dst ccw cmd tag cls len status be addr data).sstop = src % 128 := by
  have hc : b2n ccw ≤ 1 := by cases ccw <;> decide
  unfold Packet.sstop mkPacket
  rw [fld_sealHeader _ _ (by decide) (by decide)]
  exact bits_field (A := dst / 128 % 8 + dst % 128 * 2 ^ 3 + src / 128 % 8 * 2 ^ 10)
    (C := b2n ccw + cmd % 32 * 2 ^ 1 + tag % 1024 * 2 ^ 6 + cls % 4 * 2 ^ 16 + len % 32 * 2 ^ 18 + status % 8 * 2 ^ 24 + be % 65536 * 2 ^ 28 + addr % 2 ^ 48 * 2 ^ 44)
    (by omega) (by omega) (by omega)

theorem mkPacket_cmd :
    (mkPacket src dst ccw cmd tag cls len status be addr data).cmd = cmd % 32 := by
  have hc : b2n ccw ≤ 1 := by cases ccw <;> decide
  unfold Packet.cmd mkPacket
  rw [fld_sealHeader _ _ (by decide) (by decide)]
  exact bits_field (A := dst / 128 % 8 + dst % 128 * 2 ^ 3 + src / 128 % 8 * 2 ^ 10 + src % 128 * 2 ^ 13 + b2n ccw * 2 ^ 20)
    (C := tag % 1024 + cls % 4 * 2 ^ 10 + len % 32 * 2 ^ 12 + status % 8 * 2 ^ 18 + be % 65536 * 2 ^ 22 + addr % 2 ^ 48 * 2 ^ 38)
    (by omega) (by omega) (by omega)

theorem mkPacket_tag :
    (mkPacket src dst ccw cmd tag cls len status be addr data).tag = tag % 1024 := by
  have hc : b2n ccw ≤ 1 := by cases ccw <;> decide
  unfold Packet.tag mkPacket
  rw [fld_sealHeader _ _ (by decide) (by decide)]
  exact bits_field (A := dst / 128 % 8 + dst % 128 * 2 ^ 3 + src / 128 % 8 * 2 ^ 10 + src % 128 * 2 ^ 13 + b2n ccw * 2 ^ 20 + cmd % 32 * 2 ^ 21)
    (C := cls % 4 + len % 32 * 2 ^ 2 + status % 8 * 2 ^ 8 + be % 65536 * 2 ^ 12 + addr % 2 ^ 48 * 2 ^ 28)
    (by omega) (by omega) (by omega)

theorem mkPacket_cls :
    (mkPacket src dst ccw cmd tag cls len status be addr data).cls = cls % 4 := by
  have hc : b2n ccw ≤ 1 := by cases ccw <;> decide
  unfold Packet.cls mkPacket
  rw [fld_sealHeader _ _ (by decide) (by decide)]
  exact bits_field (A := dst / 128 % 8 + dst % 128 * 2 ^ 3 + src / 128 % 8 * 2 ^ 10 + src % 128 * 2 ^ 13 + b2n ccw * 2 ^ 20 + cmd % 32 * 2 ^ 21 + tag % 1024 * 2 ^ 26)
    (C := len % 32 + status % 8 * 2 ^ 6 + be % 65536 * 2 ^ 10 + addr % 2 ^ 48 * 2 ^ 26)
    (by omega) (by omega) (by omega)

theorem mkPacket_len :
    (mkPacket src dst ccw cmd tag cls len status be addr data).len = len % 32 := by
  have hc : b2n ccw ≤ 1 := by cases ccw <;> decide
  unfold Packet.len mkPacket
  rw [fld_sealHeader _ _ (by decide) (by decide)]
  exact bits_field (A := dst / 128 % 8 + dst % 128 * 2 ^ 3 + src / 128 % 8 * 2 ^ 10 + src % 128 * 2 ^ 13 + b2n ccw * 2 ^ 20 + cmd % 32 * 2 ^ 21 + tag % 1024 * 2 ^ 26 + cls % 4 * 2 ^ 36)
    (C := status % 8 * 2 ^ 1 + be % 65536 * 2 ^ 5 + addr % 2 ^ 48 * 2 ^ 21)
    (by omega) (by omega) (by omega)

theorem mkPacket_status :
    (mkPacket src dst ccw cmd tag cls len status be addr data).status = status % 8 := by
  have hc : b2n ccw ≤ 1 := by cases ccw <;> decide
  unfold Packet.status mkPacket
  rw [fld_sealHeader _ _ (by decide) (by decide)]
  exact bits_field (A := dst / 128 % 8 + dst % 128 * 2 ^ 3 + src / 128 % 8 * 2 ^ 10 + src % 128 * 2 ^ 13 + b2n ccw * 2 ^ 20 + cmd % 32 * 2 ^ 21 + tag % 1024 * 2 ^ 26 + cls % 4 * 2 ^ 36 + len % 32 * 2 ^ 38)
    (C := be % 65536 * 2 ^ 1 + addr % 2 ^ 48 * 2 ^ 17)
    (by omega) (by omega) (by omega)

theorem mkPacket_addr :
    (mkPacket src dst ccw cmd tag cls len status be addr data).addr = addr % 2 ^ 48 := by
  have hc : b2n ccw ≤ 1 := by cases ccw <;> decide
  unfold Packet.addr mkPacket
  rw [fld_sealHeader _ _ (by decide) (by decide)]
  exact bits_field (A := dst / 128 % 8 + dst % 128 * 2 ^ 3 + src / 128 % 8 * 2 ^ 10 + src % 128 * 2 ^ 13 + b2n ccw * 2 ^ 20 + cmd % 32 * 2 ^ 21 + tag % 1024 * 2 ^ 26 + cls % 4 * 2 ^ 36 + len % 32 * 2 ^ 38 + status % 8 * 2 ^ 44 + be % 65536 * 2 ^ 48)
    (C := 0)
    (by omega) (by omega) (by omega)

/-- Where a packet goes, and whether it has arrived, do not depend on the direction that it takes. -/
theorem mkPacket_dst (ccw' : Bool) :
    (mkPacket src dst ccw cmd tag cls len status be addr data).dst
      = (mkPacket src dst ccw' cmd tag cls len status be addr data).dst := by
  simp [Packet.dst, mkPacket_ddie, mkPacket_dstop]

theorem mkPacket_arrived (ccw' : Bool) (r pos : Nat) :
    (mkPacket src dst ccw cmd tag cls len status be addr data).arrived r pos
      = (mkPacket src dst ccw' cmd tag cls len status be addr data).arrived r pos := by
  simp only [Packet.arrived, mkPacket_dst src dst ccw cmd tag cls len status be addr data ccw']

/-- A packet with the CMD of a request is no response. -/
theorem mkPacket_isResp (h : cmd < 16) :
    (mkPacket src dst ccw cmd tag cls len status be addr data).isResp = false := by
  simp only [Packet.isResp, mkPacket_cmd, decide_eq_false_iff_not]
  omega

/-! ## Nodes, ports and stops -/

@[simp] theorem Device.node_setNode_self (d : Device) (k : Nat) (l : List Packet) : (d.setNode k l).node k = l := by
  simp [Device.node, Device.setNode]
theorem Device.node_setNode_ne (d : Device) {k j : Nat} (l : List Packet) (h : j ≠ k) :
    (d.setNode k l).node j = d.node j := by simp [Device.node, Device.setNode, Tab.get_set_ne _ _ _ h]
@[simp] theorem Device.node_setInit (d : Device) (k : Nat) (x : InitState) (j : Nat) : (d.setInit k x).node j = d.node j :=
  (rfl)
@[simp] theorem Device.node_setTarget (d : Device) (k : Nat) (x : TargetState) (j : Nat) :
    (d.setTarget k x).node j = d.node j := (rfl)
@[simp] theorem Device.node_set (d : Device) (f : Field) (v j : Nat) : (d.set f v).node j = d.node j := (rfl)
@[simp] theorem Device.init_setNode (d : Device) (k : Nat) (l : List Packet) (j : Nat) : (d.setNode k l).init j = d.init j :=
  (rfl)
@[simp] theorem Device.target_setNode (d : Device) (k : Nat) (l : List Packet) (j : Nat) :
    (d.setNode k l).target j = d.target j := (rfl)
@[simp] theorem Device.get_setNode (d : Device) (k : Nat) (l : List Packet) (f : Field) : (d.setNode k l).get f = d.get f :=
  (rfl)

/-- A port that is written twice holds what the second write gave it, where the first listed it. -/
theorem Device.setInit_setInit (d : Device) (k : Nat) {x : InitState} (y : InitState) (h : x ≠ InitState.idle) :
    (d.setInit k x).setInit k y = d.setInit k y := by
  simp [Device.setInit, Tab.set_set (fun _ => InitState.idle) d.ring.inits y h]

/-- No taken request is due where none only waits for its turn. -/
theorem TargetState.dueAt_none (t : TargetState) {l : List Packet} (h : ∀ q ∈ l, t.finished q = false) (b : List Packet)
    (k : Nat) : t.dueAt b l k = none := by
  induction l generalizing b k with
  | nil => rfl
  | cons p r ih =>
    unfold TargetState.dueAt
    rw [h p (List.mem_cons_self ..)]
    simp only [Bool.false_and, Bool.false_eq_true, if_false]
    exact ih (fun q hq => h q (List.mem_cons_of_mem _ hq)) _ _

/-- An intake takes nothing in where no packet waits for it. -/
theorem Device.fill_none (d : Device) (key : Nat) {r pos : Nat} (h : d.clearAt r pos = true) (f : Nat) :
    Device.fill f d key r pos = d := by
  have hd : ∀ c, d.drainOne r pos c false = none := by
    intro c
    have hc : (d.node (nodeKey r pos c false)).head?.all (fun p => !p.arrived r pos) = true := by
      simp only [Device.clearAt, List.all_cons, List.all_nil, Bool.and_true, Bool.and_eq_true] at h
      cases c
      · exact h.1
      · exact h.2
    unfold Device.drainOne
    split
    · rfl
    · rename_i p rest e
      rw [e] at hc
      simp at hc
      simp [hc]
  cases f with
  | zero => rfl
  | succ f =>
    unfold Device.fill
    simp only [hd]

/-- A stop takes a request as its intake holds it, where none of its requests only waits for its turn and no packet waits
for room. -/
theorem Device.targetTake_eq (d : Device) {key : Nat} {e : Bool × Packet} (h : d.nextTaken key = some e)
    (hs : d.noneStalled key = true) (ht : ∀ q ∈ (d.target key).taken ++ [e.2], (d.target key).finished q = false) :
    d.targetTake key = d.setTarget key { d.target key with
      inq := dropFirst e (d.target key).inq, lastCcw := e.1, taken := (d.target key).taken ++ [e.2] } := by
  unfold Device.targetTake
  simp only [h]
  obtain ⟨x, hx⟩ : ∃ x : TargetState, x = { d.target key with
      inq := dropFirst e (d.target key).inq, lastCcw := e.1, taken := (d.target key).taken ++ [e.2] } := ⟨_, rfl⟩
  rw [← hx]
  have hd : x.dueAt [] x.taken 0 = none := x.dueAt_none (by
    intro q hq
    have hq' : q ∈ (d.target key).taken ++ [e.2] := by rw [hx] at hq; exact hq
    rw [hx]
    exact ht q hq') _ _
  have h1 : (d.setTarget key x).settleTurn key = d.setTarget key x := by
    unfold Device.settleTurn
    rw [Device.target_setTarget_self]
    cases x.taken.length with
    | zero => rfl
    | succ n => unfold Device.answerDue; simp only [Device.target_setTarget_self, hd]
  rw [h1]
  simp only [Device.noneStalled, Bool.and_eq_true, Bool.or_eq_true] at hs
  unfold Device.unstall
  dsimp only
  rw [Device.fill_none (d.setTarget key x) key hs.1]
  split
  · rename_i hk
    have h5 : d.clearAt 5 0 = true := by simpa [hk] using hs.2
    exact Device.fill_none (d.setTarget key x) key h5 8
  · rfl

end Sys2Proof.Machine
end

