-- ==== Sys2Proof/Laws/Startup.lean ====
section
/-! SUPPORT. What the operations of resets and of start-up leave as it was (chapters 02, 04, 05, 16, 17): frames in the
form of Laws/Keeps.lean. -/

namespace Sys2Proof.Machine

variable {K K' : Part → Bool} {R R' : Field → Bool} {d e g : Device}
/-! ## Start-up: the life-cycle decode and the journal -/

theorem Device.Keeps.journalShow (h : d.Keeps K R e) (hr : ∀ f, f.key / 4096 = 9 → R f = false) :
    d.Keeps K R e.journalShow := by
  have hr' : ∀ k, k / 4096 = 9 → ∀ g : Field, g.key = k → R g = false := fun k hk g hg => hr g (by rw [hg, hk])
  unfold Device.journalShow
  split
  · exact (((h.setKey _ _ (hr' _ rfl)).setKey _ _ (hr' _ rfl)).setKey _ _ (hr' _ rfl)).setKey _ _ (hr' _ rfl)
  · exact (((h.setKey _ _ (hr' _ rfl)).setKey _ _ (hr' _ rfl)).setKey _ _ (hr' _ rfl)).setKey _ _ (hr' _ rfl)

theorem ormReg {R : Field → Bool} (hr : ∀ f, f.key / 4096 = U.ORM → R f = false) (k : Nat) (hk : k / 4096 = U.ORM) :
    ∀ g : Field, g.key = k → R g = false := fun g hg => hr g (by rw [hg, hk])

theorem Device.Keeps.ormShow (h : d.Keeps K R e) (hr : ∀ f, f.key / 4096 = U.ORM → R f = false) :
    d.Keeps K R e.ormShow := (h.setKey _ _ (ormReg hr _ rfl)).setKey _ _ (ormReg hr _ rfl)

theorem Device.Keeps.devStart (h : d.Keeps K R e) (w : OrmDev) (hk : K .orm = false)
    (hr : ∀ f, f.key / 4096 = U.ORM → R f = false) : d.Keeps K R (e.devStart w) := by
  unfold Device.devStart
  refine Device.Keeps.ormShow (Device.Keeps.with_orm ?_ _ hk) hr
  dsimp only
  split
  · exact h.with_orm _ hk
  · split
    · exact h.with_orm _ hk
    · exact h

theorem Device.Keeps.ormNext (h : d.Keeps K R e) (hk : K .orm = false)
    (hr : ∀ f, f.key / 4096 = U.ORM → R f = false) : d.Keeps K R e.ormNext := by
  unfold Device.ormNext
  split
  · exact h
  · split
    · exact h
    · exact (h.with_orm _ hk).devStart _ hk hr

theorem Device.Keeps.journalAsk (h : d.Keeps K R e) (a b c i : Nat) (hk : K .orm = false)
    (hr : ∀ f, f.key / 4096 = U.ORM → R f = false) : d.Keeps K R (e.journalAsk a b c i) := (h.with_orm _ hk).ormNext hk hr

theorem Device.Keeps.lcStartup (h : d.Keeps K R e) (hk : K .orm = false) (hl : K .lc = false)
    (hr : ∀ f, f.key / 4096 = U.ORM ∨ f.key / 4096 = 9 ∨ f.key / 4096 = 10 → R f = false) :
    d.Keeps K R e.lcStartup := by
  have hr' : ∀ k, k / 4096 = 9 ∨ k / 4096 = 10 → ∀ g : Field, g.key = k → R g = false :=
    fun k hk g hg => hr g (.inr (by rw [hg]; exact hk))
  have hr3 : ∀ f, f.key / 4096 = U.ORM → R f = false := fun k hk => hr k (.inl hk)
  have hr9 : ∀ f, f.key / 4096 = 9 → R f = false := fun k hk => hr k (.inr (.inl hk))
  unfold Device.lcStartup
  extract_lets st d1
  have h1 : d.Keeps K R d1 := Device.Keeps.journalShow
    (((h.setKey _ _ (hr' _ (.inl rfl))).setKey _ _ (hr' _ (.inr rfl))).setKey _ _ (hr' _ (.inl rfl))) hr9
  clear_value d1
  split
  · split
    · exact (h1.journalAsk _ _ _ _ hk hr3).with_lc _ hl
    · split
      · exact h1.setKey _ _ (hr' _ (.inl rfl))
      · exact h1
  · exact h1

theorem Device.Keeps.startUp (h : d.Keeps K R e) (hk : K .orm = false) (hl : K .lc = false) (hs : K .rst = false)
    (hf : K .fuses = false) (hr : ∀ f, f.key / 4096 = U.ORM ∨ f.key / 4096 = 9 ∨ f.key / 4096 = 10 ∨ f.key = 0x2008 → R f = false) :
    d.Keeps K R e.startUp := by
  unfold Device.startUp
  extract_lets _ d1 _ d2 d3
  have h3 : d.Keeps K R d3 := ((h.with_rst _ hs).with_fuses _ hf).setKey _ _ (fun g hg => hr g (.inr (.inr (.inr hg))))
  clear_value d3
  exact (h3.lcStartup hk hl (fun k hk => hr k (by omega))).setKey _ _ (fun g hg => hr g (.inr (.inr (.inr hg))))

/-- The write that stops where it is. -/
theorem Device.Keeps.writeInterrupt (h : d.Keeps K R e) (hk : K .orm = false) (hf : K .free = false) :
    d.Keeps K R e.writeInterrupt := by
  have hp : ∀ p b, d.Keeps K R (e.tearPage p b) := fun p b => (h.with_orm _ hk).with_free _ hf
  have hc : ∀ k c b, d.Keeps K R (e.tearCell k c b) := fun k c b => (h.with_orm _ hk).with_free _ hf
  unfold Device.writeInterrupt
  refine Device.Keeps.with_orm ?_ _ hk
  split
  · exact hp _ _
  · exact hp _ _
  · exact hc _ _ _
  · exact h

theorem Device.Keeps.ksPowerLost (h : d.Keeps K R e) (hk : K .keys = false) (hf : K .free = false) :
    d.Keeps K R e.ksPowerLost := by
  unfold Device.ksPowerLost
  dsimp only
  refine (Device.Keeps.with_free ?_ _ hf).with_keys _ hk
  split
  · exact h.with_keys _ hk
  · split
    · exact h.with_keys _ hk
    · exact h
  · exact h

theorem Device.Keeps.blow (h : d.Keeps K R e) (l : List Nat) (hk : K .fuses = false) : d.Keeps K R (e.blow l) := by
  unfold Device.blow
  induction l generalizing e with
  | nil => exact h
  | cons c r ih =>
    refine ih ?_
    dsimp only
    split
    · exact h.with_fuses _ hk
    · exact h.with_fuses _ hk

theorem Device.Keeps.lcPowerLost (h : d.Keeps K R e) (ho : K .orm = false) (hf : K .free = false)
    (hk : K .fuses = false) (hl : K .lc = false) : d.Keeps K R e.lcPowerLost := by
  have h1 := h.with_orm { e.orm with entry := none } ho
  unfold Device.lcPowerLost
  dsimp only
  split
  · exact h1
  · exact Device.Keeps.with_lc ((h1.tick hf).blow _ hk) _ hl

theorem Device.Keeps.batteryReset (h : d.Keeps K R e) (hk : K .keys = false)
    (hr : ∀ f, f.key / 4096 = U.BG → R f = false) : d.Keeps K R e.batteryReset := by
  have hr' : ∀ k, k / 4096 = U.BG → ∀ g : Field, g.key = k → R g = false := fun k hk g hg => hr g (by rw [hg, hk])
  unfold Device.batteryReset
  exact (((((((h.each _ _ (fun x n _ hx => hx.with_keys _ hk)).setKey _ _ (hr' _ rfl)).setKey _ _ (hr' _ rfl)).setKey _ _
    (hr' _ rfl)).setKey _ _ (hr' _ rfl)).setKey _ _ (hr' _ rfl)).setKey _ _ (hr' _ rfl)).setKey _ _ (hr' _ rfl)

theorem Device.Keeps.batterySupply (h : d.Keeps K R e) (hk : K .keys = false) (hf : K .free = false)
    (hr : ∀ f, f.key / 4096 = U.BG → R f = false) : d.Keeps K R e.batterySupply := by
  unfold Device.batterySupply
  split
  · exact h
  · split
    · exact h.batteryReset hk hr
    · split
      · exact (h.each _ _ (fun x n _ hx => hx.with_keys _ hk)).with_free _ hf
      · exact h

/-! ## Start-up steps 3 to 5 -/

theorem Device.Keeps.tornScan (h : d.Keeps K R e) (q : Quiet K R d) (hr : ∀ f, f.key / 4096 = U.ORM → R f = false) :
    d.Keeps K R e.tornScan := by
  unfold Device.tornScan
  extract_lets torn d1
  have h1 : d.Keeps K R d1 := by
    refine h.each _ _ (fun x n hn hx => hx.setKey _ _ (ormReg hr _ ?_))
    have hlt : n < 256 := by simp only [torn, List.mem_filter, List.mem_range] at hn; exact hn.1
    show (0x3020 + 4 * (n / 32)) / 4096 = 3
    omega
  clear_value d1
  split
  · exact h1.raise_q q _ _ (by decide)
  · exact h1

theorem Device.Keeps.applyOptions (h : d.Keeps K R e) (hk : K .orm = false)
    (hr : ∀ f, f.key / 4096 = U.ORM → R f = false) (hh : ∀ f, f.key = F.HL_STATUS_CRC_ON.key → R f = false)
    (hg : ∀ f, f.key = F.GAF_STATUS_AUTOSWAP.key → R f = false) : d.Keeps K R e.applyOptions := by
  unfold Device.applyOptions
  extract_lets slot b o d1
  have h1 : d.Keeps K R d1 := (((h.setKey _ _ (ormReg hr _ rfl)).setKey _ _ (ormReg hr _ rfl)).setKey _ _
    (ormReg hr _ rfl)).setKey _ _ (ormReg hr _ rfl)
  clear_value d1
  exact ((h1.with_orm _ hk).setKey _ _ hh).setKey _ _ hg

theorem Device.Keeps.batteryEval (h : d.Keeps K R e) (q : Quiet K R d) (hk : K .bat = false)
    (hr : ∀ f, f.key = F.BG_STATUS_DISAGREE.key → R f = false) : d.Keeps K R e.batteryEval := by
  unfold Device.batteryEval
  extract_lets c entered _ d1 d2
  have h1 : d.Keeps K R d1 := (h.with_bat _ hk).setKey _ _ hr
  clear_value d1
  have h2 : d.Keeps K R d2 := by
    simp only [d2]
    split
    · exact h1.raise_q q _ _ (by decide)
    · exact h1
  clear_value d2
  split
  · exact h2.raise_q q _ _ (by decide)
  · exact h2

theorem Device.Keeps.batteryStartup (h : d.Keeps K R e) (q : Quiet K R d) (hk : K .bat = false)
    (hr : ∀ f, f.key = F.BG_STATUS_DISAGREE.key → R f = false) : d.Keeps K R e.batteryStartup := by
  unfold Device.batteryStartup
  extract_lets lost fire _ d1
  have h1 : d.Keeps K R d1 := h.with_bat _ hk
  clear_value d1
  refine Device.Keeps.batteryEval ?_ q hk hr
  split
  · exact h1.raise_q q _ _ (by decide)
  · exact h1

theorem Device.Keeps.lcAnnounce (h : d.Keeps K R e) (q : Quiet K R d) (hk : K .lc = false) :
    d.Keeps K R e.lcAnnounce := by
  unfold Device.lcAnnounce
  split
  · exact (h.with_lc _ hk).raise_q q _ _ (by decide)
  · exact h

theorem Device.Keeps.lifeAdd (h : d.Keeps K R e) (k delta : Nat) (hk : K .orm = false) :
    d.Keeps K R (e.lifeAdd k delta) := h.with_orm _ hk

theorem Device.Keeps.commitAbort (h : d.Keeps K R e) (q : Quiet K R d) (hk : K .orm = false) (hf : K .free = false)
    (hr : ∀ f, f.key / 4096 = U.ORM → R f = false) : d.Keeps K R e.commitAbort := by
  unfold Device.commitAbort
  split
  rotate_left
  · exact ((h.writeInterrupt hk hf).ormShow hr).with_orm _ hk
  · exact (h.writeInterrupt hk hf).ormShow hr
  · exact h
  · exact ((((h.writeInterrupt hk hf).setKey _ _ (ormReg hr _ rfl)).setKey _ _ (ormReg hr _ rfl)).setKey _ _
      (ormReg hr _ rfl)).raise_q q _ _ (by decide)

/-! ## Lanes -/

theorem Device.Keeps.laneUnlock (h : d.Keeps K R e) (q : Quiet K R d) (k l : Nat) (hk : k < 24) (hl : K .lanes = false)
    (hr : ∀ o (g : Field), g.key = quadUnit k * 4096 + o → R g = false) : d.Keeps K R (e.laneUnlock k l) := by
  unfold Device.laneUnlock
  extract_lets u had _ d1
  have h1 : d.Keeps K R d1 := h.with_lanes _ hl
  clear_value d1
  split
  · refine Device.Keeps.raise_q ?_ q _ _ (by simp only [Ev.LANE_QUAD]; omega)
    refine (h1.setKey _ _ ?_).setKey _ _ ?_
    · intro g hg; exact hr _ g (hg.trans (Nat.add_assoc _ _ _))
    · intro g hg; exact hr _ g (hg.trans (Nat.add_assoc _ _ _))
  · exact h1

theorem Device.Keeps.quadLost (h : d.Keeps K R e) (q : Quiet K R d) (k : Nat) (hk : k < 24) (hl : K .lanes = false)
    (hr : ∀ o (g : Field), g.key = quadUnit k * 4096 + o → R g = false) : d.Keeps K R (e.quadLost k) := by
  unfold Device.quadLost
  split
  · refine Device.Keeps.raise_q ?_ q _ _ (by simp only [Ev.LANE_QUAD]; omega)
    refine Device.Keeps.each (h.setKey _ _ (hr _)) _ _ ?_
    intro x l _ hx
    unfold Device.cdrLost
    refine Device.Keeps.laneUnlock ?_ q k l hk hl hr
    exact hx.setKey _ _ (fun g hg => hr _ g (hg.trans (Nat.add_assoc _ _ _)))
  · exact h

theorem Device.Keeps.setId (h : d.Keeps K R e) (k : Nat) (p : IdPort) (hk : K .ident = false) :
    d.Keeps K R (e.setId k p) := h.with_ident _ hk

theorem Device.Keeps.idOscFail (h : d.Keeps K R e) (hk : K .ident = false)
    (hr : ∀ f, f.key = F.IDR_CMD_GO.key → R f = false) : d.Keeps K R e.idOscFail := by
  unfold Device.idOscFail
  refine h.each _ _ (fun x k _ hx => ?_)
  dsimp only
  refine Device.Keeps.setId ?_ _ _ hk
  unfold Device.idCmdEnd
  dsimp only
  split
  · exact (hx.setId _ _ hk).setKey _ _ hr
  · exact hx

end Sys2Proof.Machine
end

