-- ==== Sys2Proof/Tests/Slice0.lean ====
section
/-! SUPPORT. Tests: states that meet the hypotheses of the obligations, the refusals of WellFormed, and the values
that the spec works out. -/

namespace Sys2Proof.Tests
open Sys2Proof.Machine
set_option Elab.async false

/-- A device in RUN: every rail good, MCK running, the reference stable, every loop locked, all dies released, no plane
loaded. -/
def dev0 : Device :=
  let d := { Device.reset with
    rst := { ResetState.por0 with por := false, startPending := false, phase := 2, served := true, fill := 0,
                                  released := [1, 2, 3, 4] },
    clk := { ClockState.off with osc := Osc.STABLE, root := Loop.LOCKED, rootGated := false,
                                 slaves := fabricDies.map (fun k => (k, Loop.LOCKED)), slaveGated := [], svcRef := 0,
                                 mtStarted := true } }
  d.setAll [(F.RS_STATUS_STATE, Rs.RUN), (F.RS_STATUS_DIE_READY, 15)]

/-- The device with its clocks changed. -/
def withClk (f : ClockState → ClockState) (d : Device) : Device := { d with clk := f d.clk }
/-- The device with its reset state changed. -/
def withRst (f : ResetState → ResetState) (d : Device) : Device := { d with rst := f d.rst }
/-- The device with its rails and pins changed. -/
def withBoard (f : BoardState → BoardState) (d : Device) : Device := { d with board := f d.board }
/-- The device with its options changed. -/
def withOpt (f : Options → Options) (d : Device) : Device := { d with orm := { d.orm with opt := f d.orm.opt } }
/-- A state of a device, with nothing stored and no command waiting. -/
def st (d : Device) : State := { State.reset with dev := d }
/-- Zone 3 of die 1. -/
def z3 : ZoneId := ⟨0, 3⟩
/-- A zone clock in a state of Table 06.2. -/
def zoneIn (n state : Nat) (d : Device) : Device :=
  (d.setZcState n state).setAll [(F.ZN_PLANE_ACTIVE (zoneUnit n), 0), (F.ZN_PLANE_STATE0 (zoneUnit n), Pl.ACTIVE)]
/-- A die whose bridge has no failing wire and whose flash reads empty. -/
def plainUp : DieUp := { wires0 := 0, wires1 := 0, wires2 := 0, wires3 := 0, dir := [], again := none }
/-- The same for every die. -/
def plainUps : DiesUp := { d1 := plainUp, d2 := plainUp, d3 := plainUp, d4 := plainUp }

/-- A state with a word in the pool, a row in a block memory, a frame, and two commands that wait. -/
def stFull : State :=
  { pending := [.mckLost, .thermTripClear], dev := dev0,
    mem := { pool := [(3, eccEncode 7)], bm := [(24576, 5)], frames := [(0, { Frame.none with words := [1] })] } }

/-- The witness of StepRunsTheFrontCommand. -/
theorem witness_StepRunsTheFrontCommand : stFull.pending = .mckLost :: [.thermTripClear] := rfl

/-- The witness of EveryStepTakesOneCommand: a step and a command that answer a next state. -/
theorem witness_EveryStepTakesOneCommand :
    isNext (step stFull) = true ∧ isNext (exec .thermTripClear stFull) = true := by decide +kernel

/-- The witness of StepsKeepCanonicalMemories. -/
theorem witness_StepsKeepCanonicalMemories :
    stFull.memWf = true ∧ stFull.queueFormed = true ∧ stFull.pending ≠ [] := by decide +kernel

/-- The witnesses of IdleStepIsOneReferenceCycle: machine time that runs and that has stopped, and the states of a loop. -/
theorem witness_IdleStepIsOneReferenceCycle :
    let hold := withClk (fun c => { c with root := Loop.HOLDOVER, slaves := [(1, Loop.HOLDOVER), (2, Loop.LOCKED)] }) dev0
    (st dev0).pending = [] ∧ dev0.mtAdvances = true ∧ dev0.clk.root ≠ Loop.HOLDOVER
      ∧ hold.mtAdvances = true ∧ hold.clk.rootGated = false ∧ Tab.get (fun _ => 0) hold.clk.fracs 0 < 50
      ∧ (withClk (fun c => { c with mtStarted := false }) dev0).mtAdvances = false
      ∧ hold.clk.mtStarted = true ∧ hold.slave 1 = Loop.HOLDOVER ∧ Tab.get (fun _ => 0) hold.clk.fracs 1 < 50
      ∧ hold.slave 2 = Loop.LOCKED ∧ hold.slave 3 ≠ Loop.LOCKED ∧ hold.slave 3 ≠ Loop.HOLDOVER := by
  decide +kernel

/-- The witness of ResetValues: MG_MCK_LOSS has a description. -/
theorem witness_ResetValues :
    (regDesc 0x68).isSome = true ∧ 0x68 ≠ F.RS_CAUSE_CAUSE.key ∧ 0x68 ≠ F.BG_STATUS_ABOVE_WARN.key
      ∧ ¬ (0x68 % 4096 = 0x080 ∧ 512 ≤ 0x68 / 4096 ∧ 0x68 / 4096 % 512 < 64) := by decide +kernel

/-- The witnesses of FormedCommandsComplete: one command that WellFormed takes, and one that each of its checks refuses. -/
theorem witness_FormedCommandsComplete :
    Instr.wellFormed (.mlinkWr 0 1 [7] 0) = true ∧ Instr.wellFormed (.mlinkWr 0 2 [7] 0) = false
      ∧ Instr.wellFormed (.mlinkWrw 0 0 [7] 0) = false ∧ Instr.wellFormed (.gatherSegmentRead 0 [] false) = false
      ∧ Instr.wellFormed (.streamHeaderRead 0 false { primary := [], copy := [] } [] [] []) = false := by decide +kernel

/-- The witness of EccCorrectsOneDetectsTwo, at the ends of their ranges. -/
theorem witness_EccCorrectsOneDetectsTwo :
    2 ^ 64 - 1 < 2 ^ 64 ∧ eccDecode (eccEncode (2 ^ 64 - 1)) = (2 ^ 64 - 1, .good)
      ∧ eccDecode (eccEncode (2 ^ 64 - 1) ^^^ BitVec.twoPow 72 71) = (2 ^ 64 - 1, .corrected)
      ∧ (eccDecode (eccEncode 0 ^^^ BitVec.twoPow 72 0 ^^^ BitVec.twoPow 72 71)).2 = .uncorrectable := by decide +kernel

/-- The witness of CheckBitsAndPoison, at the ends of its ranges. -/
theorem witness_CheckBitsAndPoison :
    2 ^ 64 - 1 < 2 ^ 64 ∧ 7 < 8 ∧ 71 < 72 ∧ eccSyndrome (eccStore (2 ^ 64 - 1) true) = 0x7F
      ∧ eccBad (eccStore 0 true ^^^ BitVec.twoPow 72 71) = true := by decide +kernel

/-- The witnesses of DeviceResetRecordsItsSource. -/
theorem witness_DeviceResetRecordsItsSource :
    (dev0.rst.por = false ∧ dev0.board.mck = true)
    ∧ (withBoard (fun b => { b with rstLow := true }) dev0).rst.rstActive = false
    ∧ (withOpt (fun o => { o with wdogOn := true }) dev0).wdogOn = true
    ∧ (withOpt (fun o => { o with wdogOn := true }) dev0).get F.RS_WDOG_LEFT_TICKS = 0
    ∧ (withRst (fun r => { r with cmdReset := true }) dev0).rst.cmdReset = true := by decide +kernel

/-- The witnesses of ResetPinsAndWatchdog. -/
theorem witness_ResetPinsAndWatchdog :
    (Device.reset.rst.por = true ∧ Device.reset.board.mck = true ∧ Device.reset.board.rstLow = false)
    ∧ (withRst (fun r => { r with startPending := true }) dev0).rst.por = false
    ∧ dev0.running = true
    ∧ (let d := (withOpt (fun o => { o with wdogOn := true }) dev0).set F.RS_WDOG_LEFT_TICKS 500
       d.running = true ∧ d.wdogOn = true ∧ d.get F.RS_WDOG_LEFT_TICKS = d.orm.opt.wdogTicks / 2)
    ∧ (0 : BitVec 16) ≠ 0x6B1C ∧ (0 : BitVec 8) ≠ 0xC3 := by decide +kernel

/-- A device at step 8 with the 100 ms limit running: dies 1 and 3 ready. -/
def devLoading : Device :=
  (withRst (fun r => { r with limitOn := true, rel := [1, 3] }) dev0).setAll
    [(F.RS_STATUS_STATE, Rs.LOADING), (F.RS_STATUS_DIE_READY, 5)]
/-- The same at another step. -/
def devAt (state : Nat) : Device := devLoading.set F.RS_STATUS_STATE state

/-- The witnesses of DieSetAndStagedRelease. -/
theorem witness_DieSetAndStagedRelease :
    (devLoading.board.mck = true ∧ devLoading.rst.limitOn = true ∧ devLoading.orm.opt.present = false
      ∧ devLoading.get F.RS_STATUS_DIE_FENCED = 0)
    ∧ (withOpt (fun o => { o with present := true }) devLoading).orm.opt.present = true
    ∧ (let d := devLoading.set F.RS_DIE_FAIL_F1.reg 0x2020
       d.get F.RS_STATUS_STATE = Rs.LOADING ∧ ∀ k ∈ fabricDies, (d.dieReady k || d.dieHasFailed k) = true)
    ∧ ((devAt Rs.WAIT_DIES).get F.RS_STATUS_STATE = Rs.WAIT_DIES ∧ (devAt Rs.WAIT_DIES).rst.rel ≠ []
      ∧ (devAt Rs.WAIT_DIES).get F.RS_RELEASE_HOLD_HOLD_GOE = 0 ∧ ∀ k ∈ (devAt Rs.WAIT_DIES).rst.rel, k ∈ fabricDies)
    ∧ ((devAt Rs.WAIT_DIES).set F.RS_RELEASE_HOLD_HOLD_GOE 1).get F.RS_RELEASE_HOLD_HOLD_GOE = 1
    ∧ ((devAt Rs.GOE).get F.RS_STATUS_STATE = Rs.GOE ∧ (devAt Rs.GOE).get F.RS_RELEASE_HOLD_HOLD_GWE = 0)
    ∧ ((devAt Rs.GOE).set F.RS_RELEASE_HOLD_HOLD_GWE 1).get F.RS_RELEASE_HOLD_HOLD_GWE = 1
    ∧ ((devAt Rs.GWE).running = true ∧ (devAt Rs.GWE).get F.RS_STATUS_STATE = Rs.GWE
      ∧ (devAt Rs.GWE).get F.RS_RELEASE_HOLD_HOLD_GRR = 0)
    ∧ ((devAt Rs.GWE).set F.RS_RELEASE_HOLD_HOLD_GRR 1).get F.RS_RELEASE_HOLD_HOLD_GRR = 1 := by decide +kernel

/-- A read request of the P-die's stop 35 on its way to stop 0 of die 1. -/
def crossing : Packet := mkPacket (stopKey 0 35) (stopKey 1 0) false 1 5 1 0 0 0 0 []
/-- A device with that packet before path 0 of die 1's bridge. -/
def devCrossing : Device :=
  (dev0.set (F.BR_STATUS_STATE (U.BR 1)) Br.UP).setNode (nodeKey 5 1 false false) [crossing]
/-- A device whose fabric dies wait for VCCINT after a brown-out. -/
def devBrown : Device :=
  (withBoard (fun b => { b with vccint := false }) (withRst (fun r => { r with brownActive := true }) dev0)).setAll
    [(F.RS_STATUS_DIE_READY, 0), (F.RS_STATUS_STATE, Rs.LOOPS)]

/-- The witnesses of SuppliesAndBridges: supplies. -/
theorem witness_SuppliesAndBridges :
    (dev0.running = true ∧ dev0.rst.por = false ∧ dev0.get F.MG_SUPPLY_LATCH_VCCINT_FELL = 0
      ∧ dev0.get F.MG_SUPPLY_LATCH_VMIO_FELL = 0 ∧ bit (dev0.get F.MG_VCCIO_LATCH_BANK) 31 = false
      ∧ dev0.rst.brownPending = false ∧ dev0.rst.brownActive = false ∧ dev0.get F.RS_STATUS_STATE = Rs.RUN)
    ∧ (let d := withBoard (fun b => { b with vccint := false }) (withRst (fun r => { r with brownPending := true }) dev0)
       d.rst.brownPending = true ∧ d.running = true ∧ d.rst.por = false ∧ d.get F.RS_STATUS_STATE = Rs.RUN
        ∧ d.clk.osc = Osc.STABLE ∧ d.board.vccint = false ∧ d.dormant = false ∧ d.gaf.co = 0 ∧ d.gaf.swapSet = []
        ∧ ∀ k ∈ fabricDies, d.jobRuns k = false ∧ (d.lehrOf k).refetch = none)
    ∧ (devBrown.board.mck = true ∧ devBrown.rst.por = false ∧ devBrown.rst.brownPending = false
      ∧ devBrown.rst.brownActive = true
      ∧ devBrown.clk.root = Loop.LOCKED ∧ devBrown.get F.RS_STATUS_DIE_READY = 0
      ∧ devBrown.rd F.RS_DIE_FAIL_F1.key = 0 ∧ devBrown.get F.RS_STATUS_DIE_FENCED = 0 ∧ devBrown.rst.late = []
      ∧ (∀ k ∈ fabricDies, devBrown.jobRuns k = false) ∧ devBrown.orm.opt.present = false) := by decide +kernel

/-- The witnesses of SuppliesAndBridges: bridges, before and after release. -/
theorem witness_SuppliesAndBridges_bridge :
    (devCrossing.bridgeOpen 1 = true ∧ (devCrossing.pathNode 1 0).isSome = true
      ∧ devCrossing.orm.opt.bridgeReset = false ∧ (devCrossing.orm.opt.present || devCrossing.dieOut 1) = true
      ∧ devCrossing.get F.PW_STATUS_PHASE = 0 ∧ devCrossing.gaf.swapSet = [])
    ∧ (let d := withRst (fun r => { r with released := [], rel := [1] }) (devCrossing.set F.RS_STATUS_STATE Rs.WAIT_DIES)
       d.bridgeOpen 1 = true ∧ (d.pathNode 1 0).isSome = true ∧ d.orm.opt.present = false ∧ d.dieOut 1 = false
        ∧ d.get F.RS_STATUS_STATE = Rs.WAIT_DIES)
    ∧ (withOpt (fun o => { o with bridgeReset := true }) devCrossing).orm.opt.bridgeReset = true
    ∧ (let d := devCrossing.set (F.BR_FATAL_CFG_ERR_LIMIT (U.BR 1)) 2
       d.bridgeOpen 1 = true ∧ d.pathNode 1 0 = some (false, false) ∧ d.node (nodeKey 5 1 false false) = crossing :: []
        ∧ (List.range crossing.units).filter (bit 1) = [0] ∧ (List.range crossing.units).filter (bit 2) = []
        ∧ d.running = true ∧ d.brErrs = []
        ∧ ([0] : List Nat).length < d.get (F.BR_FATAL_CFG_ERR_LIMIT (U.BR 1))) := by decide +kernel

/-- The witnesses of ClockUnitCommands. -/
theorem witness_ClockUnitCommands :
    (dev0.board.mck = true ∧ dev0.on F.CK_CMD_RELOCK = false ∧ dev0.clk.osc = Osc.STABLE
      ∧ zoneNumbers.any (fun n => dev0.zoneActive n && dev0.usesRoot n) = false)
    ∧ (let d := zoneIn 3 Zc.ROOT dev0
       3 ∈ zoneNumbers ∧ d.zoneActive 3 = true ∧ d.usesRoot 3 = true)
    ∧ (let d := withClk (fun c => { c with osc := Osc.FAILED }) dev0
       d.board.mck = true ∧ d.on F.CK_CMD_RELOCK = false ∧ d.clk.osc ≠ Osc.STABLE ∧ d.clk.osc = Osc.FAILED
       ∧ zoneNumbers.any (fun n => d.zoneActive n && d.usesRoot n) = false)
    ∧ (withClk (fun c => { c with root := Loop.HOLDOVER }) dev0).clk.rootGated = false
    ∧ (dev0.clk.osc ≠ Osc.FAILED ∧ dev0.clk.rootGated = false ∧ dev0.clk.root ≠ Loop.HOLDOVER)
    ∧ (withClk (fun c => { c with rootGated := true }) dev0).clk.rootGated = true := by decide +kernel

/-- The witnesses of ZoneClockCommands. -/
theorem witness_ZoneClockCommands :
    (let d := (zoneIn 3 Zc.ROOT dev0).set (F.ZN_CLK_STATUS_DIV_NOW (zoneUnit 3)) 5
     d.refusalsFull (zoneDie z3.no) = false ∧ d.zoneActive z3.no = true ∧ d.zcState z3.no = Zc.ROOT
      ∧ d.on (F.ZN_CLK_CTL_GO (zoneUnit z3.no)) = false ∧ d.on (F.ZN_CLK_CTL_RAMP (zoneUnit z3.no)) = false
      ∧ d.loopLocked z3.no = true ∧ d.clk.mult ≤ 15 * 4 ∧ d.get (F.ZN_CLK_STATUS_DIV_NOW (zoneUnit z3.no)) = 5
      ∧ d.running = true ∧ d.silent (zoneUnit z3.no) = false)
    ∧ [Zc.REF, Zc.RIDING, Zc.GATED, Zc.STOPPED, Zc.SWITCHING, Zc.RAMPING].all
        (fun x => (zoneIn 3 x dev0).zcState z3.no == x && (zoneIn 3 x dev0).zoneActive z3.no
          && !(zoneIn 3 x dev0).on (F.ZN_CLK_CTL_GO (zoneUnit z3.no))) = true
    ∧ (let d := (zoneIn 3 Zc.HELD dev0).modClk 3 (fun c => { c with held := some .lehr })
       d.zcState z3.no = Zc.HELD ∧ (d.zone z3.no).clk.held ≠ some .policy)
    ∧ dev0.zoneActive z3.no = false
    ∧ (4096 < (4097 : BitVec 13).toNat ∧ (3 : BitVec 13).toNat < 4
      ∧ 15 * (4 : BitVec 13).toNat < (withClk (fun c => { c with mult := 64 }) dev0).clk.mult)
    ∧ (withClk (fun c => { c with root := Loop.HOLDOVER, slaves := [] }) dev0).loopLocked z3.no = false := by
  decide +kernel

/-- A zone whose switch or ramp is under way. -/
def zoneMoving (n state : Nat) (f : ZoneClock → ZoneClock) : Device := (zoneIn n state dev0).modClk n f

/-- The witnesses of ZoneClockMovesOn. -/
theorem witness_ZoneClockMovesOn :
    (let d := zoneMoving 3 Zc.SWITCHING (fun c => { c with toRef := false, toDiv := 5, ending := .switchDone })
     d.running = true ∧ d.silent (zoneUnit z3.no) = false ∧ d.zcState z3.no = Zc.SWITCHING
      ∧ (d.zone z3.no).clk.toRef = false ∧ (d.zone z3.no).clk.ending = .switchDone ∧ d.thermHold = false
      ∧ d.loopLocked z3.no = true ∧ (d.zone z3.no).clk.toDiv < 8192)
    ∧ (let d := (zoneMoving 3 Zc.RAMPING (fun c => { c with rampTo := 20, rampStep := 2, rampLeft := 0 })).set
          (F.ZN_CLK_STATUS_DIV_NOW (zoneUnit 3)) 10
       d.zcState z3.no = Zc.RAMPING ∧ d.get (F.ZN_CLK_STATUS_DIV_NOW (zoneUnit z3.no)) + (d.zone z3.no).clk.rampStep
        < (d.zone z3.no).clk.rampTo ∧ (d.zone z3.no).clk.rampTo < 8192)
    ∧ (let d := (zoneMoving 3 Zc.RAMPING (fun c => { c with rampTo := 20, rampStep := 2, rampLeft := 0 })).set
          (F.ZN_CLK_STATUS_DIV_NOW (zoneUnit 3)) 30
       d.zcState z3.no = Zc.RAMPING ∧ (d.zone z3.no).clk.rampTo + (d.zone z3.no).clk.rampStep
        < d.get (F.ZN_CLK_STATUS_DIV_NOW (zoneUnit z3.no)))
    ∧ (let d := (zoneMoving 3 Zc.RAMPING (fun c => { c with rampTo := 20, rampStep := 2, rampLeft := 0 })).set
          (F.ZN_CLK_STATUS_DIV_NOW (zoneUnit 3)) 22
       d.zcState z3.no = Zc.RAMPING
      ∧ d.get (F.ZN_CLK_STATUS_DIV_NOW (zoneUnit z3.no)) ≤ (d.zone z3.no).clk.rampTo + (d.zone z3.no).clk.rampStep
      ∧ (d.zone z3.no).clk.rampTo ≤ d.get (F.ZN_CLK_STATUS_DIV_NOW (zoneUnit z3.no)) + (d.zone z3.no).clk.rampStep)
    ∧ (zoneMoving 3 Zc.RAMPING (fun c => { c with rampLeft := 3 })).zcState z3.no = Zc.RAMPING
    ∧ ((zoneMoving 3 Zc.RAMPING (fun c => { c with rampLeft := 3 })).zone z3.no).clk.rampLeft ≠ 0
    ∧ (let d := zoneMoving 3 Zc.RIDING (fun c => { c with thenBack := false })
       d.zcState z3.no = Zc.RIDING ∧ (d.zone z3.no).clk.thenBack = false)
    ∧ (let d := zoneMoving 3 Zc.RIDING (fun c => { c with thenBack := true })
       d.zcState z3.no = Zc.RIDING ∧ d.clk.osc = Osc.STABLE ∧ (d.zone z3.no).clk.thenBack = true)
    ∧ (let d := zoneMoving 3 Zc.HELD (fun c => { c with held := some .policy, heldDiv := 5, heldRef := false, wait := .none })
       d.running = true ∧ d.silent (zoneUnit z3.no) = false ∧ d.zcState z3.no = Zc.HELD
      ∧ (d.zone z3.no).clk.held = some .policy ∧ (d.zone z3.no).clk.heldRef = false
      ∧ (d.zone z3.no).clk.wait = .none ∧ d.loopLocked z3.no = true ∧ d.lehrHeld z3.no = false
      ∧ d.thermHold = false ∧ (d.zone z3.no).clk.heldDiv < 8192)
    ∧ (let d := zoneMoving 3 Zc.REF (fun c => { c with returns := true, backDiv := some 5 })
       d.running = true ∧ d.silent (zoneUnit z3.no) = false ∧ d.zcState z3.no = Zc.REF
      ∧ (d.zone z3.no).clk.returns = true ∧ (d.zone z3.no).clk.backDiv = some 5 ∧ d.loopLocked z3.no = true
      ∧ d.thermHold = false) := by decide +kernel

/-- The witnesses of LoopsLoseAndGainLock. -/
theorem witness_LoopsLoseAndGainLock :
    (dev0.running = true ∧ dev0.clk.root = Loop.LOCKED ∧ dev0.gaf.swapSet = [] ∧ dev0.silent (U.SLP 1) = false
      ∧ dev0.slave 1 = Loop.LOCKED ∧ dev0.rst.late.contains 1 = false)
    ∧ (let d := withClk (fun c => { c with root := Loop.HOLDOVER, slaves := [] }) dev0
       d.clk.root = Loop.HOLDOVER ∧ (∀ k ∈ fabricDies, d.slave k ≠ Loop.LOCKED) ∧ d.clk.osc = Osc.STABLE)
    ∧ [0, 1, 2].all (fun k => let d := (zoneIn 3 Zc.ROOT dev0).set (F.ZN_CLK_POLICY_POLICY (zoneUnit 3)) k
        d.zcState 3 == Zc.ROOT && d.loopLocked 3 && d.policyNow 3 == k) = true
    ∧ (let d := withClk (fun c => { c with root := Loop.HOLDOVER }) dev0
       d.running = true ∧ d.gaf.swapSet = [] ∧ d.slave 1 = Loop.LOCKED)
    ∧ (let d := dev0.setSlave 1 Loop.HOLDOVER
       d.slave 1 = Loop.HOLDOVER ∧ d.clk.rootGated = false)
    ∧ (let d := withClk (fun c => { c with root := Loop.ACQUIRING, stepLoops := true }) dev0
       d.running = true ∧ d.clk.root = Loop.ACQUIRING ∧ d.clk.stepLoops = true
        ∧ d.get F.RS_STATUS_STATE ≠ Rs.LOOPS)
    ∧ (withClk (fun c => { c with root := Loop.FAILED }) dev0).clk.root = Loop.FAILED
    ∧ (let d := withClk (fun c => { c with stepLoops := true }) (dev0.setSlave 1 Loop.ACQUIRING)
       d.running = true ∧ d.silent (U.SLP 1) = false ∧ d.slave 1 = Loop.ACQUIRING ∧ d.clk.root = Loop.LOCKED
        ∧ d.clk.stepLoops = true ∧ d.rst.late.contains 1 = false)
    ∧ (let d := withClk (fun c => { c with epochDue := some 100 }) dev0
       d.board.mck = true ∧ d.clk.epochDue = some 100 ∧ d.get F.RS_STATUS_STATE ≠ Rs.LOOPS) := by decide +kernel

/-- A device in start-up at step 5, its reference starting. -/
def devOsc : Device :=
  (withClk (fun _ => { ClockState.off with osc := Osc.STARTING }) dev0).set F.RS_STATUS_STATE Rs.OSC

/-- The witnesses of StartUpToTheLoops. -/
theorem witness_StartUpToTheLoops :
    (let d := devOsc.set F.RS_STATUS_STATE Rs.OPTIONS
     d.running = true ∧ d.get F.RS_STATUS_STATE = Rs.OPTIONS ∧ d.ormBusy = false ∧ d.clk.osc ≠ Osc.STABLE)
    ∧ (devOsc.running = true ∧ devOsc.clk.osc = Osc.STARTING ∧ devOsc.get F.RS_STATUS_STATE = Rs.OSC
      ∧ devOsc.board.mck = true ∧ devOsc.get F.BG_STATUS_KEEP_LATCH = 0 ∧ devOsc.board.vccint = true ∧ devOsc.orm.entry = none)
    ∧ (dev0.running = true ∧ dev0.clk.osc = Osc.STABLE ∧ dev0.gaf.swapSet = [] ∧ dev0.ormBusy = false ∧ dev0.rst.oscStop = false
      ∧ dev0.clk.root = Loop.LOCKED ∧ dev0.get F.RS_STATUS_STATE ≠ Rs.OSC) := by decide +kernel

/-- Zone 27 of die 1, which borders no bank and no quad. -/
def z27 : ZoneId := ⟨0, 27⟩
/-- A flip-flop in ASYNC mode with SRVAL 1. -/
def asyncFf : FfCfg := { bypass := false, async := true, srval := true, init := false }
/-- An image whose cell 5 has ASYNC flip-flops and whose endpoint 2 is connected to endpoint 4 of zone 28. -/
def img27 : Image :=
  { Image.blank with cells := [(5, { cellUnused with ff0 := asyncFf, ff1 := asyncFf })],
                     routes := [(2, { dst := .zone 28 4, path := none })] }
/-- A device whose zone 27 runs that image past GRR, changed by `f`. -/
def dev27 (f : Zone → Zone) : Device :=
  (zoneIn 27 Zc.ROOT dev0).modZone 27 (fun z => f { z with img0 := img27, stage := .grr })

/-- A device whose zones 27 and 28 run images that join endpoint 2 of the one to endpoint 4 of the other, with one token on
its way. -/
def dev28 : Device :=
  (zoneIn 28 Zc.ROOT (dev27 (fun z => { z with outs := [(2, { OutEp.empty with flight := [7] })] }))).modZone 28
    (fun z => { z with img0 := { Image.blank with ins := [(4, .zone 27 2)] }, stage := .grr })
/-- A device whose zone 28 holds an offered token at that endpoint. -/
def devOffered : Device :=
  dev28.modZone 28 (fun z => { z with ins := [(4, { InEp.empty with buf := [7], offered := 1 })] })

/-- The witnesses of FabricCellsAndChannels. -/
theorem witness_FabricCellsAndChannels :
    (let d := dev27 id
     (d.zone z27.no).stage = .grr ∧ (lookupD cellUnused 5 (d.image z27.no).cells).ff1.async = true
      ∧ (lookupD cellUnused 5 (d.image z27.no).cells).ff0.async = true
      ∧ d.zoneEdges z27.no = true ∧ (d.route z27.no 2).isSome = true ∧ (d.zone z27.no).frozen = false
      ∧ d.endpointQueue z27.no 2 .channelOut = none ∧ (d.outEp z27.no 2).buf.length < 2
      ∧ d.oReady z27.no 3 = false ∧ d.endpointQueue z27.no 4 .channelIn = none ∧ (d.inEp z27.no 4).offered = 0)
    ∧ (let d := dev28
       d.route z27.no 2 = some { dst := .zone 28 4, path := none } ∧ (d.outEp z27.no 2).old = []
        ∧ (d.outEp z27.no 2).flight = 7 :: [] ∧ d.endpointQueue z27.no 2 .channelOut = none
        ∧ d.joined z27.no 2 (z27.no / 64 * 64 + 28) 4 = true ∧ d.fenced (z27.no / 64 + 1) = false ∧ d.dormant = false
        ∧ d.board.vccint = true ∧ (d.zone (z27.no / 64 * 64 + 28)).frozen = false ∧ (d.inEp 28 4).stale = []
        ∧ d.endpointQueue 28 4 .channelIn = none ∧ (d.inEp 28 4).buf.length < 4)
    ∧ (devOffered.zoneEdges 28 = true ∧ (devOffered.zone 28).stage = .grr ∧ devOffered.inUsed 28 4 = true
      ∧ devOffered.endpointQueue 28 4 .channelIn = none ∧ 0 < (devOffered.inEp 28 4).offered)
    ∧ (dev0.fenced 1 = false ∧ dev0.board.vccint = true ∧ dev0.clk.osc = Osc.STABLE ∧ dev0.refusalsFull 1 = false)
    ∧ (withClk (fun c => { c with osc := Osc.FAILED }) dev0).clk.osc ≠ Osc.STABLE := by decide +kernel

/-- The witnesses of ZoneClockEdge. -/
theorem witness_ZoneClockEdge :
    (let d := dev27 id
     d.zoneEdges z27.no = true ∧ (d.zone z27.no).stage = .grr ∧ (d.image z27.no).mems = []
      ∧ (d.image z27.no).slices = [] ∧ d.zoneBank z27.no = none ∧ zoneQuads z27.no = []
      ∧ d.get F.PW_STATUS_PHASE = 0 ∧ d.atStep z27.no 3 = false ∧ d.atStep z27.no 5 = false)
    ∧ ((dev27 (fun z => { z with stage := .gwe })).zoneEdges z27.no = true
      ∧ ((dev27 (fun z => { z with stage := .gwe })).zone z27.no).stage ≠ .grr
      ∧ (dev27 (fun z => { z with stage := .gwe })).atStep z27.no 3 = false
      ∧ (dev27 (fun z => { z with stage := .gwe })).atStep z27.no 5 = false)
    ∧ dev0.zoneEdges z27.no = false := by decide +kernel

/-- A memory of one shape without ECC, both ports in NO_CHANGE. -/
def mem72 : MemCfg := { MemCfg.unused with shapeA := .s72, shapeB := .s72, modeA := .noChange, modeB := .noChange }
/-- A device whose zone 27 has memory 3 configured so. -/
def devMem (c : MemCfg) : Device := dev27 (fun z => { z with img0 := { z.img0 with mems := [(3, c)] } })
/-- A read of word 9. -/
def rd9 : BmAccess := { write := false, addr := 9, data := 0, lanes := 255, poison := false }
/-- A write of word 9. -/
def wr9 : BmAccess := { rd9 with write := true, data := 0x123 }
/-- A state with row 9 of memory 3 of zone 27 holding a codeword with bits flipped. -/
def stRow (c : MemCfg) (flip : Code72) : State :=
  { st (devMem c) with mem := { State.reset.mem with bm := [(bmAddr 27 3 9, cwToRow (eccEncode 77 ^^^ flip))] } }

/-- The witnesses of BlockMemoryPorts. -/
theorem witness_BlockMemoryPorts :
    ((devMem mem72).zoneEdges z27.no = true ∧ (devMem mem72).writesOn z27.no = true ∧ rd9.write = false
      ∧ wr9.write = true ∧ (devMem mem72).running = true ∧ (devMem mem72).silent (zoneUnit z27.no) = false
      ∧ ((devMem mem72).memCfg z27.no 3).queue = .none ∧ ((devMem mem72).memCfg z27.no 3).ecc = false
      ∧ ((devMem mem72).memCfg z27.no 3).outRegA = false ∧ ((devMem mem72).memCfg z27.no 3).modeA = .noChange
      ∧ ((devMem mem72).memCfg z27.no 3).lent = false ∧ ((devMem mem72).memCfg z27.no 3).modeB = .noChange ∧ ((devMem mem72).memCfg z27.no 3).portBFree = true
      ∧ ((devMem mem72).memCfg z27.no 3).shape false = .s72 ∧ wr9.lanes = 255)
    ∧ (((devMem { mem72 with ecc := true }).memCfg z27.no 3).ecc = true
      ∧ (eccDecode (rowToCw ((stRow mem72 1).mem.row (bmAddr z27.no 3 (wordRow .s72 rd9.addr.toNat))))).2 = .corrected
      ∧ (eccDecode (rowToCw ((stRow mem72 3).mem.row (bmAddr z27.no 3 (wordRow .s72 rd9.addr.toNat))))).2
          = .uncorrectable)
    ∧ (dev0.writesOn z27.no = false
      ∧ ((devMem { mem72 with lent := true }).memCfg z27.no 3).portBFree = false)
    ∧ (((devMem { mem72 with ecc := true }).wr (eccBlock (zoneUnit 27)) 3).wr (eccBlock (zoneUnit 27) + 0x1C) 1).flipArmed
        (zoneUnit z27.no) 3 = true := by decide +kernel

/-- A queue of 512 words in memory 3. -/
def queue72 : MemCfg := { mem72 with queue := .sync }

/-- The witnesses of QueuesAndEccTest. -/
theorem witness_QueuesAndEccTest :
    ((devMem queue72).zoneEdges z27.no = true ∧ (devMem queue72).writesOn z27.no = true
      ∧ ((devMem queue72).memCfg z27.no 3).queue = .sync ∧ ((devMem queue72).memCfg z27.no 3).ecc = false
      ∧ ((devMem queue72).memCfg z27.no 3).fwft = false ∧ ((devMem queue72).queue z27.no 3).vis = 0
      ∧ ((devMem queue72).queue z27.no 3).vis < ((devMem queue72).memCfg z27.no 3).depth)
    ∧ (let d := (devMem queue72).setQueue 27 3 { QueueState.empty with vis := 512 }
       (d.memCfg z27.no 3).depth ≤ (d.queue z27.no 3).vis)
    ∧ (let d := (devMem queue72).set (F.ZN_QC_SEL_QUEUE (zoneUnit 27)) 3
       d.refusalsFull z27.die.no = false ∧ (d.memCfg z27.no (d.get (F.ZN_QC_SEL_QUEUE z27.unit))).depth = 512
        ∧ (d.queue z27.no (d.get (F.ZN_QC_SEL_QUEUE z27.unit))).pair ≠ (1, 513)
        ∧ (d.queue z27.no (d.get (F.ZN_QC_SEL_QUEUE z27.unit))).pair ≠ (5, 5)
        ∧ (d.image z27.no).mems.map (·.1) = [3] ∧ (d.memCfg z27.no 3).isQueue = true)
    ∧ (dev0.board.mck = true ∧ dev0.fenced (unitDie (zoneUnit z27.no)) = false
      ∧ dev0.refusalsFull (unitDie (zoneUnit z27.no)) = false ∧ dev0.eccMode (eccUnit (.zone z27)) = false)
    ∧ ((devMem { mem72 with ecc := true }).set (⟨eccBlock (zoneUnit 27), 5, 0⟩) 3).eccMode (eccUnit (.zone z27)) = true := by
  decide +kernel

/-- A read of 16 bytes at offset 0 of stop 0 of a die. -/
def readOf (die cls : Nat) : Request :=
  { cmd := 1, cls := Fin.ofNat 4 cls, addr := BitVec.ofNat 48 (die * 2 ^ 45), len := 1, be := 0xFFFF, data := [] }
/-- A device whose stream mover's port holds a read of die 1. -/
def devPort : Device := dev0.setInit 24 { InitState.idle with port := [portReq (readOf 1 1) 0], nextSeq := 1 }
/-- A packet of the P-die's stop 24 to its stop 16, some positions before its destination's. -/
def hopping : Packet := mkPacket 24 36 false 1 5 1 1 0 0xFFFF 0 []
/-- The node where that packet stands. -/
def hopNode : RingNode := { ring := 0, pos := 12, ccw := false, resp := false }
/-- A device with one packet there. -/
def devHop (p : Packet) : Device := dev0.setNode (nodeOf hopNode) [p]

/-- An event for the event stop. -/
def evtReq : PortReq :=
  { seq := 0, cmd := Cmd.EVT, cls := 0, addr := 37 * 2 ^ 38, len := 1, be := 0xFFFF,
    data := [{ val := 0, poison := false, corrected := false }], who := 0 }
/-- A device whose stream mover's port holds an event. -/
def devEvt : Device := dev0.setInit 24 { InitState.idle with port := [evtReq], nextSeq := 1 }
/-- The node one hop before that packet's destination. -/
def lastNode : RingNode := { hopNode with pos := 17 }
/-- A packet of die 1 to the P-die, at the bridge end of the die. -/
def crossPacket : Packet := mkPacket 128 36 false 1 5 1 1 0 0xFFFF 0 []
/-- A node from which that packet crosses the bridge. -/
def crossNode : RingNode := { ring := 1, pos := 64, ccw := false, resp := false }
/-- A device with a request in the input buffer of stop 16 of the P-die. -/
def devInq : Device := dev0.setTarget 36 { TargetState.idle with inq := [(false, hopping)] }

/-- The witnesses of RequestsEnterAndTravel. -/
theorem witness_RequestsEnterAndTravel :
    (dev0.portRuns Initiator.smv.key = true ∧ (dev0.init Initiator.smv.key).fence = none
      ∧ (readOf 1 1).cmd.toNat ≠ Cmd.FENCE ∧ (readOf 1 1).cmd.toNat = Cmd.RD
      ∧ dev0.issueCheck Initiator.smv.key (portReq (readOf 1 1) 0) = none
      ∧ dev0.issueCheck Initiator.smv.key (portReq (readOf 6 1) 0) = some 1)
    ∧ ((dev0.setInit 24 { InitState.idle with fence := some { seq := 0, status := 0 } }).init
        Initiator.smv.key).fence.isSome = true
    ∧ (Initiator.smv.key ≤ 640 ∧ devPort.mayLaunch Initiator.smv.key = true
      ∧ (devPort.init Initiator.smv.key).pick = some (portReq (readOf 1 1) 0)
      ∧ (portReq (readOf 1 1) 0).cmd ≠ Cmd.EVT ∧ (portReq (readOf 1 1) 0).cmd < 16
      ∧ ((devPort.init Initiator.smv.key).without (portReq (readOf 1 1) 0)).pickTag 1024
          (devPort.init Initiator.smv.key).nextTag = some 0
      ∧ (launchPacket Initiator.smv.key (portReq (readOf 1 1) 0) 0 false).arrived
          (sourceNode Initiator.smv.key (addrKey (portReq (readOf 1 1) 0).addr / 128)).1
          (sourceNode Initiator.smv.key (addrKey (portReq (readOf 1 1) 0).addr / 128)).2 = false)
    ∧ (devEvt.mayLaunch Initiator.smv.key = true ∧ (devEvt.init Initiator.smv.key).pick = some evtReq
      ∧ evtReq.cmd = Cmd.EVT
      ∧ (launchPacket Initiator.smv.key evtReq 0 false).arrived (sourceNode Initiator.smv.key (addrKey evtReq.addr / 128)).1
          (sourceNode Initiator.smv.key (addrKey evtReq.addr / 128)).2 = false)
    ∧ (Initiator.mlink ≠ .smv ∧ (dev0.init Initiator.mlink.key).pick = none) := by decide +kernel

/-- The witnesses of RequestsEnterAndTravel, where packets travel and are taken. -/
theorem witness_RequestsEnterAndTravel_carried :
    (let p := hopping;
       (devHop p).node (nodeOf hopNode) = p :: [] ∧ p.arrived 0 12 = false ∧ p.crossing 0 12 = none
        ∧ p.hopped.sound = true ∧ p.hopped.arrived (nextNode hopNode p).1 (nextNode hopNode p).2.1 = false
        ∧ p.hopped.hops ≠ 0 ∧ p.hopped.isResp = hopNode.resp ∧ nextKey hopNode p ≠ nodeOf hopNode
        ∧ (nextNode hopNode p).1 = hopNode.ring.val ∧ (devHop p).running = true
        ∧ (devHop p).silent (stopUnit (stopAt 0 (nextNode hopNode p).2.1)) = false
        ∧ ({ p.hopped with hdr := p.hopped.hdr ^^^ 1 } : Packet).sound = false)
    ∧ (let p := hopping;
       let d := dev0.setNode (nodeOf lastNode) [p];
       d.node (nodeOf lastNode) = p :: [] ∧ p.arrived 0 17 = false ∧ p.crossing 0 17 = none ∧ p.hopped.sound = true
        ∧ p.hopped.arrived (nextNode lastNode p).1 (nextNode lastNode p).2.1 = true ∧ p.hopped.isResp = false
        ∧ nextKey lastNode p ≠ nodeOf lastNode ∧ d.node (nextKey lastNode p) = []
        ∧ (d.target p.hopped.dst).iso = 0 ∧ (d.target p.hopped.dst).inq.length < 4)
    ∧ (let p := hopping.withHops 1;
       p.arrived 0 12 = false ∧ p.crossing 0 12 = none ∧ p.hopped.sound = true ∧ p.hopped.hops = 0
        ∧ p.hopped.arrived (nextNode hopNode p).1 (nextNode hopNode p).2.1 = false)
    ∧ (let d := (Device.reset.setNode (nodeOf crossNode) [crossPacket])
       d.node (nodeOf crossNode) = crossPacket :: [] ∧ crossPacket.crossing 1 64 = some (1, false)
        ∧ d.cutOff 1 = false ∧ d.bridgeOpen 1 = false)
    ∧ (let t : StopId := ⟨0, 36⟩
       stopExists t.die.val t.stop.val = true ∧ devInq.nextTaken t.key = some (false, hopping)
        ∧ devInq.noneStalled t.key = true ∧ (devInq.target t.key).finished hopping = false
        ∧ (devInq.target t.key).taken = [] ∧ dev0.nextTaken t.key = none) := by decide +kernel

/-- A request packet of one data unit or of none. -/
def reqTo (src dst cmd cls off be : Nat) (data : List DataUnit) : Packet :=
  mkPacket src dst false cmd 5 cls 1 0 be (dst / 128 * 2 ^ 45 + dst % 128 * 2 ^ 38 + off) data
/-- A data unit of a value. -/
def unitOf (v : Nat) : DataUnit := { val := BitVec.ofNat 128 v, poison := false, corrected := false }
/-- A device whose stop `t` has taken one request. -/
def devTook (t : StopId) (p : Packet) (d : Device) : Device :=
  d.setTarget t.key { TargetState.idle with taken := [p] }
/-- Stop 27 of die 1. -/
def stop27 : StopId := ⟨1, 27⟩
/-- The reply of a zone's logic to a read of one unit. -/
def oneUnit : PortReply := { status := .ok, data := [unitOf 9], words := 0 }
/-- A CFG packet of stop 96 to frame 0 of plane 0 of zone 27. -/
def cfg27 : Packet :=
  mkPacket (stopKey 1 96) stop27.key false 9 5 1 10 0 0xFFFF (2 ^ 45 + 27 * 2 ^ 38 + 0x2000000)
    ((List.range 10).map unitOf)

/-- The witnesses of TargetsServe. -/
theorem witness_TargetsServe :
    (let p := reqTo 24 stop27.key 1 1 (2 ^ 32) 0xFFFF []
     let d := devTook stop27 p (dev27 id)
     d.canServe stop27 0 p = true ∧ isZoneKey stop27.key = true ∧ p.malformed = false ∧ 2 ^ 32 ≤ p.off
      ∧ d.logicRuns (keyZone stop27.key) = true ∧ oneUnit.data.length = p.answerLen ∧ p.cmd = Cmd.RD)
    ∧ (let p := reqTo 24 33 1 1 0 0x00FF []
       let t : StopId := ⟨0, 33⟩
       (devTook t p dev0).canServe t 0 p = true ∧ t.key < 128 ∧ p.cmd = Cmd.RD ∧ p.malformed = false
        ∧ windowUnit t.key p.off = some (stopUnit 33) ∧ p.wholeWords = true ∧ 23 < t.key
        ∧ (List.range (4 * p.len)).all (fun w => !p.coversWord w || (windowReg t.key (p.off + 4 * w)).isSome) = true)
    ∧ (let p := reqTo 24 0 2 1 0x60 0x000F [unitOf 9]
       let t : StopId := ⟨0, 0⟩
       (devTook t p dev0).canServe t 0 p = true ∧ t.key = 0 ∧ p.cmd = Cmd.WR ∧ p.malformed = false ∧ p.src ≠ 1
        ∧ dev0.refusalsFull 0 = false ∧ windowUnit t.key p.off = some 0 ∧ p.wholeWords = true
        ∧ (List.range (4 * p.len)).all (fun w => !p.coversWord w || (windowReg t.key (p.off + 4 * w)).isSome) = true)
    ∧ (let p := reqTo 24 33 1 1 8 0xFFFF []
       (devTook ⟨0, 33⟩ p dev0).canServe ⟨0, 33⟩ 0 p = true ∧ p.cmd = Cmd.RD ∧ p.malformed = true) := by
  decide +kernel

/-- The witnesses of its CFG, EVT, pool and token clauses. -/
theorem witness_TargetsServe_stores :
    ((devTook stop27 cfg27 (dev27 id)).canServe stop27 0 cfg27 = true ∧ cfg27.cmd = Cmd.CFG ∧ cfg27.malformed = false
      ∧ cfg27.src = stopKey (keyZone stop27.key / 64 + 1) 96 ∧ 0x2000000 ≤ cfg27.off ∧ cfg27.off < 0x3000000
      ∧ cfg27.off % 256 = 0
      ∧ cfg27.off % 2 ^ 24 / 256 / 16 % 2048 < frameCount (cfg27.off % 2 ^ 24 / 256 % 16))
    ∧ (let p := reqTo 6 stop27.key 8 3 0x20 0xFFFF [unitOf 9]
       let d := devTook stop27 p (dev27 id)
       d.canServe stop27 0 p = true ∧ p.cmd = Cmd.EVT ∧ p.malformed = false ∧ p.data = [unitOf 9]
        ∧ (d.zone (keyZone stop27.key)).events.length < 8 ∧ d.zoneActive (keyZone stop27.key) = true)
    ∧ (let p := reqTo 24 17 2 1 (2 ^ 32) 0xFFFF [unitOf (2 ^ 70 + 9)]
       let d := devTook ⟨0, 17⟩ p dev0
       d.canServe ⟨0, 17⟩ 0 p = true ∧ p.src ≠ p.dst ∧ p.malformed = false ∧ p.be = 0xFFFF ∧ poolBank p.addr = some 4
        ∧ d.poolRaw (4 * 2 ^ 18 + p.addr % 2 ^ 21 / 8) false = false ∧ d.flipArmed (U.PL 1) 0 = false ∧ p.cmd = Cmd.WR
        ∧ oneUnit.words = 0 ∧ (d.target 17).parts = [] ∧ d.ringCompute p = false)
    ∧ (let p := reqTo 24 17 2 1 (2 ^ 32) 0xFFFF [unitOf (2 ^ 70 + 9)]
       let t : StopId := ⟨0, 17⟩
       let d := dev0.setTarget 17 { TargetState.idle with
         taken := [p], parts := [{ req := p, done := 1, data := [], status := 0 }] }
       d.canServe t 0 p = true ∧ (d.target 17).parts = [{ req := p, done := 1, data := [], status := 0 }])
    ∧ (let p := reqTo 24 17 4 1 (2 ^ 32) 0x00FF [unitOf 9]
       (devTook ⟨0, 17⟩ p dev0).canServe ⟨0, 17⟩ 0 p = true ∧ p.malformed = false ∧ p.cmd = Cmd.AADD ∧ p.be = 0x00FF
        ∧ (eccDecode ((st dev0).mem.poolRd (4 * 2 ^ 18 + p.addr % 2 ^ 21 / 8))).2 = .good)
    ∧ (let p := reqTo 35 stop27.key 2 1 0xF00 0x00FF [unitOf 9]
       let d := devTook stop27 p (dev27 id)
       (d.target (zoneStop z27.no)).taken = [p] ∧ p.injects = true ∧ p.cmd = Cmd.WR ∧ p.malformed = false ∧ p.src = 35
        ∧ p.len = 1 ∧ p.off = 0xF00 ∧ (p.word 0).2 = false ∧ (p.word 1).2 = false
        ∧ (d.target (zoneStop z27.no)).finished p = false ∧ (d.zone z27.no).stage ≠ .none
        ∧ d.refusalsFull z27.die.no = false ∧ d.inUsed z27.no 0 = false
        ∧ d.endpointQueue z27.no 0 .channelIn = none ∧ (d.inEp z27.no 0).buf.length < 4
        ∧ (d.zone z27.no).frozen = false ∧ (d.inEp z27.no 0).stale = []) := by
  decide +kernel

/-- An outstanding request of a device's stream mover: a read of class `cls`, with its answer or none. -/
def outRd (seq cls : Nat) (resp : Option (Nat × Nat × List DataUnit)) : Outst :=
  { seq := seq, tag := some seq, cmd := Cmd.RD, cls := cls, addr := 0, resp := resp, expired := false,
    abandoned := false, held := false, who := 3 }
/-- An outstanding posted write. -/
def outWr (seq : Nat) : Outst := { outRd seq 1 none with cmd := Cmd.WR }
/-- A response packet to stop 24 with a tag. -/
def respTo (cmd tag status : Nat) (data : List DataUnit) : Packet :=
  mkPacket 0 24 false cmd tag 1 0 status 0xFFFF 0 data
/-- A device whose stop 24 has these outstanding requests and this intake. -/
def devOut (out : List Outst) (rx : List Packet) : Device :=
  dev0.setInit 24 { InitState.idle with out := out, rx := rx, nextSeq := 9 }

/-- The witnesses of ResponsesAndTimeouts. -/
theorem witness_ResponsesAndTimeouts :
    (let p := { respTo Cmd.RDR 5 0 [unitOf 9] with hdr := (mkPacket 0 24 false Cmd.RDR 5 1 1 0 0xFFFF 0 [unitOf 9]).hdr }
     let d := devOut [outRd 5 1 none] [p]
     p.cmd = Cmd.RDR ∧ p.respMalformed = false ∧ (d.init Initiator.smv.key).matching p.tag = some (outRd 5 1 none)
      ∧ cmdPosted (outRd 5 1 none).cmd = false ∧ p.data.any (·.poison) = false
      ∧ (d.init Initiator.smv.key).fence = none
      ∧ ((devOut [] [p]).init Initiator.smv.key).matching p.tag = none)
    ∧ (let p := respTo Cmd.WRR 5 0 []
       let d := devOut [outWr 5] [p]
       p.cmd = Cmd.WRR ∧ p.respMalformed = false ∧ (d.init 24).matching p.tag = some (outWr 5) ∧ p.status = 0
        ∧ cmdPosted (outWr 5).cmd = true)
    ∧ (let p := mkPacket 0 36 false Cmd.WRR 5 1 0 3 0xFFFF 0 []
       let d := dev0.setInit 36 { InitState.idle with out := [outWr 5], rx := [p] }
       p.cmd = Cmd.WRR ∧ p.respMalformed = false ∧ (d.init Initiator.gaf.key).matching p.tag = some (outWr 5) ∧ p.status ≠ 0)
    ∧ (let o := outRd 5 1 (some (0, 0, [unitOf 9]))
       let d := devOut [o] []
       (d.init 24).toDeliver = some o ∧ (d.init 24).failFor o = none ∧ isZoneKey 24 = false)
    ∧ (let o := { outRd 5 1 (some (0, 0, [unitOf 9])) with abandoned := true }
       ((devOut [o] []).init 24).toDeliver = some o)
    ∧ (let o := outRd 5 0 (some (0, 0, [unitOf 9]))
       let d := devOut [outRd 4 0 none, o] []
       d.running = true ∧ d.silent (initUnit 24) = false ∧ (d.init 24).out[1]? = some o
        ∧ (d.init 24).deliverable o = false ∧ (d.init 24).matching 4 = some (outRd 4 0 none))
    ∧ (let d := dev0.setInit 24 { InitState.idle with out := [outRd 4 1 none], fence := some { seq := 9, status := 2 } }
       (d.init 24).fence = some { seq := 9, status := 2 } ∧ (d.init 24).answeredBefore 9 = false
        ∧ (d.init 24).held = [])
    ∧ (let d := dev0.setInit 24 { InitState.idle with fence := some { seq := 9, status := 2 } }
       (d.init 24).fence = some { seq := 9, status := 2 } ∧ (d.init 24).answeredBefore 9 = true) := by decide +kernel

/-- The witnesses of its clauses on a poisoned read of MLINK and on a posted write that times out. -/
theorem witness_ResponsesAndTimeouts_failures :
    (let o := outRd 5 1 (some (0, 4, []))
     let d := dev0.setInit 1 { InitState.idle with out := [o] }
     d.running = true ∧ d.silent U.HL = false ∧ (d.init 1).toDeliver = some o ∧ o.resp = some (0, 4, [])
      ∧ o.abandoned = false ∧ (d.init 1).failFor o = none ∧ o.cmd = Cmd.RD)
    ∧ ((devOut [outWr 5] []).running = true ∧ (devOut [outWr 5] []).silent (initUnit Initiator.smv.key) = false
      ∧ ((devOut [outWr 5] []).init Initiator.smv.key).matching 5 = some (outWr 5)
      ∧ cmdPosted (outWr 5).cmd = true) := by decide +kernel

/-- A device whose stop 17 is isolated with a cause. -/
def devIso (cause : Nat) : Device :=
  (dev0.set (F.DR_ISO_SEL_STOP (ringUnit 0)) 17).setTarget (stopKey 0 17) { TargetState.idle with iso := cause }

/-- The witnesses of TargetIsolation. -/
theorem witness_TargetIsolation :
    (let d := dev0.setTarget 17 { TargetState.idle with inq := [(false, mkPacket 24 17 false 1 5 1 1 0 0xFFFF 0x10000 [])] }
     let t : StopId := ⟨0, 17⟩
     d.running = true ∧ stopExists t.die.val t.stop.val = true ∧ d.silent (stopUnit t.key) = false
      ∧ (d.target t.key).iso = 0 ∧ (d.target t.key).inq.any (fun e => covered 4 e.2) = true)
    ∧ ((devIso 4).refusalsFull 0 = false ∧ (devIso 4).fenced 0 = false
      ∧ ((devIso 4).target (stopKey 0 ((devIso 4).get (F.DR_ISO_SEL_STOP (ringUnit 0))))).iso = 4
      ∧ (devIso 4).blockEnabled (stopKey 0 ((devIso 4).get (F.DR_ISO_SEL_STOP (ringUnit 0)))) = true
      ∧ ((devIso 2).target (stopKey 0 ((devIso 2).get (F.DR_ISO_SEL_STOP (ringUnit 0))))).iso = 2
      ∧ (dev0.target (stopKey 0 (dev0.get (F.DR_ISO_SEL_STOP (ringUnit 0))))).iso = 0)
    ∧ (let d := ((devIso 4).set F.RS_STATUS_DIE_FENCED 15).setTarget (stopKey 1 0) { TargetState.idle with iso := 3 }
       d.refusalsFull 1 = false ∧ d.fenced 1 = true
        ∧ (d.target (stopKey 1 (d.get (F.DR_ISO_SEL_STOP (ringUnit 1))))).iso ≠ 0) := by decide +kernel

/-- A device whose zone 27 is at step 1 of a reset. -/
def devReset (force : Nat) : Device :=
  (dev27 id).setAll [(F.ZN_RESET_STATUS_STEP (zoneUnit 27), 1), (F.ZN_RESET_CTL_FORCE (zoneUnit 27), force),
    (F.ZN_RESET_CTL_GO (zoneUnit 27), 1)]
/-- A device whose zone 27 waits at step 3 of a reset. -/
def devReset3 : Device :=
  ((dev27 id).set (F.ZN_RESET_STATUS_STEP (zoneUnit 27)) 3).setTarget (zoneStop 27)
    { TargetState.idle with iso := 1, drain := true }

/-- The witnesses of ResetOfOneZone. -/
theorem witness_ResetOfOneZone :
    ((dev27 id).refusalsFull z27.die.no = false ∧ (dev27 id).resetRefusal z27.no = none
      ∧ dev0.resetRefusal z27.no = some .busy)
    ∧ ((devReset 0).running = true ∧ (devReset 0).silent (zoneUnit z27.no) = false
      ∧ (devReset 0).get (F.ZN_RESET_STATUS_STEP (zoneUnit z27.no)) = 1 ∧ (devReset 0).zoneDrained z27.no = true
      ∧ (devReset 0).calmZone z27.no = true ∧ (devReset 0).clockRuns z27.no = true
      ∧ (devReset 0).fenced z27.die.no = false ∧ (devReset 0).get (F.ZN_RESET_CTL_FORCE (zoneUnit z27.no)) = 0)
    ∧ ((devReset 1).get (F.ZN_RESET_CTL_FORCE (zoneUnit z27.no)) = 1
      ∧ ((devReset 1).setZcState 27 Zc.GATED).clockRuns z27.no = false
      ∧ ((devReset 1).setZcState 27 Zc.GATED).calmZone z27.no = true)
    ∧ ((dev27 id).setInit (zoneStop 27) { InitState.idle with out := [outRd 4 0 none] }).zoneDrained z27.no = false
    ∧ (devReset3.get (F.ZN_RESET_STATUS_STEP (zoneUnit z27.no)) = 3 ∧ devReset3.clockRuns z27.no = true
      ∧ devReset3.fenced z27.die.no = false ∧ (devReset3.target (zoneStop z27.no)).iso = 1
      ∧ devReset3.anchored z27.no = false ∧ devReset3.zoneBank z27.no = none
      ∧ (devReset3.init (zoneStop z27.no)).port = [] ∧ (devReset3.init (zoneStop z27.no)).held = []) := by
  decide +kernel

/-- A record of a unit of die 1. -/
def rec1 : Record :=
  { mt := 0, addr := 0, tag := 0, cls := 0, status := 0, addrValid := false, unit := 512, peer := noPeer, kind := 3,
    rep := 0 }
/-- A device whose die 1, its bridge up, holds two Cullet records. -/
def devRec : Device :=
  let d := dev0.set (F.BR_STATUS_STATE (U.BR 1)) Br.UP
  { d with cul := { d.cul with buffers := [(1, [rec1, rec1])] } }
/-- A refusal record of a unit of die 1. -/
def refusal1 : RefusalRec := { unit := 512, reason := Reason.busy.code, index := 3 }
/-- A device whose die 1 holds it. -/
def devRefusal : Device := { devRec with refusals := { devRec.refusals with queues := [(1, [refusal1])] } }

/-- The witnesses of CulletAndRefusalRecords. -/
theorem witness_CulletAndRefusalRecords :
    (devRec.culletBuffer 1 = rec1 :: [rec1] ∧ devRec.forwards 1 = true ∧ devRec.refusalQueue 1 = []
      ∧ devRec.cul.newest = none ∧ dev0.forwards 1 = false)
    ∧ (let d := { devRec with cul := { devRec.cul with newest := some 0, log := [(0, some rec1)] } }
       d.culletBuffer 1 = rec1 :: [rec1] ∧ d.cul.newest = some 0 ∧ Tab.get (fun _ => none) d.cul.log 0 = some rec1)
    ∧ (devRefusal.refusalQueue 1 = refusal1 :: [] ∧ devRefusal.forwards 1 = true ∧ devRefusal.board.mck = true
      ∧ devRefusal.refusals.checks = [] ∧ refusal1.formed = true ∧ devRefusal.silent refusal1.unit = false) := by
  decide +kernel

/-- The CRC of a frame. -/
def crcOf (cmd addr count : Nat) (p : List Byte) : BitVec 16 := BitVec.ofNat 16 (crc16 (frameHead cmd addr count p))

/-- The witnesses of FramesAndReplies. -/
theorem witness_FramesAndReplies :
    (dev0.hears 0x00 0 0 [] (crcOf 0 0 0 []) = true ∧ dev0.hears 0x01 0 4 [] (crcOf 1 0 4 []) = true
      ∧ mlReg 0 = true ∧ dev0.readReg 0 = some (0x5A5240B0, dev0) ∧ mlCount 6 = false
      ∧ mlReg 2 = false ∧ mlOrm 2 = false ∧ dev0.hears 0x20 0 8 [] (crcOf 0x20 0 8 []) = true
      ∧ dev0.hears 0x21 0 16 [] (crcOf 0x21 0 16 []) = true ∧ dev0.hears 0x21 1 16 [] (crcOf 0x21 1 16 []) = true
      ∧ mlCodes.contains 0x30 = false ∧ dev0.hears 0x30 0 0 [] (crcOf 0x30 0 0 []) = true
      ∧ crc16 (frameHead 0x01 0 4 []) ≠ 0 ∧ dev0.rst.served = true ∧ dev0.ml.access = none ∧ dev0.rst.cmdReset = false)
    ∧ (dev0.hears 0x02 0x1004 4 [0, 1, 0xFF, 0xFF] (crcOf 2 0x1004 4 [0, 1, 0xFF, 0xFF]) = true
      ∧ beNat [0, 1, 0xFF, 0xFF] < 2 ^ 17 ∧ mlReg 0x1004 = true
      ∧ (dev0.regWrite State.reset.mem 1 0x1004 0x1FFFF).isSome = true
      ∧ (match dev0.regWrite State.reset.mem 1 F.RS_CMD_DEVICE.key 0xC3000001 with
          | some ((d1, _), _) => d1.rst.cmdReset
          | none => false) = true)
    ∧ Device.reset.rst.served = false := by decide +kernel

/-- An access of MLINK under way. -/
def access1 : LinkAccess := { write := false, addr := 0x80000004, count := 4, words := [], waiting := false }
/-- A device with it. -/
def devAccess : Device := { dev0 with ml := { access := some access1, reply := [], rose := none } }

/-- The witnesses of RingWindow. -/
theorem witness_RingWindow :
    (dev0.hears 0x11 0x80000004 4 [] (crcOf 0x11 0x80000004 4 []) = true ∧ ringAccessStatus 0x80000004 4 = none ∧ dev0.abandonPending = false
      ∧ (dev0.init 1).fence = none ∧ dev0.get F.HL_WIN_BASE_BASE < 640
      ∧ stopExists (dev0.windowAddr 0x80000004 / 2 ^ 45) (dev0.windowAddr 0x80000004 / 2 ^ 38 % 128) = true
      ∧ dev0.fenced (dev0.windowAddr 0x80000004 / 2 ^ 45) = false
      ∧ payloadFormed 4 [1, 2, 3, 4] = true ∧ dev0.hears 0x12 0x80000004 4 [1, 2, 3, 4] (crcOf 0x12 0x80000004 4 [1, 2, 3, 4]) = true
      ∧ ringAccessStatus 4 4 = some Ml.ADDR_INVALID ∧ dev0.hears 0x11 4 4 [] (crcOf 0x11 4 4 []) = true)
    ∧ (let d := dev0.setInit 1 { InitState.idle with out := [{ outRd 4 3 none with abandoned := true }] }
       d.abandonPending = true ∧ d.hears 0x11 0x80000004 4 [] (crcOf 0x11 0x80000004 4 []) = true)
    ∧ (let v : Delivered := { cmd := Cmd.RDR, cls := 3, status := 0, addr := 0, data := [unitOf 9], who := 0 }
       (devAccess.setInit 1 { InitState.idle with inbox := [v] }).ml.access = some access1
        ∧ ((devAccess.setInit 1 { InitState.idle with inbox := [v] }).init 1).inbox = v :: [] ∧ devAccess.board.mck = true
        ∧ devAccess.rst.cmdReset = false)
    ∧ ((devAccess.init 1).inbox = [] ∧ access1.waiting = false ∧ dev0.ml.access = none) := by decide +kernel

/-- A device whose detector of a lost MCK is armed and whose watchdog runs with one tick left. -/
def devArmed : Device :=
  (withOpt (fun o => { o with wdogOn := true }) dev0).setAll [(F.MG_MCK_LOSS_CTL_EN, 1), (F.RS_WDOG_LEFT_TICKS, 1),
    (F.MG_MCK_HZ_HZ, 10000000)]

/-- The witnesses of HostClock. -/
theorem witness_HostClock :
    (devArmed.board.mck = true ∧ devArmed.wdogOn = true ∧ devArmed.get F.RS_WDOG_LEFT_TICKS ≠ 0
      ∧ devArmed.get F.PW_STATUS_PHASE = 0 ∧ devArmed.mckArmed = true ∧ dev0.wdogOn = false ∧ dev0.mckArmed = false
      ∧ devArmed.clk.osc = Osc.STABLE ∧ devArmed.rst.por = false
      ∧ 9 * devArmed.get F.MG_MCK_HZ_HZ ≤ 10000 * 9000 ∧ 10000 * 11000 ≤ 11 * devArmed.get F.MG_MCK_HZ_HZ
      ∧ 10000 * 8999 < 9 * devArmed.get F.MG_MCK_HZ_HZ)
    ∧ ((withBoard (fun b => { b with mck := false }) Device.reset).board.mck = false ∧ Device.reset.rst.por = true)
    ∧ (let d := withRst (fun r => { r with startPending := true, rstActive := true })
         (withBoard (fun b => { b with mck := false }) dev0)
       d.board.mck = false ∧ d.rst.por = false ∧ d.rst.startPending = true ∧ d.rst.rstActive = true
        ∧ d.ev.waiting = [] ∧ d.refusals.waiting = [] ∧ d.rst.latchWait = [] ∧ d.ml.rose = none
        ∧ d.tap.denied = false) := by decide +kernel

/-- A device whose counter 1 has one valid cell, sequence 3 and value 9, and one increment waiting. -/
def devLife : Device :=
  let b := beBytes 3 3 ++ beBytes 4 9
  let d := dev0.setPage 11 { OrmPage.blank with
    groups := groupOf (b.map BitVec.toNat ++ [crc8 b]) :: List.replicate 7 (BitVec.allOnes 72), cell := 2 }
  d.lifeAdd 1 1

/-- The witnesses of PageCommitsAndCounters. -/
theorem witness_PageCommitsAndCounters :
    (dev0.board.mck = true ∧ dev0.commitRefusal 255 = none ∧ dev0.commitRefusal 8 = some .ormPageProtected
      ∧ dev0.clk.osc = Osc.STABLE ∧ dev0.get F.ORM_STATUS_BUSY = 0 ∧ dev0.endsAlone = true ∧ dev0.ormBusy = false)
    ∧ ((dev0.ormCommit 255).running = true ∧ (dev0.ormCommit 255).endsAlone = true
      ∧ (dev0.ormCommit 255).orm.write = some ((255 : BitVec 8).toNat, List.replicate 64 255)
      ∧ (dev0.ormCommit 255).orm.dev = none)
    ∧ (devLife.lifeNow 1 = some (0, 3, 9) ∧ Tab.get (fun _ => 0) devLife.orm.incs 1 = 1
      ∧ devLife.ormBusy = false ∧ devLife.clk.osc = Osc.STABLE)
    ∧ ((devLife.lifeWrite 1).endsAlone = true ∧ (devLife.lifeWrite 1).orm.write = none
      ∧ (devLife.lifeWrite 1).orm.dev = some (.cell 1 1
          ((beBytes 3 4 ++ beBytes 4 10).map BitVec.toNat ++ [crc8 (beBytes 3 4 ++ beBytes 4 10)]))
      ∧ ((devLife.lifeWrite 1).page (cellPlace 1 1).1).groups.length = 8) := by decide +kernel

/-- Bytes of a number, most significant first. -/
def byt (n v : Nat) : List Byte := beBytes n v
/-- A directory of one ACTIVE ZONE entry for key 7 and zone 27, whose stream has 472 bytes per segment of 2. -/
def dirOne : List Byte :=
  let a := byt 4 0x5A444952 ++ [1, 0] ++ byt 2 1 ++ [1] ++ byt 51 0
  let e := byt 4 7 ++ [1, 27, 1, 0] ++ byt 4 0x10000 ++ byt 4 (256 + 2 * (24 + 168)) ++ byt 16 0
  a ++ byt 4 (crc32 (a ++ e)) ++ e
/-- The flash with that directory. -/
def flashOne : FlashDir := { primary := dirOne, copy := [] }
/-- A header for its entry: two segments under slot BK0, unsigned. -/
def hdrOne : List Byte :=
  byt 4 0x5A434647 ++ [1, 1, 1, 0x10] ++ byt 8 (2 ^ 27) ++ byt 12 5 ++ byt 2 2 ++ [0, 0] ++ byt 4 7 ++ byt 220 0
/-- A device with a key in BK0, and a Gather job of die 1 as given. -/
def devJob (state : Nat) (j : GatherJob) : Device :=
  let d := ((dev0.set (F.GTH_STATUS_STATE (U.GTH 1)) state).set (F.GTH_STATUS_JOB (U.GTH 1)) 2).setGjob 1 j
  (d.set (F.GTH_KEY_KEY (U.GTH 1)) 7).setSlot 0x10 { KeySlot.empty with state := Ks.VALID, key := 5, attr := 0x3F03 }
/-- A job of STAGE_KEY that has read nothing. -/
def jobKey : GatherJob := { GatherJob.none with op := 1 }
/-- A device whose port of die 1 has a session open. -/
def devSession : Device := dev0.set (F.CMP_PT_CTL_OPEN (U.CMP 1)) 1

/-- The witnesses of FlashPort: bursts and REINIT. -/
theorem witness_FlashPort :
    ((devJob 1 jobKey).settled = true ∧ (devJob 1 jobKey).fenced 1 = false ∧ (devJob 1 jobKey).jobRuns 1 = true
      ∧ ((devJob 1 jobKey).cmpOf 1).failed = false
      ∧ (let d := (devJob 1 jobKey).setCmp 1 { (devJob 1 jobKey).cmpOf 1 with failed := true };
         d.running = true ∧ d.settled = true ∧ d.fenced 1 = false ∧ d.dormant = false ∧ d.lightJob 1 = true
          ∧ (d.lehrOf 1).refetch = none ∧ (d.cmpOf 1).failed = true))
    ∧ (dev0.refusalsFull 1 = false ∧ dev0.fenced 1 = false ∧ dev0.cmpInUse 1 = false ∧ dev0.running = true
      ∧ dev0.dormant = false ∧ dirSound (byteVals dirOne) = true ∧ fieldOf (byteVals dirOne) 8 1 ≠ 0
      ∧ (some (dirOne.take 64)).map byteVals = some ((byteVals dirOne).take 64)
      ∧ (none : Option (List Byte)).map byteVals ≠ some ((byteVals dirOne).take 64)
      ∧ dirSound (byteVals []) = false ∧ (devJob 1 jobKey).cmpInUse 1 = true
      ∧ (devJob 1 jobKey).refusalsFull 1 = false) := by decide +kernel

/-- The witnesses of FlashPort: the pass-through session. -/
theorem witness_FlashPort_session :
    (dev0.refusalsFull 1 = false ∧ dev0.fenced 1 = false ∧ dev0.jobRuns 1 = false
      ∧ (dev0.lehrOf 1).refetch = none ∧ dev0.past9 = true ∧ dev0.get F.LC_STATUS_STATE ≠ 5
      ∧ dev0.get (F.CMP_PT_CMD_GO (U.CMP 1)) = 0 ∧ dev0.get (F.CMP_PT_CTL_OPEN (U.CMP 1)) = 0)
    ∧ (devSession.get (F.CMP_PT_CMD_GO (U.CMP 1)) = 0 ∧ devSession.get (F.CMP_PT_CTL_OPEN (U.CMP 1)) = 1
      ∧ devSession.refusalsFull 1 = false ∧ devSession.fenced 1 = false
      ∧ (8 : BitVec 5).toNat ≤ 30 ∧ (3 : BitVec 2) ≠ 1 ∧ (256 : BitVec 9).toNat ≤ 256 ∧ 30 < (31 : BitVec 5).toNat
      ∧ 256 < (257 : BitVec 9).toNat)
    ∧ ((devSession.ptCmd 1 true 8 3 256 3).cmpOf 1).run = some (true, 256) := by
  decide +kernel

/-- The frame that the plaintext of a segment holds: frame 0 of type 0 of zone 27. -/
def frameOne : Nat := faOf 27 0 0 0
/-- A plaintext of one run of one frame of ones. -/
def textOne : List Nat := (byt 4 frameOne ++ byt 2 1 ++ byt 2 0).map BitVec.toNat ++ List.replicate 160 1
/-- The job that reads it. -/
def jobSeg : GatherJob := { jobKey with hdr := byteVals hdrOne, staging := [27], held := [0x10] }
/-- The prefix of segment 0. -/
def prefixOne : List Nat := (byt 2 0 ++ byt 2 0 ++ byt 4 168).map BitVec.toNat
/-- The witnesses of GatherJobs: its commands, its directory and header. -/
theorem witness_GatherJobs :
    (dev0.settled = true ∧ dev0.refusalsFull 1 = false ∧ dev0.fenced 1 = false
      ∧ (dev0.lehrOf 1).refetch = none
      ∧ dev0.gthRefusal 1 1 (dev0.get (F.GTH_CMD_ENTRY (U.GTH 1))) none = none
      ∧ dev0.gthRefusal 1 2 0 ((dirRead flashOne).map (·.1)) = none
      ∧ devSession.settled = true ∧ devSession.refusalsFull 1 = false ∧ devSession.fenced 1 = false
      ∧ devSession.gthRefusal 1 1 (devSession.get (F.GTH_CMD_ENTRY (U.GTH 1))) none = some .busy)
    ∧ (let d := dev0.setLehr 1 { LehrState.idle with
         refetch := some { fa := faOf 27 0 0 0, cmd := false, hdr := [], slot := none, lost := false, pos := 0 } };
       d.settled = true ∧ d.refusalsFull 1 = false ∧ d.fenced 1 = false
        ∧ d.gthRefusal 1 1 (d.get (F.GTH_CMD_ENTRY (U.GTH 1))) none = none
        ∧ (d.lehrOf 1).refetch.isSome = true)
    ∧ (let d := devJob 1 jobKey;
       d.running = true ∧ d.settled = true ∧ d.refusalsFull 1 = false ∧ d.fenced 1 = false ∧ d.dormant = false
        ∧ d.gthRefusal 1 3 (d.get (F.GTH_CMD_ENTRY (U.GTH 1))) none = none ∧ d.lightJob 1 = true)
    ∧ (let d := devJob 1 jobKey;
       let e : DirEntry :=
         { key := 7, kind := 1, zone := 27, active := true, offset := 0x10000, length := 256 + 2 * (24 + 168) };
       headerFormed flashOne hdrOne [] = true ∧ dirRead flashOne = some ([e], false)
        ∧ (d.lehrOf 1).refetch = none ∧ (d.gjob 1).hdr = [] ∧ (d.gjob 1).held = []
        ∧ jobEntries [e] (d.gjob 1).op (d.gjob 1).entry (d.get (F.GTH_KEY_KEY (U.GTH 1))) = e :: []
        ∧ hdrGood 1 e (byteVals hdrOne) [168, 168] = true ∧ d.sigGood (byteVals hdrOne) = true
        ∧ d.mayHold (hdrSlot (byteVals hdrOne)) = true ∧ d.get (F.GTH_STATUS_STATE (U.GTH 1)) = 1)
    ∧ (headerFormed flashOne [] [] = false ∧ segFormed [] = false) := by decide +kernel

/-- The segment: its prefix, that plaintext enciphered, and the tag. -/
def segOne : List Byte :=
  prefixOne.map (BitVec.ofNat 8) ++
    beBytes 46 0x4B739D8E662A772A3512E0D986D67806A9C0A2358B127E36CF914B50D0ACBDD45898E4D4091E9F32D573ED470496 ++
    beBytes 46 0x6776F39E81B27786419B2808CB568A4DFD56693D52D4C6170FD7010529715F2AFE475F6D8DF1D9779A54056B6DD0 ++
    beBytes 46 0x5D6D4A8B1D7711D5F4C10F5F8E7DD3DE1B271F80F3A11E7D7F750DDE7AB166A65A3C8D03700A5B47ECFC093DFA10 ++
    beBytes 46 0xF4DD15EE4738F1A733CCEDC411E249856EF3866313FA48BF878A523E65014C17AE6D0CED6013CBB4E6CA92012AFD

/-- The segment opens, with its tag, under the key of BK0. -/
theorem test_segment_opens : segOpen 5 jobSeg.hdr (byteVals segOne) 0 = (textOne, true) := by decide +kernel

/-- The witnesses of GatherJobs: its segment. -/
theorem witness_GatherJobs_segment :
    segOpen ((devJob 2 jobSeg).slot (hdrSlot jobSeg.hdr)).key jobSeg.hdr (byteVals segOne) 0 = (textOne, true)
    ∧ segFormed segOne = true ∧ prefixGood (byteVals segOne) 0 = true
    ∧ parseRuns (textOne.length / 168 + 1) textOne = ([(frameOne, List.replicate 20 0x0101010101010101)], none)
    ∧ faGood frameOne = true ∧ faPlane frameOne = 0 ∧ faType frameOne ≠ 4
    ∧ bit (hdrMask jobSeg.hdr) (faZone frameOne) = true ∧ 27 = dieZone 1 (faZone frameOne) ∧ 27 ∈ jobSeg.staging
    ∧ faZone frameOne * 65536 + frameOne / 1024 % 65536 ∉ jobSeg.written
    ∧ jobSeg.hdr ≠ [] ∧ (devJob 2 jobSeg).fenced 1 = false ∧ (devJob 2 jobSeg).jobRuns 1 = true
    ∧ jobSeg.seg + 1 ≠ hdrSegs jobSeg.hdr ∧ (devJob 2 jobSeg).settled = true ∧ (devJob 2 jobSeg).gjob 1 = jobSeg := by
  have h : ((devJob 2 jobSeg).slot (hdrSlot jobSeg.hdr)).key = 5 := by decide +kernel
  rw [h, test_segment_opens]
  decide +kernel

/-- An insertion for zone 27 of die 1 under key 7. -/
def ins7 : Insertion := { port := 1, key := 7, dies := 1, zones := 2 ^ 27 }
/-- A device whose Gaffer is as given, under key 7. -/
def devGaf (g : GafferState) : Device := { dev0.set F.GAF_KEY_KEY 7 with gaf := g }
/-- The entry of the directory that `flashOne` holds. -/
def entryOne : DirEntry :=
  { key := 7, kind := 1, zone := 27, active := true, offset := 0x10000, length := 256 + 2 * (24 + 168) }

/-- The witnesses of ChangeoverUpToReady. -/
theorem witness_ChangeoverUpToReady :
    (let d := devGaf { GafferState.idle with pend := some ins7 }
     d.running = true ∧ d.gaf.pend = some ins7 ∧ d.gaf.co = 0 ∧ d.get F.PW_STATUS_STATE = 0 ∧ d.gaf.swapSet = []
      ∧ ins7.key < 2 ^ 32 ∧ ins7.port < 8)
    ∧ (let d := devGaf { GafferState.idle with cur := some ins7, co := 1 }
       d.running = true ∧ d.gaf.cur = some ins7 ∧ d.gaf.co = 1 ∧ d.gaf.swapSet = [] ∧ d.gaf.pend = none ∧ d.gaf.run = []
        ∧ d.fenced 1 = false ∧ dirRead flashOne = some ([entryOne], false) ∧ zoneEntries [entryOne] 7 = [entryOne]
        ∧ entryOne.zone = z27.no ∧ z27.no < 64 ∧ bit ins7.zones z27.no = true ∧ d.runsKey z27.no 7 = false
        ∧ d.shadowHas z27.no 7 [Pl.STAGING, Pl.VERIFYING, Pl.PARISON] = false ∧ d.coKey = 7
        ∧ [entryOne].findIdx (· == entryOne) < 2048 ∧ d.gthRefusal 1 2 0 (some [entryOne]) = none
        ∧ (d.lehrOf 1).refetch = none
        ∧ (∀ k ∈ fabricDies, (d.lehrOf k).verify = none) ∧ dirRead { primary := [], copy := [] } = none)
    ∧ ((dev27 id).set (F.ZN_PLANE_KEY_KEY (zoneUnit 27) 0) 7).runsKey z27.no 7 = true
    ∧ (let d := (devGaf { GafferState.idle with cur := some ins7, co := 2, retry := [(1, 2)], stage := [(1, [(27, 0)])] }).setCmp
         1 { CmpState.idle with dir := some [entryOne] };
       d.board.mck = true ∧ d.gaf.co = 2 ∧ d.gaf.retry = [(1, 2)] ∧ d.gaf.stage = [(1, (27, 0) :: [])] ∧ d.gaf.run = []
        ∧ d.gthRefusal 1 2 0 (d.cmpOf 1).dir = none ∧ (d.lehrOf 1).refetch = none ∧ d.coSet = []) := by decide +kernel

/-- A device whose zone 27 runs on the root, aligned, with its shadow plane in PARISON, and is GAF_SET and GAF_CO_SET. -/
def devReady : Device :=
  (dev27 id).setAll [(F.ZN_PLANE_STATE1 (zoneUnit 27), Pl.PARISON), (F.ZN_CLK_STATUS_ALIGNED (zoneUnit 27), 1),
    (F.ZN_CLK_STATUS_DIV_NOW (zoneUnit 27), 1), (F.GAF_SET_ZONES 0, 2 ^ 27), (F.GAF_CO_SET_ZONES 0, 2 ^ 27),
    (F.GAF_STATUS_STATE, 3)]
/-- That device at a step of the swap of zone 27. -/
def devSwap (step : Nat) : Device :=
  { devReady.setAll [(F.ZN_SWAP_STATUS_STEP (zoneUnit 27), step), (F.GAF_STATUS_STATE, 4)] with
    gaf := { GafferState.idle with
      swapSet := [27], swap := [27], edge := if step < 2 then none else some 4096 } }

/-- The witnesses of SwapOfPlanes. -/
theorem witness_SwapOfPlanes :
    (devReady.board.mck = true ∧ devReady.get F.GAF_STATUS_STATE = 3 ∧ devReady.coSet = [27]
      ∧ devReady.setOf F.GAF_SET_ZONES = [27] ∧ devReady.swapRefusal State.reset.mem [27] false = none
      ∧ devReady.swapRefusal State.reset.mem [27] true = none ∧ dev0.setOf F.GAF_SET_ZONES = []
      ∧ (dev0.set F.GAF_STATUS_STATE 3).swapRefusal State.reset.mem dev0.coSet false = some (.reservedValue, 0))
    ∧ (let d := devSwap 1
       d.running = true ∧ d.silent (zoneUnit z27.no) = false ∧ d.atStep z27.no 1 = true ∧ d.zoneDrained z27.no = true
        ∧ d.lehrClear z27.no = true ∧ d.calmZone z27.no = true ∧ d.gaf.swapSet = [z27.no] ∧ d.gaf.edge = none
        ∧ d.clk.osc = Osc.STABLE ∧ d.switchEdge [z27.no] < 2 ^ 64 ∧ d.get F.GAF_CTL_FORCE = 0
        ∧ (d.target (zoneStop z27.no)).iso ≠ 2 ∧ d.gaf.co < 4)
    ∧ (let d := devSwap 2
       d.gaf.edge = some 4096 ∧ d.gaf.swap = [z27.no] ∧ d.atStep z27.no 2 = true ∧ d.clockRuns z27.no = true
        ∧ d.zoneActive z27.no = true ∧ d.planeHasBad z27.die.no z27.zone.val (d.activePlane z27.no) = false
        ∧ d.anchored z27.no = false ∧ (d.lehrOf z27.die.no).refetch = none ∧ d.zoneBank z27.no = none)
    ∧ ((devSwap 4).atStep z27.no 4 = true ∧ (devSwap 4).clockRuns z27.no = true ∧ (devSwap 4).zoneBank z27.no = none)
    ∧ ((devSwap 5).atStep z27.no 5 = true ∧ (devSwap 5).clockRuns z27.no = true ∧ (devSwap 5).zoneBank z27.no = none
      ∧ (devSwap 5).gaf.swap = [z27.no] ∧ (devSwap 5).gaf.swapCo = false) := by decide +kernel

/-- A device whose die 1 scrubs, with its Lehr as given and one bad frame listed in a state. -/
def devLehr (l : LehrState) (bad : Nat) : Device :=
  (((dev27 id).set (F.LHR_CTL_EN (U.GTH 1)) 1).setLehr 1 l).setAll
    [(F.LHR_BAD_STATE (U.GTH 1) 0, bad), (F.LHR_BAD_FA (U.GTH 1) 0, faOf 27 0 0 1 / 1024)]
/-- The Lehr of a die with these frames in progress and this verification. -/
def lehrWith (busy : List (Nat × Bool)) (verify : Option (Nat × Nat × Nat × Bool)) : LehrState :=
  { LehrState.idle with zone := 27, ord := 5, busy := busy, verify := verify }
/-- A frame of zeros as the Lehr stores it. -/
def zeroFrame : Frame := frameStore (List.replicate 20 0)
/-- The stores with a frame of type 0 and index 0 of zone 27's plane 0. -/
def memFrame (f : Frame) : Stores := State.reset.mem.setFrame (faSlot 1 (faOf 27 0 0 0)) f

/-- The witnesses of ScanAndVerification. -/
theorem witness_ScanAndVerification :
    (let d := devLehr (lehrWith [] none) 0
     d.fenced 1 = false ∧ (d.lehrOf 1).busy.length < 2 ∧ (d.lehrOf 1).verify = none ∧ d.scrubs 1 = true
      ∧ d.nextScan 1 65 (d.lehrOf 1).zone (d.lehrOf 1).ord false = (some (27, 5), false))
    ∧ (let d := (devLehr (lehrWith [(faOf 27 1 0 0, true)] (some (27, 1, 2048, false))) 0).set
         (F.ZN_PLANE_STATE1 (zoneUnit 27)) Pl.VERIFYING
       d.verifyHolds 1 = true ∧ d.jobRuns 1 = false ∧ (d.lehrOf 1).owed = false ∧ d.gaf.forced = []
        ∧ d.get (F.ZN_SWAP_STATUS_SWAPPING (zoneUnit (dieZone 1 27))) = 0 ∧ d.running = true ∧ d.settled = true ∧ d.dormant = false
        ∧ d.gaf.co = 0 ∧ faZone (faOf 27 1 0 0) = 27 ∧ faPlane (faOf 27 1 0 0) = 1 ∧ (d.lehrOf 1).busy.length < 2)
    ∧ (let d := devLehr (lehrWith [(faOf 27 0 0 0, false)] none) 0
       (d.lehrOf 1).busy = (faOf 27 0 0 0, false) :: [] ∧ (d.lehrOf 1).owed = false ∧ d.gaf.forced = []
        ∧ d.running = true ∧ d.fenced 1 = false ∧ d.dormant = false ∧ d.badPlace 1 (faOf 27 0 0 0) = none
        ∧ d.nextScan 1 65 (d.lehrOf 1).zone (d.lehrOf 1).ord false = (some (27, 5), false) ∧ d.settled = true
        ∧ ((memFrame zeroFrame).frame (faSlot 1 (faOf 27 0 0 0))).judge = .good
        ∧ ((memFrame { zeroFrame with crc := zeroFrame.crc ^^^ 1 }).frame (faSlot 1 (faOf 27 0 0 0))).judge = .corrected
        ∧ (State.reset.mem.frame (faSlot 1 (faOf 27 0 0 0))).judge = .uncorrectable
        ∧ d.planeState (dieZone 1 (faZone (faOf 27 0 0 0))) (faPlane (faOf 27 0 0 0)) = Pl.ACTIVE
        ∧ d.lehrPolicy 1 27 ≠ 2 ∧ (List.range 8).find? (fun j => d.get (F.LHR_BAD_STATE (U.GTH 1) j) == 0) = some 0)
    ∧ 2 ≤ ((devLehr (lehrWith [(1, false), (2, false)] none) 0).lehrOf 1).busy.length
    ∧ (let d := (devLehr (lehrWith [] none) 0).set (F.ZN_PLANE_STATE1 (zoneUnit 27)) Pl.VERIFYING
       (List.range 64).filter (fun z => d.shadowState (dieZone 1 z) == Pl.VERIFYING) = 27 :: []) := by decide +kernel

/-- A refetch of the listed bad frame with the header of `hdrOne`. -/
def refetchOne : Refetch :=
  { fa := faOf 27 0 0 0, cmd := false, hdr := jobSeg.hdr, slot := some 0x10, lost := false, pos := 0 }
/-- A device whose zone 27 is held by the Lehr, to restart on the reference. -/
def devHeld : Device :=
  ((devLehr LehrState.idle 0).lehrHold 27).modClk 27 (fun c => { c with heldRef := true })

/-- The witnesses of RefetchAndLehrCommands. -/
theorem witness_RefetchAndLehrCommands :
    (let d := devLehr LehrState.idle 2
     d.jobRuns 1 = false ∧ d.fenced 1 = false ∧ (d.lehrOf 1).refetch = none
      ∧ (d.badList 1).find? (fun e => e.2.2 == 2) = some (0, faOf 27 0 0 1, 2) ∧ d.badPlace 1 (faOf 27 0 0 1) = some 0)
    ∧ (let d := dev27 (fun z => z)
       d.refusalsFull 1 = false ∧ d.lhrRefusal 1 1 27 false = some .parisonInvalid
        ∧ (d.set (F.ZN_PLANE_STATE1 (zoneUnit 27)) Pl.PARISON).lhrRefusal 1 1 27 false = none
        ∧ (d.set (F.LHR_CMD_FA_FA (U.GTH 1)) (faOf 27 0 0 0)).lhrRefusal 1 2 0 false = none
        ∧ ((d.set (F.LHR_CMD_FA_FA (U.GTH 1)) (faOf 27 0 0 0)).set F.DA_RIGHTS_GRANTED 1).lhrRefusal 1 4 0 false = none)
    ∧ (27 = dieZone 1 27 ∧ devHeld.running = true ∧ devHeld.dormant = false ∧ devHeld.refusalsFull 1 = false
      ∧ devHeld.lhrRefusal 1 3 27 false = none ∧ devHeld.lehrHeld 27 = true ∧ devHeld.zcState 27 = Zc.HELD
      ∧ (devHeld.zone 27).clk.held = some .lehr ∧ (devHeld.zone 27).clk.heldRef = true ∧ devHeld.thermHold = false
      ∧ devHeld.clk.osc = Osc.STABLE ∧ (devHeld.zone 27).clk.wait = .none) := by
  decide +kernel

/-- The witness of its refetch. -/
theorem witness_RefetchAndLehrCommands_done :
    findFrame 5 (faOf (faZone refetchOne.fa) 0 (faType refetchOne.fa) (faIndex refetchOne.fa)) refetchOne.hdr
        ([segOne].map byteVals) 0 = some (some (List.replicate 20 0x0101010101010101))
      ∧ (frameStore (List.replicate 20 0x0101010101010101)).judge ≠ .uncorrectable ∧ refetchOne.hdr ≠ []
      ∧ (let d := (devLehr { LehrState.idle with refetch := some refetchOne } 3).setAll
           [(F.LHR_BAD_FA (U.GTH 1) 0, faOf 27 0 0 0 / 1024)]
         (d.lehrOf 1).refetch = some refetchOne ∧ d.keys.deferred = none ∧ d.badPlace 1 refetchOne.fa = some 0
          ∧ (d.gjob 1).waits = none
          ∧ d.planeState (dieZone 1 (faZone refetchOne.fa)) (faPlane refetchOne.fa) = Pl.ACTIVE) := by
  refine ⟨?_, by decide +kernel⟩
  have h : segOpen 5 refetchOne.hdr (byteVals segOne) 0 = (textOne, true) := test_segment_opens
  simp only [List.map_cons, List.map_nil, findFrame, h]
  decide +kernel

/-- A device with a key in BK0 that is in use by the job of die 1. -/
def devUse : Device :=
  (devJob 1 { jobKey with held := [0x10] }).setSlot 0x10
    { KeySlot.empty with state := Ks.VALID, key := 5, attr := 0x3F03, use := 1 }

/-- The witnesses of KeyStoreCommands. -/
theorem witness_KeyStoreCommands :
    (dev0.running = true ∧ devUse.running = true ∧ dev0.board.mck = true ∧ dev0.ksRefusal 1 0x10 false 0 = none ∧ (dev0.slot 0x10).use = 0
      ∧ devUse.ksRefusal 1 0x10 true 0 = none ∧ (devUse.slot 0x10).use > 0
      ∧ devUse.ksRefusal 1 0x10 false 0 = some .keyInUse ∧ dev0.ksRefusal 1 0 false 0 = some .reservedValue)
    ∧ (dev0.settled = true ∧ dev0.noneLost = true ∧ dev0.ksRefusal 3 0x10 false (dev0.get F.KS_CMD_WRAP_SLOT) = none
      ∧ dev0.keys.deferred = none ∧ dev0.ksRefusal 4 1 false 0 = none ∧ dev0.ksRefusal 6 0 false 0 = none
      ∧ (dev0.set F.LC_STATUS_STATE 2).ksRefusal 5 1 false 0 = none)
    ∧ (devUse.running = true ∧ devUse.settled = true ∧ devUse.noneLost = true ∧ (devUse.slot 0x10).use = 1
      ∧ devUse.ksRefusal 3 0x10 false (devUse.get F.KS_CMD_WRAP_SLOT) = none ∧ devUse.keys.deferred = none
      ∧ devUse.fenced 1 = false ∧ devUse.dormant = false ∧ devUse.jobRuns 1 = true ∧ devUse.baseRuns 1 = false
      ∧ (devUse.gjob 1).held = [0x10] ∧ (devUse.gjob 1).staging = [] ∧ (∀ k ∈ [2, 3, 4], (devUse.gjob k).held = [])
      ∧ (∀ k ∈ fabricDies, (devUse.lehrOf k).refetch = none))
    ∧ (let d := { dev0 with keys := { dev0.keys with prog := some (1, 5, 0x701) } }
       d.settled = true ∧ d.noneLost = true ∧ d.clk.osc = Osc.STABLE ∧ d.keys.prog = some (1, 5, 0x701))
    ∧ (let d := { dev0 with keys := { dev0.keys with revoke := some 1 } }
       d.keys.prog = none ∧ d.clk.osc = Osc.STABLE ∧ d.keys.revoke = some 1 ∧ (d.slot 1).use = 0) := by decide +kernel

/-- 512 samples that alternate. -/
def samples : Nat := 0x55555555555555555555555555555555 * (1 + 2 ^ 128) * (1 + 2 ^ 256)
/-- A device whose random numbers are ready. -/
def devRandom : Device := dev0.setAll [(F.TRNG_CTL_EN, 1), (F.TRNG_STATUS_READY, 1)]

/-- The witnesses of RandomAndBattery. -/
theorem witness_RandomAndBattery :
    (devRandom.running = true ∧ devRandom.pSvc = true ∧ dev0.pSvc = true ∧ devRandom.get F.TRNG_CTL_EN = 1 ∧ devRandom.get F.TRNG_STATUS_READY = 1 ∧ devRandom.get F.TRNG_STATUS_FAILED = 0
      ∧ (devRandom.trng.samples (sampleBits 512 samples)).2 = false
      ∧ (devRandom.trng.samples (sampleBits 512 0)).2 = true ∧ devRandom.trng.fifo.length ≤ 8
      ∧ dev0.get F.TRNG_CTL_EN = 1 ∧ dev0.get F.TRNG_STATUS_READY = 0
      ∧ (TrngState.samples (sampleBits 1024 (samples * (1 + 2 ^ 512)))
          { dev0.trng with run := 0, seen := 0, same := 0 }).2 = false)
    ∧ (let d := { dev0 with trng := { dev0.trng with fifo := [7] } }
       d.trng.fifo = 7 :: [] ∧ dev0.trng.fifo = [])
    ∧ ((withBoard (fun b => { b with vccaux := false }) dev0).board.vccaux = false ∧ dev0.board.vccaux = true
      ∧ dev0.running = true)
    ∧ (let d := (dev0.set F.BG_STATUS_KEEP_LATCH 1).setSlot 0x10 { KeySlot.empty with state := Ks.VALID }
       d.get F.BG_STATUS_KEEP_LATCH = 1 ∧ 0x10 ∈ bkSlots ∧ (d.slot 0x10).state = Ks.VALID) := by decide +kernel

/-- A device in the life cycle state `st`, its key store empty, with a random FIFO of eight words. -/
def devLc (state : Nat) : Device :=
  { dev0.set F.LC_STATUS_STATE state with trng := { dev0.trng with fifo := [1, 2, 3, 4, 5, 6, 7, 8] } }
/-- The device with its option and record memory changed. -/
def withOrm (f : OrmState → OrmState) (d : Device) : Device := { d with orm := f d.orm }
/-- A device whose transition from BLANK to SEALED has written its journal entry PENDING and has its fuses to blow. -/
def devBlow : Device :=
  { dev0 with lc := { dev0.lc with target := some 3 } }.setPage 8
    { dev0.page 8 with groups := groupsOf (journalBytes 0 3 1 1), cell := 2 }

/-- The witnesses of LifeCycleCommands. -/
theorem witness_LifeCycleCommands :
    (dev0.board.mck = true ∧ dev0.settled = true ∧ dev0.noneLost = true ∧ dev0.lcRefusal 1 0x9D 1 = none
      ∧ dev0.get F.LC_STATUS_STATE ≠ Lc.INVALID ∧ (devLc 2).lcRefusal 1 0x9D 4 = none
      ∧ (devLc 2).keys.deferred = none ∧ (devLc 2).keys.slots = [] ∧ dev0.lcRefusal 1 0x9C 1 = some .reservedValue
      ∧ dev0.running = true ∧ dev0.ormBusy = false)
    ∧ ((devLc 2).lcRefusal 2 0x9D 0 = none ∧ (devLc 2).lcRefusal 3 0x9D 0 = none ∧ (devLc 2).lcRefusal 4 0x9D 0 = none
      ∧ (devLc 2).get F.LC_CMD_TARGET = 0)
    ∧ (let d := withOrm (fun o => { o with write := some (20, []) }) dev0;
       d.board.mck = true ∧ d.settled = true ∧ d.noneLost = true ∧ d.lcRefusal 1 0x9D 1 = none ∧ d.ormBusy = true)
    ∧ (let d := withOrm (fun o => { o with dev := some (.journal 2 4 1 1) })
         { dev0 with lc := { dev0.lc with target := some Lc.RETURNED } };
       d.endsAlone = true ∧ d.orm.write = none ∧ d.lc.fused = false ∧ d.keys.slots = [] ∧ d.keys.deferred = none) := by
  decide +kernel

/-- The witnesses of LifeCycleCommands: the end of the fuse steps and of the journal. -/
theorem witness_LifeCycleCommands_ends :
    (devBlow.lc.target = some 3 ∧ devBlow.journaling = false ∧ devBlow.ormBusy = false
      ∧ devBlow.clk.osc = Osc.STABLE ∧ devBlow.journal = some (0, 3, 1, 1)
      ∧ (let d := devBlow.blow ((devBlow.lcToBlow 3).filter (fun i => !bit 0 i));
         (d.fuses.lc0, d.fuses.lc1) = lcRows 3)
      ∧ (let d := devBlow.blow ((devBlow.lcToBlow 3).filter (fun i => !bit (2 ^ 128 - 1) i));
         (d.fuses.lc0, d.fuses.lc1) ≠ lcRows 3))
    ∧ (let d := withOrm (fun o => { o with dev := some (.journal 0 3 2 1) })
         { dev0 with lc := { dev0.lc with target := some 3, fused := true } };
       d.endsAlone = true ∧ d.orm.write = none ∧ d.board.mck = true
        ∧ (withBoard (fun b => { b with mck := false }) d).endsAlone = true) := by decide +kernel

/-- The witnesses of DebugAuthoriser. -/
theorem witness_DebugAuthoriser :
    dev0.running = true ∧ (devLc Lc.RETURNED).chalRefusal = none ∧ (devLc Lc.RETURNED).trng.fifo.length ≤ 16
      ∧ dev0.chalRefusal = some .lcForbids ∧ dev0.board.mck = true ∧ dev0.get F.LC_STATUS_STATE ≠ Lc.SEALED := by decide +kernel

/-- The witnesses of TestAccessPort. -/
theorem witness_TestAccessPort :
    (let d := dev0.set F.DA_RIGHTS_GRANTED 0xFF
     d.right 0 = true ∧ d.right 1 = true ∧ d.right 2 = true ∧ d.right 3 = true ∧ d.right 5 = true
      ∧ faGood 0 = true ∧ d.fenced 1 = false)
    ∧ ((devLc Lc.SEALED).get F.LC_STATUS_STATE = Lc.SEALED ∧ (devLc Lc.SEALED).running = true
      ∧ (withBoard (fun b => { b with mck := false }) (devLc Lc.SEALED)).board.mck = false
      ∧ (devLc Lc.RETURNED).get F.LC_STATUS_STATE = Lc.RETURNED ∧ (devLc Lc.RETURNED).chalState = true)
    ∧ ((withBoard (fun b => { b with mck := false }) dev0).right 3 = false ∧ dev0.board.mck = true ∧ dev0.right 3 = false
      ∧ { dev0 with tap := { dev0.tap with denied := true } }.tap.denied = true ∧ dev0.right 1 = false ∧ dev0.right 5 = false ∧ dev0.chalState = false) := by
  decide +kernel

/-- A device whose zone 27 runs on the root, with DOZE_MASK for it, a wake by IDENT_PORT0 and pool bank 9 retained. -/
def devPower : Device :=
  (dev27 id).setAll [(F.PW_DOZE_MASK_ZONES 0, 2 ^ 27), (F.EV_WAKE_EVENTS 1, 2 ^ 16), (F.PW_RET_POOL_BANKS, 0x200)]
/-- A device on its way to a power state, in a phase of PW_STATUS. -/
def devEntry (target phase state : Nat) (later : Option Nat) : Device :=
  let d := { devPower with pw := { PowerState.idle with target := target, stops := [27], wakeLater := later } }
  d.setAll [(F.PW_STATUS_PHASE, phase), (F.PW_STATUS_STATE, state), (F.PW_CMD_GO, 1)]
/-- A device with a request of zone 27 not answered. -/
def undrained (d : Device) : Device := d.setInit (zoneStop 27) { InitState.idle with out := [outRd 4 0 none] }

/-- The witnesses of PowerEntries. -/
theorem witness_PowerEntries :
    (devPower.board.mck = true ∧ devPower.pwCheck 1 = none ∧ devPower.pwCheck 2 = none ∧ devPower.pwCheck 3 = none
      ∧ devPower.pwCheck 4 = none ∧ devPower.running = true ∧ dev0.running = true
      ∧ dev0.pwCheck 1 = some (.reservedValue, U.PW) ∧ dev0.pwCheck 4 = some (.wakeNone, U.EV))
    ∧ ((devEntry 2 2 0 none).get F.PW_STATUS_PHASE = 2
      ∧ (devEntry 2 2 0 none).pw.stops.all (devEntry 2 2 0 none).zoneDrained = true
      ∧ (undrained (devEntry 2 2 0 none)).pw.stops.all (undrained (devEntry 2 2 0 none)).zoneDrained = false
      ∧ (undrained (devEntry 2 2 0 none)).pw.stops.find?
          (fun m => !(undrained (devEntry 2 2 0 none)).zoneDrained m) = some 27)
    ∧ ((devEntry 2 2 0 none).pwStops 2 = [27]
      ∧ (let d := { devEntry 2 2 0 none with pw := { (devEntry 2 2 0 none).pw with stops := [] } };
         d.pwStops d.pw.target = [27])
      ∧ (let d := (devEntry 2 4 2 none).modZone 27 (fun z =>
           { z with clk := { z.clk with held := some .policy, heldRef := false } }) |>.setZcState 27 Zc.HELD;
         d.get F.PW_STATUS_PHASE = 4 ∧ d.pw.target = 2 ∧ d.zcState 27 = Zc.HELD ∧ (d.zone 27).clk.held = some .policy
          ∧ (d.zone 27).clk.heldRef = false ∧ d.loopLocked 27 = true ∧ d.lehrHeld 27 = false ∧ d.thermHold = false))
    ∧ ((devEntry 1 3 0 none).get F.PW_STATUS_PHASE = 3 ∧ (devEntry 1 3 0 none).pw.wakeLater = none
      ∧ (devEntry 1 3 0 none).pw.target = 1 ∧ (devEntry 2 3 0 (some 48)).pw.wakeLater = some 48
      ∧ (devEntry 3 3 0 none).pw.target = 3 ∧ (devEntry 4 3 0 none).pw.target = 4
      ∧ (devEntry 4 3 0 none).board.mck = true) := by decide +kernel

/-- A device that wakes from a state, zone 27 gated. -/
def devWake (state : Nat) (ref : Bool) : Device :=
  (devEntry state 5 state none).modZone 27 (fun z => { z with clk := { z.clk with heldRef := ref, heldDiv := 4 } })
  |>.setZcState 27 Zc.GATED
/-- A device whose fabric rail comes back after DORMANT. -/
def devRegate (osc root : Nat) : Device :=
  let d := devEntry 4 5 4 none
  withClk (fun c => { c with osc := osc, root := root })
    (withRst (fun r => { r with fill := 2 ^ 32 - 1 - 0x200 }) { d with pw := { d.pw with regating := true } })

/-- The witnesses of PowerWakes. -/
theorem witness_PowerWakes :
    ((devEntry 1 4 1 none).get F.PW_STATUS_PHASE = 4 ∧ (devEntry 1 4 1 none).get F.PW_STATUS_STATE = 1
      ∧ (devEntry 3 4 3 none).get F.PW_STATUS_STATE = 3 ∧ (devEntry 4 4 4 none).get F.PW_STATUS_STATE = 4
      ∧ dev0.get F.PW_STATUS_PHASE = 0 ∧ dev0.get F.PW_STATUS_STATE = 0
      ∧ ((devEntry 1 3 0 none).set (F.EV_WAKE_EVENTS 1) 0).get F.PW_STATUS_PHASE = 3
      ∧ ((devEntry 1 3 0 none).set (F.EV_WAKE_EVENTS 1) 0).board.mck = true
      ∧ (∀ e, e < 128 → ((devEntry 1 3 0 none).set (F.EV_WAKE_EVENTS 1) 0).wakeEnabled e = false))
    ∧ ((devWake 2 false).get F.PW_STATUS_PHASE = 5 ∧ (devWake 2 false).get F.PW_STATUS_STATE = 2
      ∧ (devWake 1 false).get F.PW_STATUS_STATE = 1 ∧ (devWake 1 false).gaf.pend = none
      ∧ (devWake 1 false).clk.osc = Osc.STABLE ∧ (devWake 1 false).thermHold = false
      ∧ (∀ n ∈ zoneNumbers, n ∉ [27] → (devWake 1 false).zcState n ≠ Zc.GATED)
      ∧ (devWake 1 false).zcState 27 = Zc.GATED ∧ (devWake 1 false).lehrHeld 27 = false
      ∧ ((devWake 1 false).zone 27).clk.wait = .none ∧ (devWake 1 false).pw.stops = [27]
      ∧ (devWake 1 false).loopLocked 27 = true ∧ ((devWake 1 false).zone 27).clk.heldRef = false
      ∧ ((devWake 1 true).zone 27).clk.heldRef = true)
    ∧ ((devRegate 0 0).pw.regating = true ∧ (devRegate 0 0).pw.up = false ∧ (devRegate 0 0).clk.osc ≠ Osc.STABLE
      ∧ (devRegate Osc.STABLE Loop.LOCKED).clk.osc = Osc.STABLE ∧ (devRegate Osc.STABLE Loop.LOCKED).board.vccint = true
      ∧ (devRegate Osc.STABLE Loop.LOCKED).clk.root = Loop.LOCKED ∧ (devRegate Osc.STABLE Loop.LOCKED).rst.late = []
      ∧ (∀ k ∈ fabricDies, (devRegate Osc.STABLE Loop.LOCKED).fenced k = false
          ∧ (devRegate Osc.STABLE Loop.LOCKED).jobRuns k = false)) := by decide +kernel

/-- A device with subscribers of event 48 (zones 0, 27 and 255), host masks and a raise in its queue. -/
def devEvents : Device :=
  let d := dev0.setAll [(F.EV_HOST_MASK_EVENTS 1, 2 ^ 16)]
  { d with ev := { d.ev with queue := [({ ev := 48, unit := U.PW, payload := 7, mt := 9 }, 2 ^ 255 + 2 ^ 27 + 1)] } }

/-- The witnesses of RaisesAreLatched. -/
theorem witness_RaisesAreLatched :
    (dev0.rst.por = false ∧ neverLatches 48 = false ∧ neverLatches 127 = false ∧ unitDie 5 = 0
      ∧ unitDie (zoneUnit 27) = 1 ∧ dev0.fenced 1 = false ∧ dev0.dormant = false
      ∧ dev0.get F.PW_STATUS_PHASE = 0 ∧ dev0.board.mck = true)
    ∧ (withBoard (fun b => { b with mck := false }) dev0).board.mck = false
    ∧ (dev0.set F.PW_STATUS_STATE 4).dormant = true := by decide +kernel

/-- The witnesses of EventDelivery. -/
theorem witness_EventDelivery :
    (dev0.silent 5 = false ∧ dev0.rst.por = false ∧ dev0.get F.PW_STATUS_PHASE = 0 ∧ dev0.ev.queue.length < 64
      ∧ bit (devEvents.get (F.EV_HOST_MASK_EVENTS 1)) 16 = true
      ∧ 64 ≤ (List.replicate 64 (({ ev := 1, unit := 2, payload := 0, mt := 0 } : Raise), 0)).length)
    ∧ (devEvents.ev.queue = ({ ev := 48, unit := U.PW, payload := 7, mt := 9 }, 2 ^ 255 + 2 ^ 27 + 1) :: []
      ∧ (devEvents.init 6).fence = none ∧ (∀ k ∈ fabricDies, devEvents.fenced k = false) ∧ dev0.ev.queue = [])
    ∧ (dev0.running = true ∧ dev0.silent (zoneUnit z3.no) = false ∧ isZoneKey Initiator.mlink.key = false) := by
  decide +kernel

/-- A device whose compute link of die 1 is ON, its anchor zone running, with pool bank 1. -/
def devLink : Device :=
  let d := (zoneIn 0 Zc.ROOT dev0).modZone 0 (fun z => { z with stage := .grr })
  let d := d.setAll [(F.PL_LINK_CTL_EN (U.PL 0), 1), (F.PL_LINK_STATUS_STATE (U.PL 0), 1),
    (F.PL_BANK_OWNER_OWNER (U.PL 0) 1, 18)]
  { d with pool := { d.pool with eff := [(1, 18)] } }
/-- The ring address of the first data unit of pool bank 1. -/
def bank1 : BitVec 48 := BitVec.ofNat 48 (16 * 2 ^ 38 + 2 ^ 32 + 2 ^ 21)
/-- A device with a request for pool bank 1 that waits at the stop of its group. -/
def devStarve : Device :=
  dev0.setTarget 16 { TargetState.idle with taken := [mkPacket 1 16 false Cmd.RD 0 0 1 0 0xFFFF bank1.toNat []] }

/-- The witnesses of BanksAndLinks. -/
theorem witness_BanksAndLinks :
    (devStarve.running = true ∧ devStarve.streamWaits 1 = true ∧ 1 ∉ devStarve.pool.told ∧ devStarve.cul.newest = none
      ∧ dev0.streamWaits 1 = false ∧ dev0.computeEmpty 1 = true
      ∧ ({ devStarve with pool := { devStarve.pool with eff := [(1, 1)] } } : Device).computeEmpty 1 = false)
    ∧ (dev0.ownerEnabled 1 = false ∧ devLink.ownerEnabled 1 = true
      ∧ devLink.get (F.PL_BANK_OWNER_OWNER (U.PL 0) 1) ≠ 3 ∧ devLink.running = true ∧ devLink.board.mck = true)
    ∧ ((devLink.set (F.PL_LINK_CTL_EN (U.PL 0)) 0).get (F.PL_LINK_CTL_EN (U.PL 0)) = 0
      ∧ devLink.fenced 1 = false ∧ devLink.bankOwner 1 = 18 ∧ dev0.get (F.PL_LINK_CTL_EN (U.PL 0)) = 0
      ∧ (∀ n, n < 32 → dev0.bankOwner n ≠ 18) ∧ devLink.get (F.PL_LINK_STATUS_STATE (U.PL 0)) ≤ 1)
    ∧ (devLink.portRuns 641 = true ∧ devLink.mayLaunch 641 = true ∧ (devLink.init 641).fence = none
      ∧ (devLink.init 641).port = [] ∧ (devLink.init 641).out = [] ∧ (devLink.init 641).tags < 64
      ∧ (devLink.init 641).rob < 32 ∧ (devLink.init 641).pickTag 1024 (devLink.init 641).nextTag = some 0
      ∧ poolBank bank1.toNat = some 1 ∧ bank1.toNat % 16 = 0
      ∧ eccDecode ((st devLink).mem.poolRd (2 ^ 18 + bank1.toNat % 2 ^ 21 / 8)) = (0, .good)
      ∧ eccDecode ((st devLink).mem.poolRd (2 ^ 18 + bank1.toNat % 2 ^ 21 / 8 + 1)) = (0, .good)
      ∧ devLink.flipArmed (U.PL 0) 1 = false ∧ (st devLink).mem.wf = true ∧ devLink.linkOwns 1 0 = false) := by
  decide +kernel

/-- An answer to a read of channel 0's descriptor: 16 bytes from zone 0's stop to zone 1's, the last. -/
def descUnits (w2 : Nat) : List DataUnit :=
  [{ val := BitVec.ofNat 128 (128 * 2 ^ 38 + (129 * 2 ^ 38) * 2 ^ 64), poison := false, corrected := false },
   { val := BitVec.ofNat 128 (w2 + 0x40 * 2 ^ 64), poison := false, corrected := false }]
/-- A device whose channel 0 is in a state, with an answer in stop 24's inbox. -/
def devSmv (state : Nat) (answers : List Delivered) (x : SmvChannel) : Device :=
  let d := dev0.setAll [(F.SMV_CH_CTL_EN 0, 1), (F.SMV_CH_STATUS_STATE 0, state)]
  (d.setInit 24 { InitState.idle with inbox := answers }).setChan 0 x
/-- An answer of stop 24. -/
def answerOf (who status : Nat) (data : List DataUnit) : Delivered :=
  { cmd := Cmd.RD, cls := 3, status := status, addr := 0, data := data, who := who }
/-- A chunk of 16 bytes. -/
def chunk0 (wrote : Bool) : Chunk :=
  { no := 0, src := 128 * 2 ^ 38, dst := 129 * 2 ^ 38, len := 16, data := none, wrote := wrote, dead := false }
/-- A channel whose last chunk is out. -/
def chanOut (w2 : Nat) (wrote : Bool) : SmvChannel :=
  { SmvChannel.idle with desc := descWords (descUnits w2), row := 1, chunks := [chunk0 wrote] }

/-- The witnesses of StreamMoverChannels. -/
theorem witness_StreamMoverChannels :
    (dev0.get (F.SMV_CH_CTL_EN 15) = 0 ∧ dev0.get (F.SMV_CH_STATUS_STATE 15) ≠ 4
      ∧ dev0.get (F.SMV_CH_HEAD_ADDR 15) % 32 = 0 ∧ dev0.get (F.SMV_CH_CTL_TRIG_EN 15) = 0 ∧ dev0.running = true
      ∧ (dev0.set (F.SMV_CH_HEAD_ADDR 15) 16).get (F.SMV_CH_HEAD_ADDR 15) % 32 ≠ 0)
    ∧ ((devSmv 1 [] .idle).get (F.SMV_CH_STATUS_STATE 0) = 1 ∧ (devSmv 1 [] .idle).chan 0 = .idle
      ∧ ((devSmv 1 [] .idle).init 24).port = [])
    ∧ (let d := devSmv 1 [answerOf (smvMark 0 0) 0 (descUnits (2 ^ 49 + 16))] { SmvChannel.idle with asked := true }
       (∃ v e, d.takeAnswer 24 (smvMark 0 0) = some (v, e)) ∧ d.get (F.SMV_CH_STATUS_STATE 0) = 1
       ∧ (let x : SmvChannel :=
            { d.chan 0 with
              asked := false, desc := descWords (descUnits (2 ^ 49 + 16)), row := 0, pos := 0, next := 0, chunks := [] }
          x.badFormat (d.on (F.SMV_CH_CTL_TRIG_EN 0)) = false ∧ x.overlaps = false)
       ∧ (let x : SmvChannel :=
            { d.chan 0 with
              asked := false, desc := descWords (descUnits 15), row := 0, pos := 0, next := 0, chunks := [] }
          x.badFormat (d.on (F.SMV_CH_CTL_TRIG_EN 0)) = true)
       ∧ (d.chan 0).chunks = [] ∧ (d.chan 0).fail = none)
    ∧ (let d := devSmv 3 [answerOf (smvMark 0 1) 0 (descUnits 0)] (chanOut (2 ^ 49 + 16) false)
       (d.chan 0).chunks = [] ++ chunk0 false :: []
       ∧ (d.init 24).inbox = [] ++ answerOf ((chunk0 false).readMark 0) 0 (descUnits 0) :: [])
    ∧ (let d := devSmv 3 [] (chanOut (2 ^ 50 + 2 ^ 49 + 16) true)
       d.running = true ∧ (d.chan 0).chunks = [chunk0 true] ∧ d.smvWritten 0 (chunk0 true) = true
       ∧ d.takeAnswer 24 ((chunk0 true).writeMark 0) = none ∧ d.get (F.SMV_CH_STATUS_STATE 0) = 3
       ∧ (d.chan 0).rows ≤ (d.chan 0).row)
    ∧ (let d := devSmv 3 [answerOf (smvMark 0 2) 2 []] (chanOut (2 ^ 50 + 2 ^ 49 + 16) true)
       (∃ v e, d.takeAnswer 24 ((chunk0 true).writeMark 0) = some (v, e) ∧ v.status = 2)
       ∧ (d.chan 0).asked = false ∧ (d.chan 0).fail = none) := by
  refine ⟨by decide +kernel, by decide +kernel, ⟨⟨_, _, rfl⟩, by decide +kernel⟩, by decide +kernel, by decide +kernel,
    ⟨_, _, rfl, by decide +kernel⟩, by decide +kernel⟩

/-- A device whose zone 0 runs and owns bank 0, supplied as declared, with a pin whose delays move. -/
def devBank : Device :=
  let d := (zoneIn 0 Zc.ROOT dev0).modZone 0 (fun z => { z with stage := .grr })
  (withBoard (fun b => { b with vclass := [(0, 1)], vccioBad := [] }) d).setPin 0 3
    { PinState.unused with outTgt := 7, inTgt := 2, inNow := 4 }
/-- A device whose die 1 holds as many refusal records as it can. -/
def devFull : Device :=
  { dev0 with refusals := { dev0.refusals with
      queues := [(1, List.replicate 64 { unit := 512, reason := 2, index := 0 })] } }

/-- The witnesses of BanksAndDelays. -/
theorem witness_BanksAndDelays :
    (devBank.refusalsFull (bankDie 0) = false ∧ devBank.bankRefusal 0 = none ∧ devBank.get (F.IOB_CTL_EN (bankUnit 0)) = 0
      ∧ dev0.bankRefusal 31 = some (.busy, 0xFF) ∧ dev0.fenced (bankDie 31) = false
      ∧ devFull.refusalsFull (bankDie 0) = true)
    ∧ (let d := devBank.set (F.IOB_CTL_EN (bankUnit 0)) 1
       d.running = true ∧ d.silent (bankUnit 0) = false ∧ d.classOk 0 = true
       ∧ 4 ≠ d.get (F.IOB_CTL_VCCIO (bankUnit 0)) + 1 ∧ d.get (F.IOB_CTL_EN (bankUnit 0)) = 1)
    ∧ (devBank.clk.osc = Osc.STABLE ∧ (withClk (fun c => { c with osc := 0 }) dev0).clk.osc ≠ Osc.STABLE
      ∧ Tab.wf (fun _ => PinState.unused) (devBank.pins 0) = true) := by decide +kernel

/-- A device whose pin 5 is routed to EVI8 and whose pin 6 drives GEN63, in crossbar mode; pin 8 is SECURE, pin 9 of zone
27. -/
def devXbar : Device :=
  dev0.setAll [(F.IOX_GRP_CTL_MODE 0, 1), (F.IOX_GRP_CTL_EN 0, 1), (F.IOX_PIN_MAP_IN 5, 0x48),
    (F.IOX_GEN_CFG_EN 63, 1), (F.IOX_GEN_CFG_DIR 63, 1), (F.IOX_PIN_MAP_OUT_A 6, 0xBF), (F.IOX_EVI_CFG_EDGE, 2 ^ 16),
    (F.IOX_PIN_OWNER_KIND 8, 1), (F.IOX_PIN_OWNER_KIND 9, 2), (F.IOX_PIN_OWNER_UNIT 9, zoneUnit 27)]

/-- The witnesses of CrossbarCommands. -/
theorem witness_CrossbarCommands :
    (devXbar.board.mck = true ∧ devXbar.groupWritable 1 7 = true ∧ devXbar.get (F.IOX_GRP_CTL_EN 7) = 0
      ∧ devXbar.groupBad 7 = none ∧ devXbar.running = true ∧ devXbar.portsOff = true
      ∧ (devXbar.set (F.IOX_PIN_CFG_PULL 63) 3).groupBad 7 = some (.reservedValue, 63)
      ∧ devXbar.groupWritable 1 1 = false ∧ devXbar.groupWritable Initiator.smv.key 7 = false)
    ∧ (devXbar.pinOwned 1 0 = true ∧ devXbar.pinOwned (Initiator.zone z3).key 0 = false
      ∧ devXbar.mapWriteBad (F.IOX_PIN_MAP_IN 0) true 0x48 = none
      ∧ devXbar.mapWriteBad (F.IOX_PIN_MAP_OUT_B 0) false 0x48 = some .reservedValue
      ∧ devXbar.mapWhy 0 0x48 0x48 0 = some .reservedValue ∧ devXbar.mapWhy 0 0xFF 0 0 = some .signalUnknown
      ∧ devXbar.mapWhy 0 0x48 0 0 = none
      ∧ devXbar.pinOwned (Initiator.zone z27).key 9 = true)
    ∧ (devXbar.get (F.IOX_PIN_OWNER_KIND 63) ≠ 1 ∧ devXbar.get (F.IOX_PIN_OWNER_KIND 9) = 2
      ∧ zoneUnit z27.no < 4096 ∧ devXbar.get (F.IOX_PIN_OWNER_KIND 8) = 1
      ∧ devXbar.pinOwned Initiator.smv.key 0 = false ∧ devXbar.get (F.IOX_PIN_OWNER_KIND 0) ≠ 2)
    ∧ (devXbar.genInUse 0 = false ∧ devXbar.genInUse 63 = true ∧ 0 ≠ devXbar.get (F.IOX_GEN_CFG_EN 63)
      ∧ devXbar.mioOff = false)
    ∧ (devXbar.pSvc = true ∧ devXbar.sigPins 0x48 = [5] ∧ devXbar.board.vmio = true ∧ (devXbar.pinDrive 5).2 = false
      ∧ true ≠ bit devXbar.eviSeen 8 ∧ bit (devXbar.get F.IOX_EVI_CFG_EDGE) 16 = true
      ∧ bit (devXbar.get F.IOX_EVI_CFG_EDGE) 17 = false ∧ devXbar.idState 7 = 0
      ∧ devXbar.ev.queue.length < 64) := by decide +kernel

/-- A device whose encoder 0 and mark channel 0 are routed by their claims (pins 24, 25 and 48), the encoder enabled. -/
def devEnc : Device :=
  dev0.setAll [(F.IOX_GRP_CTL_EN 3, 1), (F.IOX_GRP_CTL_EN 6, 1), (F.MFE_ENC_CFG_EN 0, 1)]
/-- A device whose encoder 0 counts Z. -/
def devZ (zmode : Nat) : Device := (devEnc.set (F.MFE_ENC_CFG_ZMODE 0) zmode).setEncoder 0 { Encoder.idle with pos := 9, zFirst := true }
/-- A device whose encoder 0 reads an SSI encoder of 12 bits. -/
def devSsi (frame : Option Bool) : Device :=
  (devEnc.setAll [(F.MFE_ENC_CFG_MODE 0, 1), (F.MFE_ENC_CFG_BITS 0, 12)]).setEncoder 0
    { Encoder.idle with vPrev := 4000, frame := frame }

/-- The witnesses of EncoderCommands. -/
theorem witness_EncoderCommands :
    (dev0.board.mck = true ∧ dev0.get (F.MFE_ENC_CFG_EN 7) = 0 ∧ dev0.encBad 7 = false ∧ dev0.unfollowed 7 = true
      ∧ dev0.running = true ∧ (dev0.set (F.MFE_ENC_CFG_ZMODE 7) 3).encBad 7 = true)
    ∧ (devEnc.pSvc = true ∧ devEnc.routed 1 24 = true ∧ devEnc.routed 2 25 = true ∧ devEnc.get (F.MFE_ENC_CFG_EN 0) = 1
      ∧ devEnc.get (F.MFE_ENC_CFG_MODE 0) = 0 ∧ (devEnc.encoder 0).a = false ∧ (devEnc.encoder 0).b = false
      ∧ devEnc.unfollowed 0 = true ∧ devEnc.zCounts 0 = false ∧ devEnc.running = true)
    ∧ ((devZ 1).pSvc = true ∧ (devZ 1).zCounts 0 = true ∧ (devZ 1).sigPins 3 = [26]
      ∧ (devZ 1).get (F.MFE_ENC_CFG_ZMODE 0) ≠ 2 ∧ (devZ 2).zCounts 0 = true ∧ (devZ 2).get (F.MFE_ENC_CFG_ZMODE 0) = 2
      ∧ ((devZ 2).encoder 0).zFirst = true ∧ (devZ 2).unfollowed 0 = true ∧ (devZ 2).sigPins 3 = [26])
    ∧ ((devSsi none).pSvc = true ∧ (devSsi none).clk.osc = Osc.STABLE ∧ (devSsi none).routed 2 25 = true
      ∧ (devSsi none).get (F.MFE_ENC_CFG_EN 0) = 1 ∧ (devSsi none).get (F.MFE_ENC_CFG_MODE 0) = 1
      ∧ ((devSsi none).encoder 0).frame = none ∧ ((devSsi (some true)).encoder 0).frame.isSome = true
      ∧ (devSsi (some true)).running = true ∧ ((devSsi (some true)).encoder 0).frame = some true
      ∧ (devSsi (some true)).routed 2 25 = true ∧ (devSsi (some true)).get (F.MFE_ENC_CFG_GRAY 0) = 0
      ∧ 10 ≤ (devSsi (some true)).get (F.MFE_ENC_CFG_BITS 0) ∧ (devSsi (some true)).unfollowed 0 = true
      ∧ ((devSsi (some false)).encoder 0).frame = some false)
    ∧ (dev0.clk.osc = Osc.STABLE ∧ dev0.get F.MFE_STILL_CFG_EN = 0
      ∧ (dev0.set F.MFE_STILL_CFG_EN 1).get F.MFE_STILL_CFG_EN = 1
      ∧ (dev0.setAll [(F.MFE_STILL_CFG_EN, 1), (F.MFE_STILL_CFG_DWELL, 1), (F.MFE_STATUS_STILL, 1)]).get
          F.MFE_STATUS_STILL = 1
      ∧ 1 ≤ (dev0.setAll [(F.MFE_STILL_CFG_EN, 1), (F.MFE_STILL_CFG_DWELL, 1), (F.MFE_STATUS_STILL, 1)]).get
          F.MFE_STILL_CFG_DWELL
      ∧ (withClk (fun c => { c with osc := 0 }) dev0).clk.osc ≠ Osc.STABLE) := by decide +kernel

/-- A device whose mark channel 0 (HIST 2, LEAD 100, WINDOW 50, MISS_LIMIT 1) times marks by encoder 0 at position 5000. -/
def devMark (state out : Nat) (m : MarkChannel) : Device :=
  let d := devEnc.setAll [(F.MFE_MK_CFG_EN 0, 1), (F.MFE_MK_CFG_HIST 0, 2), (F.MFE_MK_CFG_MISS_LIMIT 0, 1),
    (F.MFE_MK_LEAD_COUNTS 0, 100), (F.MFE_MK_WINDOW_COUNTS 0, 50), (F.MFE_MK_CFG_EVT_EN 0, 1),
    (F.MFE_MK_STATUS_STATE 0, state), (F.MFE_MK_STATUS_OUTSTANDING 0, out)]
  (d.setEncoder 0 { Encoder.idle with pos := 5000 }).setMark 0 m
/-- A channel after an edge at position 4000 and an interval of 999 counts. -/
def markAfter (next : Nat) : MarkChannel :=
  { MarkChannel.idle with last := some 4000, prev := some 4000, hist := [999], pLast := 4000, pNext := next }

/-- The witnesses of MarkChannels. -/
theorem witness_MarkChannels :
    (dev0.board.mck = true ∧ dev0.running = true ∧ dev0.get (F.MFE_MK_CFG_EN 7) = 0 ∧ 2 ≤ dev0.get (F.MFE_MK_CFG_HIST 7)
      ∧ dev0.get (F.MFE_MK_CFG_HIST 7) ≤ 16 ∧ dev0.get (F.MFE_MK_CFG_MISS_LIMIT 7) ≠ 0
      ∧ dev0.get (F.MFE_MK_WINDOW_COUNTS 7) ≤ dev0.get (F.MFE_MK_LEAD_COUNTS 7)
      ∧ (dev0.set (F.MFE_MK_CFG_HIST 7) 17).get (F.MFE_MK_CFG_HIST 7) = 17)
    ∧ (let d := devMark 0 0 .idle
       d.pSvc = true ∧ d.routed 0x20 48 = true ∧ d.get (F.MFE_MK_CFG_EN 0) = 1 ∧ true ≠ (d.mark 0).level
       ∧ b2n true ≠ d.get (F.MFE_MK_CFG_EDGE 0) ∧ (d.mark 0).last = none ∧ d.get (F.MFE_MK_STATUS_STATE 0) = 0
       ∧ d.clk.rootGated = false ∧ (d.mark 0).prev = none ∧ (d.mark 0).hist.length < d.get (F.MFE_MK_CFG_HIST 0)
       ∧ b2n false = d.get (F.MFE_MK_CFG_EDGE 0))
    ∧ (let d := devMark 0 0 (markAfter 0)
       (d.mark 0).last = some 4000 ∧ d.get (F.MFE_MK_MASK_COUNTS 0) ≤ (posDiff (d.markPos 0) 4000).natAbs
       ∧ (d.mark 0).prev = some 4000 ∧ d.get (F.MFE_MK_STATUS_OUTSTANDING 0) = 0
       ∧ (let h := d.histAdd 0 (d.mark 0).hist (posDiff (d.markPos 0) 4000)
          let n := d.get (F.MFE_MK_CFG_HIST 0)
          let pitch := (h.foldl (· + ·) 0 + Int.ofNat (n / 2)) / Int.ofNat n
          h.length = n ∧ pitch = 1000 ∧ posDiff (d.markPos 0) (posAdd (d.markPos 0) pitch)
            < -Int.ofNat (d.get (F.MFE_MK_LEAD_COUNTS 0))))
    ∧ (let d := (devMark 0 0 (markAfter 0)).set (F.MFE_MK_CFG_HIST 0) 3;
       d.pSvc = true ∧ d.routed 0x20 48 = true ∧ d.get (F.MFE_MK_CFG_EN 0) = 1 ∧ true ≠ (d.mark 0).level
       ∧ b2n true ≠ d.get (F.MFE_MK_CFG_EDGE 0) ∧ (d.mark 0).last = some 4000
       ∧ d.get (F.MFE_MK_MASK_COUNTS 0) ≤ (posDiff (d.markPos 0) 4000).natAbs ∧ d.get (F.MFE_MK_STATUS_STATE 0) = 0
       ∧ d.clk.rootGated = false ∧ (d.mark 0).prev = some 4000
       ∧ (d.histAdd 0 (d.mark 0).hist (posDiff (d.markPos 0) 4000)).length < d.get (F.MFE_MK_CFG_HIST 0))
    ∧ (let d := devMark 1 1 (markAfter 5050)
       d.running = true ∧ d.get (F.MFE_MK_STATUS_STATE 0) = 1 ∧ d.get (F.MFE_MK_STATUS_OUTSTANDING 0) = 1
       ∧ d.camsIdle = true ∧ 0 < d.get (F.MFE_MK_CFG_HIST 0)
       ∧ -Int.ofNat (d.get (F.MFE_MK_WINDOW_COUNTS 0)) ≤ posDiff (d.markPos 0) (d.mark 0).pNext
       ∧ (let m := d.mark 0
          let h := d.histAdd 0 m.hist (posDiff (d.markPos 0) m.pLast)
          let n := d.get (F.MFE_MK_CFG_HIST 0)
          posDiff (d.markPos 0) (posAdd (d.markPos 0) ((h.foldl (· + ·) 0 + Int.ofNat (n / 2)) / Int.ofNat n))
            < -Int.ofNat (d.get (F.MFE_MK_LEAD_COUNTS 0))))
    ∧ (let d := devMark 1 1 (markAfter 5051)
       posDiff (d.markPos 0) (d.mark 0).pNext < -Int.ofNat (d.get (F.MFE_MK_WINDOW_COUNTS 0))
       ∧ d.get (F.MFE_MK_CFG_MISS_LIMIT 0) ≤ d.get (F.MFE_MK_STATUS_MISSES 0) + 1)
    ∧ (let d := devMark 1 0 (markAfter 5101)
       d.get (F.MFE_ENC_CFG_DIR 0) = 0 ∧ d.zCounts 0 = false ∧ d.get (F.MFE_MK_CFG_ENC 0) = 0
       ∧ (∀ j, j < 8 → j ≠ 0 → d.get (F.MFE_MK_CFG_EN j) = 0) ∧ d.get (F.MFE_MK_STATUS_OUTSTANDING 0) = 0
       ∧ d.routed 1 24 = true ∧ d.routed 2 25 = true ∧ d.camsIdle = true
       ∧ posDiff (posAdd (d.encoder 0).pos 1) (d.mark 0).pNext = -Int.ofNat (d.get (F.MFE_MK_LEAD_COUNTS 0))) := by
  decide +kernel

/-- A segment of 1000 counts whose set-point is 7, followed by segment 1, with no retract. -/
def seg0 (next trig : Nat) : List Nat :=
  [1000 * 2 ^ 40 + 0xFFFFFF * 2 ^ 16 + next, 0xFFFF * 2 ^ 48, trig * 2 ^ 12, 0, 7 * 2 ^ 32, 0, 0, 0]
/-- A device whose engine 0 owns pool bank 1 and is to run a table of two segments there. -/
def devCam (f : List (Field × Nat)) (c : CamEngine) : Device :=
  let d := dev0.setAll ([(F.CAM_ENG_TABLE_TABLE 0, 2 ^ 21), (F.CAM_ENG_TCOUNT_TCOUNT 0, 2), (F.CAM_ENG_PERIOD_PERIOD 0, 10),
    (F.CAM_ENG_RING_RING 0, 2 ^ 21 + 4096), (F.CAM_ENG_RING_LEN_LEN 0, 4), (F.CAM_ENG_TARGET_DIE 0, 1)] ++ f)
  { (d.setCam 0 c) with pool := { d.pool with eff := [(1, 2)] } }
/-- A state of it with both segments in the pool. -/
def stCam (trig : Nat) (d : Device) : State :=
  let rows (n : Nat) (w : List Nat) : List (Nat × Code72) :=
    (w.zipIdx.filter (fun (e : Nat × Nat) => e.1 != 0)).map (fun (e : Nat × Nat) => (n + e.2, eccEncode e.1))
  { st d with mem := { (st d).mem with pool := rows (2 ^ 18) (seg0 1 trig) ++ rows (2 ^ 18 + 8) (seg0 9 0) } }
/-- An engine in segment 0. -/
def camRun (fetch : List Nat) : CamEngine := { CamEngine.idle with seg := seg0 1 0, first := true, fetch := fetch }

/-- The witnesses of CamEngines. -/
theorem witness_CamEngines :
    (let d := devCam [] .idle
     d.board.mck = true ∧ d.get (F.CAM_ENG_CTL_EN 0) = 0 ∧ d.camCheck 0 [2 ^ 40] false = none
     ∧ (stCam 0 d).dev.camWords (stCam 0 d).mem 8 (d.segAddr 0 (d.get (F.CAM_ENG_CTL_START 0)) / 8)
        = ((stCam 0 d).dev, seg0 1 0, false)
     ∧ (stCam 2 d).dev.camWords (stCam 2 d).mem 8 (d.segAddr 0 (d.get (F.CAM_ENG_CTL_START 0)) / 8)
        = ((stCam 2 d).dev, seg0 1 2, false)
     ∧ d.camCheck 0 (seg0 1 0) false = none ∧ d.camCheck 0 (seg0 1 2) false = none ∧ dev0.running = true
     ∧ dev0.camCheck 15 [2 ^ 40] false = some .reservedValue)
    ∧ (let d := devCam [(F.CAM_ENG_STATUS_STATE 0, 2)] (camRun [0])
       d.pSvc = true ∧ (d.cam 0).fetch = 0 :: [] ∧ d.running = true ∧ d.get (F.CAM_ENG_CTL_DEST 0) = 0
       ∧ d.camOwns 0 (d.segAddr 0 (d.fetchIndex 0 0)) (d.segAddr 0 (d.fetchIndex 0 0) + 64) = true
       ∧ segBad (seg0 9 0) (d.get (F.CAM_ENG_TCOUNT_TCOUNT 0)) = true
       ∧ segBad (seg0 1 0) (d.get (F.CAM_ENG_TCOUNT_TCOUNT 0)) = false)
    ∧ (∀ d : Device, d.camWords (stCam 0 dev0).mem 8 (2 ^ 18 + 8) = (d, seg0 9 0, false))
    ∧ (∀ d : Device, d.camWords (stCam 0 dev0).mem 8 (2 ^ 18) = (d, seg0 1 0, false))
    ∧ (let d := devCam [(F.CAM_ENG_STATUS_STATE 0, 2)] (camRun [])
       d.camState 0 = 2 ∧ d.clk.osc = Osc.STABLE ∧ 0 ≤ d.camOffset 0 ∧ (d.init 35).fence = none
       ∧ d.get (F.CAM_ENG_TARGET_DIE 0) = 1 ∧ d.fenced 1 = false ∧ d.get (F.CAM_ENG_RING_RING 0) % 16 = 0
       ∧ (stCam 0 d).mem.wf = true
       ∧ (let a := d.get (F.CAM_ENG_RING_RING 0) + 16 * d.get (F.CAM_ENG_RING_IDX_IDX 0)
          d.camOwns 0 a (a + 16) = true ∧ d.flipArmed (wordUnit (a / 8)) (wordBank (a / 8) % 4) = false)
       ∧ (d.set (F.CAM_ENG_CTL_DEST 0) 2).get (F.CAM_ENG_CTL_DEST 0) = 2 ∧ (d.cam 0).fetch = []
       ∧ dev0.camState 0 = 0) :=
  ⟨by decide +kernel, by decide +kernel, fun _ => rfl, fun _ => rfl, by decide +kernel⟩

/-- A device whose port 0 is enabled in a state, its presence (active low) routed from pin 5. -/
def devId (state : Nat) (p : IdPort) : Device :=
  let d := dev0.setAll [(F.IOX_GRP_CTL_MODE 0, 1), (F.IOX_GRP_CTL_EN 0, 1), (F.IOX_PIN_MAP_IN 5, 0x40),
    (F.IDR_PORT_CFG_EN 0, 1), (F.IDR_PORT_STATUS_STATE 0, state)]
  d.setId 0 p
/-- A port whose part is there and debounced. -/
def portIn (tx : Nat) : IdPort := { IdPort.idle with raw := true, deb := true, tx := tx }

/-- The witnesses of IdentityReads. -/
theorem witness_IdentityReads :
    ((devId 1 .idle).pSvc = true ∧ (devId 1 .idle).routed 0x40 5 = true
      ∧ bits ((devId 1 .idle).get F.IOX_EVI_CFG_EDGE) 1 0 = 0 ∧ (devId 1 .idle).idState 0 = 1
      ∧ ((devId 1 .idle).idPort 0).raw = false ∧ ((devId 1 .idle).idPort 0).kept = false ∧ b2n false = (devId 1 .idle).get (F.IDR_PORT_CFG_PRES_POL 0)
      ∧ (devId 4 (portIn 0)).routed 0x40 5 = true ∧ (devId 4 (portIn 0)).idState 0 = 4
      ∧ ((devId 2 (portIn 0)).idPort 0).raw = true ∧ (devId 2 (portIn 0)).idState 0 = 2)
    ∧ (let d := devId 2 { IdPort.idle with raw := true }
       d.running = true ∧ d.idRuns = true ∧ d.idState 0 = 2 ∧ (d.idPort 0).raw = true ∧ (d.idPort 0).deb = false
       ∧ (d.idPort 0).tx = 0)
    ∧ (let d := devId 6 { portIn 0 with raw := false, back := 4 }
       d.running = true ∧ d.idRuns = true ∧ d.idState 0 = 6 ∧ (d.idPort 0).raw = false ∧ (d.idPort 0).deb = true
       ∧ d.gaf.cur = none ∧ d.gaf.pend = none)
    ∧ (let d := devId 3 (portIn 1)
       d.running = true ∧ (d.idPort 0).tx = 1 ∧ d.idState 0 = 3 ∧ (d.idPort 0).cmd = false ∧ d.get F.GAF_CTL_EN = 0
       ∧ (d.idPort 0).again = false ∧ (d.idPort 0).raw = (d.idPort 0).deb ∧ (d.idPort 0).due = false)
    ∧ ((devId 3 { portIn 1 with again := true }).idPort 0).again = true
    ∧ (let d := devId 3 { portIn 0 with due := true }
       d.idRuns = true ∧ (d.idPort 0).due = true ∧ (d.idPort 0).tx = 0 ∧ (d.idPort 0).raw = true ∧ d.idState 0 = 3)
    ∧ (dev0.board.mck = true ∧ dev0.get (F.IDR_PORT_CFG_EN 7) = 0 ∧ dev0.clk.osc = Osc.STABLE
      ∧ dev0.get (F.IDR_PORT_CFG_DEB_MS 7) ≠ 0
      ∧ 1 ≤ dev0.get (F.IDR_PORT_CFG_WR_MS 7) ∧ dev0.get (F.IDR_PORT_CFG_WR_MS 7) ≤ 50 ∧ dev0.get (F.IDR_PORT_CFG_PAGE 7) ≠ 3
      ∧ (dev0.set (F.IDR_PORT_CFG_ADDR 7) 7).get (F.IDR_PORT_CFG_ADDR 7) < 8
      ∧ 8 ≤ (dev0.set (F.IDR_PORT_CFG_ADDR 7) 0x77).get (F.IDR_PORT_CFG_ADDR 7)
      ∧ (dev0.set (F.IDR_PORT_CFG_ADDR 7) 0x77).get (F.IDR_PORT_CFG_ADDR 7) < 0x78
      ∧ (devId 3 (portIn 1)).get (F.IDR_PORT_CFG_EN 0) = 1) := by decide +kernel

/-- A READY port whose counter is 100 with sequence 3, and with 5 to add. -/
def devCount (p : IdPort) : Device :=
  (devId 4 p).setAll [(F.IDR_PORT_COUNT_VALUE 0, 100), (F.IDR_PORT_SEQ_SEQ 0, 3), (F.IDR_PORT_STATUS_NEXT_CELL 0, 4),
    (F.IDR_PORT_PENDING_DELTA 0, 5), (F.IDR_DELTA_DELTA, 7)]
/-- The cell write that follows. -/
def cellWrite : IdWrite := { kind := 0, cell := 4, seq := 4, val := 105, delta := 5 }

/-- The witnesses of IdentityWrites. -/
theorem witness_IdentityWrites :
    (let d := devCount (portIn 0)
     d.board.mck = true ∧ d.running = true ∧ d.idRefusal 1 0 (d.get F.IDR_CMD_LEN) (d.get F.IDR_CMD_ADDR) = none
     ∧ d.idRefusal 2 0 (d.get F.IDR_CMD_LEN) (d.get F.IDR_CMD_ADDR) = none ∧ d.idRefusal 3 0 8 0x78 = none
     ∧ d.idRefusal 4 0 (d.get F.IDR_CMD_LEN) (d.get F.IDR_CMD_ADDR) = none ∧ d.idRefusal 3 0 9 0x78 = some .reservedValue
     ∧ d.get (F.IDR_PORT_PENDING_DELTA 0) + d.get F.IDR_DELTA_DELTA < 2 ^ 32 ∧ d.idRuns = true
     ∧ (d.idPort 0).raw = true ∧ (d.idPort 0).tx = 0 ∧ (d.idPort 0).wr = none ∧ (d.idPort 0).redo = none
     ∧ d.get (F.IDR_PORT_PENDING_DELTA 0) ≠ 0 ∧ d.get (F.IDR_PORT_STATUS_WR_STOPPED 0) = 0
     ∧ d.get (F.IDR_PORT_STATUS_CNT_BAD 0) = 0 ∧ d.idState 0 = 4
     ∧ dev0.idRefusal 1 7 (dev0.get F.IDR_CMD_LEN) (dev0.get F.IDR_CMD_ADDR) = some .descriptorInvalid)
    ∧ (let d := devCount { portIn 2 with wr := some cellWrite }
       d.idRuns = true ∧ (d.idPort 0).tx = 2 ∧ (d.idPort 0).wr = some cellWrite ∧ cellWrite.kind = 0 ∧ d.running = true
       ∧ d.get (F.IDR_PORT_PENDING_DELTA 0) + cellWrite.delta < 2 ^ 32)
    ∧ (let d := devCount { portIn 4 with wr := some cellWrite }
       (d.idPort 0).tx = 4 ∧ d.running = true ∧ cellWrite.seq < 2 ^ 24 ∧ cellWrite.val < 2 ^ 32
       ∧ cellBytes cellWrite.seq cellWrite.val < 2 ^ 64 ∧ 0 ≠ cellBytes cellWrite.seq cellWrite.val) := by decide +kernel

/-- A device whose lane 1 of quad 0 is set to 10 Gb/s, with some registers more. -/
def devLane (f : List (Field × Nat)) (x : LaneState) : Device :=
  let d := withBoard (fun b => { b with vlane := true, vlanet := true }) dev0
  ((d.set (F.LQ_LANE_RATE_KBPS (quadUnit 0) 1) 10000000).setAll f).setLane 0 1 x
/-- The fields of a lane that hears. -/
def hearing : List (Field × Nat) :=
  [(F.LQ_LANE_CTL_EN (quadUnit 0) 1, 1), (F.LQ_LANE_CTL_TX_EN (quadUnit 0) 1, 1), (F.LQ_QLOOP_STATE (quadUnit 0), 2),
    (F.LQ_LANE_STATUS_CDR_LOCK (quadUnit 0) 1, 1)]
/-- A block of 5. -/
def block5 : LaneBlock := { word := eccEncode 5, ctrl := false, err := false }

/-- The witnesses of LanesAndLoops. -/
theorem witness_LanesAndLoops :
    (let d := devLane [] .idle
     d.refusalsFull (quadDie 0) = false ∧ d.laneOn 0 1 = false ∧ d.laneRefusal 0 1 = none ∧ d.divFor 0 1 = some 1
     ∧ d.otherLane 0 1 = none ∧ d.quadMayRun 0 = true ∧ d.silent (quadUnit 0) = false
     ∧ (devLane [(F.LQ_LANE_RATE_KBPS (quadUnit 0) 2, 1000)] .idle).laneRefusal 0 2 = some .laneRateUnsupported
     ∧ d.laneOn 0 2 = false ∧ d.laneRuns 0 1 = false)
    ∧ devFull.refusalsFull (quadDie 0) = true
    ∧ (let d := devLane hearing .idle
       d.laneOn 0 1 = true ∧ d.running = true ∧ d.laneRuns 0 1 = true
       ∧ d.get (F.LQ_LANE_CTL_LOOP (quadUnit 0) 1) ≠ 1)
    ∧ (let d := devLane [(F.LQ_LANE_CTL_EN (quadUnit 0) 1, 1), (F.LQ_QLOOP_STATE (quadUnit 0), 1)] .idle
       d.quadState 0 = 1 ∧ d.quadMayRun 0 = true ∧ dev0.quadState 0 ≠ 1)
    ∧ (let d := devLane [(F.LQ_LANE_CTL_EN (quadUnit 0) 0, 1), (F.LQ_QLOOP_STATE (quadUnit 0), 2),
        (F.LQ_LANE_RATE_KBPS (quadUnit 0) 0, 20000000), (F.LQ_LANE_STATUS_DIV (quadUnit 0) 0, 0)] .idle
       d.laneOn 0 1 = false ∧ d.laneRefusal 0 1 = none ∧ d.divFor 0 1 = some 1 ∧ d.otherLane 0 1 ≠ none) := by
  decide +kernel

/-- The witnesses of LaneBlocks. -/
theorem witness_LaneBlocks :
    (let d := devLane hearing .idle
     d.laneHears 0 1 = true ∧ d.get (F.LQ_LANE_CTL_LOOP (quadUnit 0) 1) = 0 ∧ d.get (F.LQ_LANE_CTL_MODE (quadUnit 0) 1) = 0
     ∧ d.get (F.LQ_LANE_STATUS_BLOCK_LOCK (quadUnit 0) 1) = 0 ∧ d.get (F.LQ_LANE_SWEEP_CTL_GO (quadUnit 0) 1) = 0
     ∧ d.running = true ∧ d.silent (quadUnit 0) = false
     ∧ (d.lane 0 1).good + 1 < d.get (F.LQ_LANE_LOCK_LOCK_GOOD (quadUnit 0) 1)
     ∧ d.txIdle 0 1 = false ∧ d.get (F.LQ_LANE_CTL_TX_POL (quadUnit 0) 1) = 0 ∧ (d.lane 0 1).tx = []
     ∧ dev0.txIdle 0 1 = true ∧ dev0.laneHears 0 1 = false ∧ dev0.get (F.LQ_LANE_CTL_LOOP (quadUnit 0) 1) ≠ 1)
    ∧ (let d := devLane hearing { LaneState.idle with good := 63 }
       d.get (F.LQ_LANE_LOCK_LOCK_GOOD (quadUnit 0) 1) ≤ (d.lane 0 1).good + 1)
    ∧ (let d := devLane ((F.LQ_LANE_STATUS_BLOCK_LOCK (quadUnit 0) 1, 1) :: hearing) .idle
       d.laneHears 0 1 = true ∧ d.get (F.LQ_LANE_CTL_RX_POL (quadUnit 0) 1) = 0
       ∧ d.get (F.LQ_LANE_STATUS_BLOCK_LOCK (quadUnit 0) 1) = 1 ∧ d.get (F.LQ_LANE_CTL_LOOP (quadUnit 0) 1) = 0
       ∧ d.get (F.LQ_LANE_CTL_MODE (quadUnit 0) 1) = 0
       ∧ (d.lane 0 1).bad < d.get (F.LQ_LANE_LOCK_LOCK_BAD (quadUnit 0) 1) ∧ d.laneMayLand 0 2 = false
       ∧ (d.lane 0 1).rx.length < 32 ∧ (d.lane 0 1).overflow = false)
    ∧ 32 ≤ (List.replicate 32 block5).length
    ∧ (let d := devLane hearing { LaneState.idle with tx := [block5] }
       (d.lane 0 1).tx = block5 :: [] ∧ eccDecode block5.word = (5, .good) ∧ block5.err = false ∧ d.txIdle 0 1 = false)
    ∧ (let d := devLane (hearing ++ [(F.LQ_LANE_CTL_MODE (quadUnit 0) 1, 1), (F.LQ_LANE_PRBS_CHK (quadUnit 0) 1, 4),
        (F.LQ_LANE_STATUS_PRBS_LOCK (quadUnit 0) 1, 1)]) { LaneState.idle with chk := 2 ^ 31 - 1 }
       d.laneHears 0 1 = true ∧ d.get (F.LQ_LANE_CTL_MODE (quadUnit 0) 1) = 1
       ∧ d.get (F.LQ_LANE_PRBS_CHK (quadUnit 0) 1) ≠ 0 ∧ d.get (F.LQ_LANE_STATUS_PRBS_LOCK (quadUnit 0) 1) = 1
       ∧ (d.lane 0 1).wrong < 64 ∧ (prbsRun 4 64 (d.lane 0 1).chk).1 < 2 ^ 64)
    ∧ (let d := devLane ((F.LQ_LANE_SWEEP_CTL_GO (quadUnit 0) 1, 1) :: hearing) { LaneState.idle with sweepStep := 15 }
       d.refusalsFull (quadDie 0) = false ∧ d.clk.osc = Osc.STABLE
       ∧ d.get (F.LQ_LANE_SWEEP_CTL_GO (quadUnit 0) 1) = 1 ∧ (d.lane 0 1).sweepStep = 15 ∧ (d.lane 0 1).sweepPeak < 16
       ∧ d.running = true ∧ d.silent (quadUnit 0) = false) := by decide +kernel

/-- A device with two running zones and one that is gated, and SAFE_HOLD as the trip action. -/
def devWarm : Device :=
  (((zoneIn 0 Zc.ROOT dev0).setZcState 1 Zc.REF).setZcState 2 Zc.GATED).setAll [(F.ZN_CLK_STATUS_DIV_NOW (zoneUnit 0), 4),
    (F.MG_THERM_CFG_ACTION, 2)]
/-- The device tripped, with the zones held: one by the trip on the root, one on the reference, one also by the Lehr. -/
def devTripped : Device :=
  let hold (ref : Bool) (z : Zone) : Zone :=
    { z with clk := { z.clk with held := some .therm, heldRef := ref, heldDiv := 4 } }
  let d := ((devWarm.setZcState 0 Zc.HELD).modZone 0 (hold false)).setZcState 1 Zc.HELD |>.modZone 1 (hold true)
  let d := (d.setZcState 65 Zc.HELD).modZone 65 (hold true)
  d.setAll [(F.MG_THERM_STATUS_TRIP, 1), (F.MG_THERM_STATUS_ACTIVE, 1), (F.LHR_HELD_LO_ZONES (U.GTH 2), 2)]

/-- The witnesses of Thermal. -/
theorem witness_Thermal :
    (devWarm.get F.PW_STATUS_PHASE = 0 ∧ 118 ≤ (118#8).toInt ∧ devWarm.get F.MG_THERM_STATUS_TRIP = 0
      ∧ devWarm.get F.MG_THERM_CFG_ACTION = 2 ∧ devWarm.zcState 0 ∈ [Zc.REF, Zc.ROOT, Zc.RIDING]
      ∧ devWarm.zcState 1 ∈ [Zc.REF, Zc.ROOT, Zc.RIDING] ∧ devWarm.zcState 2 ∈ [Zc.STOPPED, Zc.GATED, Zc.HELD]
      ∧ (devWarm.setZcState 3 Zc.SWITCHING).zcState 3 = Zc.SWITCHING
      ∧ (devWarm.setZcState 3 Zc.RAMPING).zcState 3 = Zc.RAMPING)
    ∧ (let w := signed 8 (devWarm.get F.MG_THERM_CFG_WARN)
       w ≤ signed 8 100 ∧ devWarm.warnOn = false ∧ signed 8 99 < w ∧ w - 5 ≤ signed 8 95 ∧ signed 8 94 < w - 5)
    ∧ (devTripped.board.mck = true ∧ devTripped.get F.PW_STATUS_PHASE = 0 ∧ devTripped.zcState 0 = Zc.HELD
      ∧ (devTripped.zone 0).clk.held = some .therm ∧ devTripped.lehrHeld 0 = false ∧ devTripped.loopLocked 0 = true
      ∧ devTripped.silent (zoneUnit 0) = false ∧ (devTripped.zone 1).clk.heldRef = true
      ∧ devTripped.lehrHeld 1 = false ∧ devTripped.clk.osc = Osc.STABLE
      ∧ (withClk (fun c => { c with osc := Osc.FAILED }) devTripped).clk.osc ≠ Osc.STABLE
      ∧ devTripped.zcState 65 = Zc.HELD ∧ (devTripped.zone 65).clk.held = some .therm ∧ devTripped.lehrHeld 65 = true
      ∧ (withClk (fun c => { c with root := Loop.HOLDOVER }) devTripped).loopLocked 0 = false)
    ∧ (withBoard (fun b => { b with mck := false }) dev0).board.mck = false := by decide +kernel

/-- The witnesses of RegisterWrites. -/
theorem witness_RegisterWrites :
    (regDesc 0xFFF = none ∧ (withBoard (fun b => { b with mck := false }) dev0).board.mck = false
      ∧ devFull.refusalsFull 1 = true ∧ dev0.board.mck = true ∧ dev0.running = true
      ∧ dev0.rst.por = false)
    ∧ (10 ≤ 10 % 16384 ∧ 10000 % 16384 ≤ 10000 ∧ (9 ≠ dev0.get F.MG_MCK_LOSS_LOSS_US)
      ∧ 10001 ≠ dev0.get F.MG_MCK_LOSS_LOSS_US ∧ 999999 ≠ dev0.get F.MG_MCK_HZ_HZ ∧ 50000001 % 2 ^ 26 = 50000001)
    ∧ (let d := dev0.set (F.LHR_CTL_EN (U.GTH 1)) 1
       d.fenced 1 = false ∧ d.refusalsFull 1 = false ∧ d.on (F.LHR_CTL_EN (U.GTH 1)) = true
       ∧ 0 ≠ d.get (F.LHR_POLICY_POLICY (U.GTH 1) 0)
       ∧ (dev0.set (F.LHR_CTL_EN (U.GTH 1)) 0).on (F.LHR_CTL_EN (U.GTH 1)) = false) := by decide +kernel

/-! ## Small tests, with the values that the spec works out -/

/-- What a command answers is a next state of which `P` holds. -/
def after (o : Host.Outcome State Fault Refusal) (P : State → Bool) : Bool :=
  match o with
  | .next t => P t
  | .fault _ => false
  | .refused _ => false

/-- R61: the CRC of the ASCII string "123456789". -/
theorem test_crc16 : crc16 [0x31, 0x32, 0x33, 0x34, 0x35, 0x36, 0x37, 0x38, 0x39] = 0x29B1 := by decide +kernel

/-- Chapter 03, reading MG_ID: the request's CRC, and the reply A5 00 5A 52 40 B0 96 25. -/
theorem test_mlink_reads_mg_id :
    crc16 [0x01, 0, 0, 0, 0, 0, 0x04] = 0x092B
    ∧ after (exec (.mlinkRd 0 4 0x092B) (st dev0))
        (fun t => t.dev.ml.reply == [0xA5, 0x00, 0x5A, 0x52, 0x40, 0xB0, 0x96, 0x25]) = true := by decide +kernel

/-- Chapter 11, testing the checker: the check byte of a word, and one, two and poisoned errors in it. -/
theorem test_ecc_worked_case :
    eccCheck 0x8000000000000101 = 0x92
    ∧ eccSyndrome (cwOf 0x8000000000000001 0x92) = 0x1A
    ∧ eccDecode (cwOf 0x8000000000000001 0x92) = (0x8000000000000101, .corrected)
    ∧ eccSyndrome (cwOf 0x8000000000000000 0x92) = 0x1D ∧ eccBad (cwOf 0x8000000000000000 0x92) = true
    ∧ cwCheck (eccPoison 0x8000000000000101) = 0xED := by decide +kernel

/-- Chapter 23, the worked counter: the cell with sequence 3 and count 10,001,000. -/
theorem test_counter_cell : cellBytes 3 10001000 = 0x00000300989A6822 := by decide +kernel

/-- Chapter 09, the ring address of F3:Z43. -/
theorem test_ring_address : zoneStop (2 * 64 + 43) * 2 ^ 38 = 0x6AC000000000 := by decide +kernel

/-- Zone F2:Z18 of chapter 06's worked case, on the root with N = 16, at the machine time of the GO. -/
def devPlan : Device :=
  let m := 1048576 + 1000003
  withClk (fun c => { c with epoch := 1048576, mult := 60, mt := m, copies := Tab.set (fun _ => 0) c.copies 2 m })
    ((zoneIn 82 Zc.ROOT dev0).setAll [(F.ZN_CLK_STATUS_DIV_NOW (zoneUnit 82), 16),
      (F.ZN_CLK_STATUS_ALIGNED (zoneUnit 82), 1)])

/-- Chapter 06, stop-switch-restart: the clock stops at E + 1,000,016. -/
theorem test_switch_stops :
    after (exec (.znClkGo ⟨1, 18⟩ false 10) (st devPlan)) (fun t =>
      (t.dev.zone 82).clk.ts == 1048576 + 1000016 && t.dev.zcState 82 == Zc.SWITCHING) = true := by decide +kernel

/-- Chapter 06, stop-switch-restart: the gap is 14 root cycles, and one cycle is lost. -/
theorem test_switch_restarts :
    after (exec (.znClkGo ⟨1, 18⟩ false 10) (st devPlan)) (fun t => after (exec (.zoneClkRestart ⟨1, 18⟩) t) (fun u =>
      u.dev.get (F.ZN_CLK_GAP_GAP (zoneUnit 82)) == 14 && u.dev.get (F.ZN_CLK_GAP_UNIT (zoneUnit 82)) == 0
      && u.dev.get (F.ZN_CLK_LOST_COUNT (zoneUnit 82)) == 1 && u.dev.zcState 82 == Zc.ROOT
      && u.dev.get (F.ZN_CLK_STATUS_DIV_NOW (zoneUnit 82)) == 10)) = true := by decide +kernel

/-- WellFormed: a WR frame with a byte too few cannot reach the device (Table 03.2). -/
theorem test_short_wr_ill_formed : Instr.wellFormed (.mlinkWr 0 2 [7] 0) = false := by decide
/-- WellFormed: a WRW frame with a byte too many cannot reach the device (Table 03.2). -/
theorem test_long_wrw_ill_formed : Instr.wellFormed (.mlinkWrw 0 0 [7] 0) = false := by decide
/-- WellFormed: a segment without its prefix and tag cannot reach the Gather (R377). -/
theorem test_short_segment_ill_formed : Instr.wellFormed (.gatherSegmentRead 0 [] false) = false := by decide
/-- WellFormed: a header that is not 256 bytes cannot reach the Gather (R374). -/
theorem test_short_header_ill_formed :
    Instr.wellFormed (.streamHeaderRead 0 false { primary := [], copy := [] } [] [] []) = false := by decide

/-- The opcode table gives its rows no bits, so no word puts a command into the queue. -/
theorem test_no_word_spells_a_command : State.reset.withFetchWord 32 5 = State.reset := rfl

end Sys2Proof.Tests
end

/-! The (72,64) code as a linear code: the syndrome of a XOR of codewords is the XOR of their syndromes, so the
syndrome of a stored word with some bits wrong is the XOR of the columns of H of those bits (R319, R320). -/

namespace Sys2Proof.Machine

/-! ## List and XOR facts that core Lean lacks; the model's files import no Mathlib -/

/-- The model writes `Nat.xor`; the lemmas here write `^^^`. -/
theorem natXor_eq (a b : Nat) : Nat.xor a b = a ^^^ b := rfl

theorem xor_xor_self_left (a b : Nat) : a ^^^ (a ^^^ b) = b := by
  rw [← Nat.xor_assoc, Nat.xor_self, Nat.zero_xor]

theorem xor_xor_self_right (a b : Nat) : a ^^^ b ^^^ b = a := by
  rw [Nat.xor_assoc, Nat.xor_self, Nat.xor_zero]

theorem eq_of_xor_eq_zero {a b : Nat} (h : a ^^^ b = 0) : a = b := by
  rw [← Nat.xor_zero a, ← h, xor_xor_self_left]

theorem getD_eq_getElem_of_lt {l : List Nat} {i : Nat} (h : i < l.length) : l.getD i 0 = l[i] := by
  rw [List.getD_eq_getElem?_getD, List.getElem?_eq_getElem h, Option.getD_some]

theorem getD_mem_of_lt {l : List Nat} {i : Nat} (h : i < l.length) : l.getD i 0 ∈ l :=
  getD_eq_getElem_of_lt h ▸ List.getElem_mem h

/-! ## The check byte is linear in the data -/

@[simp] theorem eccFold_zero (cols : List Nat) : eccFold cols 0 = 0 := by
  induction cols with
  | nil => rfl
  | cons c r ih => simpa [eccFold] using ih

/-- A fold takes each column or leaves it, by the lowest bit of the data. -/
theorem eccFold_cons (c : Nat) (r : List Nat) (d : Nat) :
    eccFold (c :: r) d = (if d.testBit 0 then c else 0) ^^^ eccFold r (d / 2) := by
  rw [eccFold, Nat.testBit_zero]
  by_cases h : d % 2 = 1
  · simp only [h, decide_true, if_true, natXor_eq]
  · simp [h]

theorem eccFold_xor (cols : List Nat) (a b : Nat) :
    eccFold cols (a ^^^ b) = eccFold cols a ^^^ eccFold cols b := by
  induction cols generalizing a b with
  | nil => simp [eccFold]
  | cons c r ih =>
    have hdiv : (a ^^^ b) / 2 = a / 2 ^^^ b / 2 := Nat.xor_div_two_pow (n := 1)
    have hcol : (if (a ^^^ b).testBit 0 then c else 0)
        = (if a.testBit 0 then c else 0) ^^^ (if b.testBit 0 then c else 0) := by
      rw [Nat.testBit_xor]
      cases a.testBit 0 <;> cases b.testBit 0 <;> simp
    simp only [eccFold_cons, hdiv, hcol, ih]
    ac_rfl

/-- A single data bit folds to its column. -/
theorem eccFold_two_pow (cols : List Nat) (i : Nat) : eccFold cols (2 ^ i) = cols.getD i 0 := by
  induction cols generalizing i with
  | nil => rfl
  | cons c r ih =>
    cases i with
    | zero => simp [eccFold_cons]
    | succ i => simp [eccFold, Nat.pow_succ, ih]

theorem eccFold_lt {n : Nat} {cols : List Nat} (h : ∀ c ∈ cols, c < 2 ^ n) (d : Nat) : eccFold cols d < 2 ^ n := by
  induction cols generalizing d with
  | nil => exact Nat.two_pow_pos n
  | cons c r ih =>
    obtain ⟨hc, hr⟩ := List.forall_mem_cons.mp h
    unfold eccFold
    split
    · exact Nat.xor_lt_two_pow hc (ih hr _)
    · exact ih hr _

/-- Bit `j` of a fold is the XOR of the data bits whose column has bit `j` set, here on top of a value `b`. -/
theorem foldl_xor_columns (cols : List Nat) (d j : Nat) (b : Bool) :
    (List.range cols.length).foldl (fun a i => a ^^ (d.testBit i && (cols.getD i 0).testBit j)) b
      = (b ^^ (eccFold cols d).testBit j) := by
  induction cols generalizing d b with
  | nil => simp [eccFold]
  | cons c r ih =>
    have hbit : (eccFold (c :: r) d).testBit j = (d.testBit 0 && c.testBit j ^^ (eccFold r (d / 2)).testBit j) := by
      rw [eccFold_cons, Nat.testBit_xor]
      cases d.testBit 0 <;> simp
    rw [List.length_cons, List.range_succ_eq_map, List.foldl_cons, List.foldl_map, hbit, ← Bool.xor_assoc, ← ih]
    simp only [List.getD_cons_zero, List.getD_cons_succ, Nat.succ_eq_add_one, Nat.testBit_div_two]

@[simp] theorem eccCheck_zero : eccCheck 0 = 0 := eccFold_zero eccColumns

theorem eccCheck_xor (a b : Nat) : eccCheck (a ^^^ b) = eccCheck a ^^^ eccCheck b := by
  simp only [eccCheck, Nat.xor_mod_two_pow, eccFold_xor]

theorem eccCheck_two_pow {i : Nat} (h : i < 64) : eccCheck (2 ^ i) = eccColumns.getD i 0 := by
  rw [eccCheck, Nat.mod_eq_of_lt (Nat.pow_lt_pow_right (by decide) h), eccFold_two_pow]

theorem eccCheck_lt (d : Nat) : eccCheck d < 256 := eccFold_lt (n := 8) (by decide) _

theorem eccCheck_testBit {d : Nat} (h : d < 2 ^ 64) (j : Nat) :
    (eccCheck d).testBit j
      = (List.range 64).foldl (fun a i => a ^^ (d.testBit i && (eccColumns.getD i 0).testBit j)) false := by
  rw [eccCheck, Nat.mod_eq_of_lt h, ← Bool.false_xor (Nat.testBit _ _)]
  exact (foldl_xor_columns eccColumns d j false).symm

/-! ## The parts of a codeword -/

@[simp] theorem cwData_xor (v w : Code72) : cwData (v ^^^ w) = cwData v ^^^ cwData w := by
  simp only [cwData, BitVec.toNat_xor, Nat.xor_mod_two_pow]

@[simp] theorem cwCheck_xor (v w : Code72) : cwCheck (v ^^^ w) = cwCheck v ^^^ cwCheck w := by
  simp only [cwCheck, BitVec.toNat_xor, Nat.xor_div_two_pow]

theorem cwOf_toNat (data check : Nat) : (cwOf data check).toNat = data % 2 ^ 64 + check % 256 * 2 ^ 64 := by
  rw [cwOf, BitVec.toNat_ofNat]
  omega

@[simp] theorem cwData_cwOf (data check : Nat) : cwData (cwOf data check) = data % 2 ^ 64 := by
  rw [cwData, cwOf_toNat]
  omega

@[simp] theorem cwCheck_cwOf (data check : Nat) : cwCheck (cwOf data check) = check % 256 := by
  rw [cwCheck, cwOf_toNat]
  omega

theorem toNat_twoPow_72 {i : Nat} (h : i < 72) : (BitVec.twoPow 72 i).toNat = 2 ^ i := by
  rw [BitVec.toNat_twoPow, Nat.mod_eq_of_lt (Nat.pow_lt_pow_right (by decide) h)]

theorem cwData_twoPow_data {i : Nat} (h : i < 64) : cwData (BitVec.twoPow 72 i) = 2 ^ i := by
  rw [cwData, toNat_twoPow_72 (by omega), Nat.mod_eq_of_lt (Nat.pow_lt_pow_right (by decide) h)]

theorem cwCheck_twoPow_data {i : Nat} (h : i < 64) : cwCheck (BitVec.twoPow 72 i) = 0 := by
  rw [cwCheck, toNat_twoPow_72 (by omega), Nat.div_eq_of_lt (Nat.pow_lt_pow_right (by decide) h)]

theorem cwData_twoPow_check {j : Nat} (h : j < 8) : cwData (BitVec.twoPow 72 (64 + j)) = 0 := by
  rw [cwData, toNat_twoPow_72 (by omega), Nat.pow_add, Nat.mul_mod_right]

theorem cwCheck_twoPow_check {j : Nat} (h : j < 8) : cwCheck (BitVec.twoPow 72 (64 + j)) = 2 ^ j := by
  rw [cwCheck, toNat_twoPow_72 (by omega), Nat.pow_add, Nat.mul_div_cancel_left _ (Nat.two_pow_pos 64)]

/-! ## The syndrome and the columns of H -/

theorem eccSyndrome_eq (w : Code72) : eccSyndrome w = eccCheck (cwData w) ^^^ cwCheck w := rfl

/-- The syndrome is linear. -/
theorem eccSyndrome_xor (v w : Code72) : eccSyndrome (v ^^^ w) = eccSyndrome v ^^^ eccSyndrome w := by
  simp only [eccSyndrome_eq, cwData_xor, cwCheck_xor, eccCheck_xor]
  ac_rfl

theorem length_eccColumns : eccColumns.length = 64 := rfl

/-- The columns of H for the codeword bits 0 to 71: those of the data bits, then those of the check bits
(Table 11.1). -/
def hColumns : List Nat := eccColumns ++ [1, 2, 4, 8, 16, 32, 64, 128]

/-- The column of H for codeword bit `i`. -/
def hColumn (i : Nat) : Nat := hColumns.getD i 0

theorem hColumn_data {i : Nat} (h : i < 64) : hColumn i = eccColumns.getD i 0 := by
  rw [hColumn, hColumns, List.getD_eq_getElem?_getD, List.getElem?_append_left h, ← List.getD_eq_getElem?_getD]

theorem hColumn_check {j : Nat} (h : j < 8) : hColumn (64 + j) = 2 ^ j := by
  revert j; decide

/-- An error in bit `i` alone gives the syndrome of its column (R320). -/
theorem eccSyndrome_twoPow {i : Nat} (h : i < 72) : eccSyndrome (BitVec.twoPow 72 i) = hColumn i := by
  rw [eccSyndrome_eq]
  by_cases hi : i < 64
  · rw [cwData_twoPow_data hi, cwCheck_twoPow_data hi, eccCheck_two_pow hi, hColumn_data hi, Nat.xor_zero]
  · obtain ⟨j, rfl⟩ := Nat.exists_eq_add_of_le (Nat.le_of_not_lt hi)
    have hj : j < 8 := by omega
    rw [cwData_twoPow_check hj, cwCheck_twoPow_check hj, eccCheck_zero, hColumn_check hj, Nat.zero_xor]

theorem hColumn_mem {i : Nat} (h : i < 72) : hColumn i ∈ hColumns := getD_mem_of_lt h

theorem hColumns_nodup : hColumns.Nodup := by decide

/-- No two bits of a codeword share a column. -/
theorem hColumn_inj {i j : Nat} (hi : i < 72) (hj : j < 72) (h : hColumn i = hColumn j) : i = j := by
  rw [hColumn, hColumn, getD_eq_getElem_of_lt hi, getD_eq_getElem_of_lt hj] at h
  exact (List.getElem_inj hColumns_nodup).mp h

/-! ## The parity of a syndrome -/

/-- The number of ones of an 8-bit value. -/
def onesCount (s : Nat) : Nat := ((List.range 8).filter s.testBit).length

theorem length_filter_xor_mod_two {α : Type} (p q : α → Bool) (l : List α) :
    (l.filter fun a => p a ^^ q a).length % 2 = ((l.filter p).length + (l.filter q).length) % 2 := by
  induction l with
  | nil => rfl
  | cons a l ih => cases hp : p a <;> cases hq : q a <;> simp [hp, hq] <;> omega

theorem onesCount_xor_mod_two (a b : Nat) : onesCount (a ^^^ b) % 2 = (onesCount a + onesCount b) % 2 := by
  rw [onesCount, funext (Nat.testBit_xor a b)]
  exact length_filter_xor_mod_two _ _ _

/-- Every column of H has an odd number of ones: 1, 3 or 5. -/
theorem onesCount_of_mem_hColumns : ∀ c ∈ hColumns, onesCount c % 2 = 1 := by decide

theorem not_mem_hColumns_of_even {s : Nat} (h : onesCount s % 2 = 0) : s ∉ hColumns := fun hs => by
  have := onesCount_of_mem_hColumns s hs
  omega

theorem hColumn_ne_zero {i : Nat} (h : i < 72) : hColumn i ≠ 0 := fun e =>
  not_mem_hColumns_of_even (s := 0) rfl (e ▸ hColumn_mem h)

/-- Two values of odd parity XOR to one of even parity, as two columns do. -/
theorem onesCount_xor_of_odd {a b : Nat} (ha : onesCount a % 2 = 1) (hb : onesCount b % 2 = 1) :
    onesCount (a ^^^ b) % 2 = 0 := by
  rw [onesCount_xor_mod_two]
  omega

/-! ## The judgement by the syndrome (Table 11.2) -/

theorem findColumn_of_not_mem {s : Nat} {l : List Nat} (h : s ∉ l) (k : Nat) : findColumn s l k = none := by
  induction l generalizing k with
  | nil => rfl
  | cons c r ih =>
    obtain ⟨hc, hr⟩ := List.ne_and_not_mem_of_not_mem_cons h
    rw [findColumn, if_neg (Ne.symm hc), ih hr]

theorem findColumn_getD {l : List Nat} (hl : l.Nodup) {i : Nat} (hi : i < l.length) (k : Nat) :
    findColumn (l.getD i 0) l k = some (k + i) := by
  induction l generalizing i k with
  | nil => exact absurd hi (Nat.not_lt_zero i)
  | cons c r ih =>
    obtain ⟨hc, hr⟩ := List.nodup_cons.mp hl
    cases i with
    | zero => simp [findColumn]
    | succ i =>
      have hi' : i < r.length := Nat.lt_of_succ_lt_succ hi
      have hne : c ≠ r.getD i 0 := fun e => hc (e ▸ getD_mem_of_lt hi')
      rw [List.getD_cons_succ, findColumn, if_neg hne, ih hr hi']
      congr 1
      omega

theorem eccDecode_of_zero {w : Code72} (h : eccSyndrome w = 0) : eccDecode w = (cwData w, .good) := by
  rw [eccDecode, if_pos h]

theorem eccDecode_of_data_column {w : Code72} {i : Nat} (hi : i < 64) (h : eccSyndrome w = hColumn i) :
    eccDecode w = (cwData w ^^^ 2 ^ i, .corrected) := by
  have hne : eccSyndrome w ≠ 0 := h ▸ hColumn_ne_zero (by omega)
  obtain ⟨hnodup, -, -⟩ := List.nodup_append.mp hColumns_nodup
  have hfind : findColumn (eccSyndrome w) eccColumns 0 = some i := by
    rw [h, hColumn_data hi, findColumn_getD hnodup hi, Nat.zero_add]
  simp only [eccDecode, hne, hfind, if_false, natXor_eq]

theorem eccDecode_of_check_column {w : Code72} {j : Nat} (hj : j < 8) (h : eccSyndrome w = hColumn (64 + j)) :
    eccDecode w = (cwData w, .corrected) := by
  have hne : eccSyndrome w ≠ 0 := h ▸ hColumn_ne_zero (by omega)
  obtain ⟨-, hnodup, hapart⟩ := List.nodup_append.mp hColumns_nodup
  have hget : eccSyndrome w = [1, 2, 4, 8, 16, 32, 64, 128].getD j 0 := by
    rw [h, hColumn, hColumns, List.getD_eq_getElem?_getD, List.getElem?_append_right (Nat.le_add_right 64 j),
      length_eccColumns, Nat.add_sub_cancel_left, ← List.getD_eq_getElem?_getD]
  have hdata : findColumn (eccSyndrome w) eccColumns 0 = none :=
    findColumn_of_not_mem (fun hmem => hapart _ hmem _ (hget ▸ getD_mem_of_lt hj) rfl) 0
  have hcheck : findColumn (eccSyndrome w) [1, 2, 4, 8, 16, 32, 64, 128] 0 = some (0 + j) := by
    rw [hget, findColumn_getD hnodup hj]
  simp only [eccDecode, hne, hdata, hcheck, if_false]

theorem eccDecode_of_not_column {w : Code72} (hne : eccSyndrome w ≠ 0) (h : eccSyndrome w ∉ hColumns) :
    eccDecode w = (cwData w, .uncorrectable) := by
  obtain ⟨hdata, hcheck⟩ := not_or.mp (mt List.mem_append.mpr h)
  simp only [eccDecode, hne, findColumn_of_not_mem hdata, findColumn_of_not_mem hcheck, if_false]

/-! ## Valid and poisoned codewords -/

theorem cwData_eccEncode {data : Nat} (h : data < 2 ^ 64) : cwData (eccEncode data) = data :=
  (cwData_cwOf _ _).trans (Nat.mod_eq_of_lt h)

@[simp] theorem cwCheck_eccEncode (data : Nat) : cwCheck (eccEncode data) = eccCheck data :=
  (cwCheck_cwOf _ _).trans (Nat.mod_eq_of_lt (eccCheck_lt data))

theorem eccSyndrome_eccEncode {data : Nat} (h : data < 2 ^ 64) : eccSyndrome (eccEncode data) = 0 := by
  rw [eccSyndrome_eq, cwData_eccEncode h, cwCheck_eccEncode, Nat.xor_self]

theorem cwData_eccPoison {data : Nat} (h : data < 2 ^ 64) : cwData (eccPoison data) = data :=
  (cwData_cwOf _ _).trans (Nat.mod_eq_of_lt h)

@[simp] theorem cwCheck_eccPoison (data : Nat) : cwCheck (eccPoison data) = eccCheck data ^^^ 0x7F :=
  (cwCheck_cwOf _ _).trans (Nat.mod_eq_of_lt (Nat.xor_lt_two_pow (n := 8) (eccCheck_lt data) (by decide)))

theorem eccSyndrome_eccPoison {data : Nat} (h : data < 2 ^ 64) : eccSyndrome (eccPoison data) = 0x7F := by
  rw [eccSyndrome_eq, cwData_eccPoison h, cwCheck_eccPoison, xor_xor_self_left]

@[simp] theorem eccStore_true (data : Nat) : eccStore data true = eccPoison data := rfl

theorem eccDecode_eccEncode {data : Nat} (h : data < 2 ^ 64) : eccDecode (eccEncode data) = (data, .good) := by
  rw [eccDecode_of_zero (eccSyndrome_eccEncode h), cwData_eccEncode h]

/-- A valid codeword with one bit wrong has the syndrome of that bit's column. -/
theorem eccSyndrome_one_error {data i : Nat} (h : data < 2 ^ 64) (hi : i < 72) :
    eccSyndrome (eccEncode data ^^^ BitVec.twoPow 72 i) = hColumn i := by
  rw [eccSyndrome_xor, eccSyndrome_eccEncode h, eccSyndrome_twoPow hi, Nat.zero_xor]

theorem eccDecode_one_error {data i : Nat} (h : data < 2 ^ 64) (hi : i < 72) :
    eccDecode (eccEncode data ^^^ BitVec.twoPow 72 i) = (data, .corrected) := by
  have hsyn := eccSyndrome_one_error h hi
  by_cases hd : i < 64
  · rw [eccDecode_of_data_column hd hsyn, cwData_xor, cwData_eccEncode h, cwData_twoPow_data hd,
      xor_xor_self_right]
  · obtain ⟨j, rfl⟩ := Nat.exists_eq_add_of_le (Nat.le_of_not_lt hd)
    have hj : j < 8 := by omega
    rw [eccDecode_of_check_column hj hsyn, cwData_xor, cwData_eccEncode h, cwData_twoPow_check hj, Nat.xor_zero]

/-- The syndrome of two errors is not 0, since their columns differ, and is no column, since its parity is even. -/
theorem eccDecode_two_errors {data i j : Nat} (h : data < 2 ^ 64) (hi : i < 72) (hj : j < 72) (hij : i ≠ j) :
    (eccDecode (eccEncode data ^^^ BitVec.twoPow 72 i ^^^ BitVec.twoPow 72 j)).2 = .uncorrectable := by
  have hsyn : eccSyndrome (eccEncode data ^^^ BitVec.twoPow 72 i ^^^ BitVec.twoPow 72 j) = hColumn i ^^^ hColumn j := by
    rw [eccSyndrome_xor, eccSyndrome_one_error h hi, eccSyndrome_twoPow hj]
  have hne : hColumn i ^^^ hColumn j ≠ 0 := fun e => hij (hColumn_inj hi hj (eq_of_xor_eq_zero e))
  have heven : onesCount (hColumn i ^^^ hColumn j) % 2 = 0 :=
    onesCount_xor_of_odd (onesCount_of_mem_hColumns _ (hColumn_mem hi)) (onesCount_of_mem_hColumns _ (hColumn_mem hj))
  rw [eccDecode_of_not_column (hsyn ▸ hne) (hsyn ▸ not_mem_hColumns_of_even heven)]

/-- Errors in d0, d1 and c0 of the word 0 give 0x07 XOR 0x0B XOR 0x01 = 0x0D, the column of d2. -/
theorem eccDecode_three_errors_miscorrected :
    eccDecode (eccEncode 0 ^^^ BitVec.twoPow 72 0 ^^^ BitVec.twoPow 72 1 ^^^ BitVec.twoPow 72 64)
      = (7, .corrected) := by decide

/-- The poison mark 0x7F is no column of H, though its parity is odd: no column has seven ones. -/
theorem poison_not_mem_hColumns : 0x7F ∉ hColumns := by decide

theorem eccDecode_eccPoison {data : Nat} (h : data < 2 ^ 64) :
    eccDecode (eccPoison data) = (data, .uncorrectable) := by
  have hsyn := eccSyndrome_eccPoison h
  rw [eccDecode_of_not_column (hsyn ▸ by decide) (hsyn ▸ poison_not_mem_hColumns), cwData_eccPoison h]

/-- A poisoned word with one bit wrong has a syndrome of even parity. -/
theorem onesCount_eccSyndrome_poison_error {data i : Nat} (h : data < 2 ^ 64) (hi : i < 72) :
    onesCount (eccSyndrome (eccPoison data ^^^ BitVec.twoPow 72 i)) % 2 = 0 := by
  rw [eccSyndrome_xor, eccSyndrome_eccPoison h, eccSyndrome_twoPow hi]
  exact onesCount_xor_of_odd rfl (onesCount_of_mem_hColumns _ (hColumn_mem hi))

theorem eccDecode_poison_error {data i : Nat} (h : data < 2 ^ 64) (hi : i < 72) :
    (eccDecode (eccPoison data ^^^ BitVec.twoPow 72 i)).2 = .uncorrectable := by
  have hne : eccSyndrome (eccPoison data ^^^ BitVec.twoPow 72 i) ≠ 0 := by
    rw [eccSyndrome_xor, eccSyndrome_eccPoison h, eccSyndrome_twoPow hi]
    exact fun e => poison_not_mem_hColumns (eq_of_xor_eq_zero e ▸ hColumn_mem hi)
  rw [eccDecode_of_not_column hne (not_mem_hColumns_of_even (onesCount_eccSyndrome_poison_error h hi))]

/-! ## The obligations of chapter 11 -/

/-- Settles O31: the syndrome of the errors is the XOR of their columns; the columns are distinct and of odd parity. -/
theorem eccCorrectsOneDetectsTwo : Obligations.EccCorrectsOneDetectsTwo :=
  ⟨fun _ h => ⟨eccDecode_eccEncode h, fun _ hi => eccDecode_one_error h hi,
      fun _ _ hi hj hij => eccDecode_two_errors h hi hj hij⟩,
    0, 0, 1, 64, 7, by decide, by decide, by decide, by decide, by decide, eccDecode_three_errors_miscorrected⟩

/-- Settles O32: the check byte is the XOR of the columns of the data bits, and a poisoned word's syndrome 0x7F is no
column and differs from every column by an even number of ones. -/
theorem checkBitsAndPoison : Obligations.CheckBitsAndPoison := by
  unfold Obligations.CheckBitsAndPoison
  simp only [eccStore_true, cwCheck_eccEncode]
  refine ⟨fun data j h hj => ⟨cwData_eccEncode h, eccCheck_testBit h j, ?_⟩,
    fun data h => ⟨cwData_eccPoison h, cwCheck_eccPoison data, eccSyndrome_eccPoison h, eccDecode_eccPoison h,
      fun i hi => ⟨onesCount_eccSyndrome_poison_error h hi, eccDecode_poison_error h hi⟩⟩⟩
  rw [eccSyndrome_one_error h (by omega), hColumn_check hj]

end Sys2Proof.Machine

/-! What a raise does to the latches, counts and units of the event controller (R505, R508): its delivery and its
triggers leave them, its latching changes those of its event alone, and the power unit's part of it clears none. -/

namespace Sys2Proof.Machine

/-! ## Operations that leave the latches, counts and units -/

/-- From `d` to `e` the latch, the count and the unit of every event stay. -/
structure Device.SameLatches (d e : Device) : Prop where
  latched : ∀ x, x < 128 → e.latched x = d.latched x
  count : e.ev.count = d.ev.count
  unit : e.ev.unit = d.ev.unit

theorem Device.SameLatches.trans {d e g : Device} (h : d.SameLatches e) (h' : e.SameLatches g) : d.SameLatches g :=
  ⟨fun x hx => (h'.latched x hx).trans (h.latched x hx), h'.count.trans h.count, h'.unit.trans h.unit⟩

theorem Device.latched_of_regs {d e : Device} {x : Nat} (h : e.regs = d.regs) : e.latched x = d.latched x := by
  simp only [Device.latched_iff, Device.rd, h]

theorem Device.sameLatches_of_regs {d e : Device} (hr : e.regs = d.regs) (hc : e.ev.count = d.ev.count)
    (hu : e.ev.unit = d.ev.unit) : d.SameLatches e :=
  ⟨fun _ _ => Device.latched_of_regs hr, hc, hu⟩

theorem Device.SameLatches.refl (d : Device) : d.SameLatches d := Device.sameLatches_of_regs rfl rfl rfl

/-- A write of a register that is none of EV_LATCH0 to 3. -/
theorem Device.SameLatches.wr {d e : Device} (h : d.SameLatches e) {k : Nat} (v : Nat)
    (hk : k < 0x6000 ∨ 0x600C < k) : d.SameLatches (e.wr k v) := by
  refine h.trans ⟨fun x hx => ?_, rfl, rfl⟩
  rw [Device.latched_iff, Device.latched_iff, Device.rd_wr_ne _ _ (by omega)]

theorem Device.SameLatches.set {d e : Device} (h : d.SameLatches e) {f : Field} (v : Nat)
    (hf : f.key < 0x6000 ∨ 0x600C < f.key) : d.SameLatches (e.set f v) := h.wr _ hf

theorem Device.SameLatches.setAll {d e : Device} (h : d.SameLatches e) (fs : List (Field × Nat))
    (hf : ∀ x ∈ fs, x.1.key < 0x6000 ∨ 0x600C < x.1.key) : d.SameLatches (e.setAll fs) := by
  induction fs generalizing e with
  | nil => exact h
  | cons x r ih =>
    exact ih (h.set x.2 (hf x (List.mem_cons_self ..))) (fun y hy => hf y (List.mem_cons_of_mem _ hy))

theorem Device.SameLatches.each {d e : Device} (h : d.SameLatches e) (l : List Nat) (f : Device → Nat → Device)
    (hf : ∀ (g : Device) n, g.SameLatches (f g n)) : d.SameLatches (e.each l f) :=
  Device.each_keep l f (fun g n _ hg => hg.trans (hf g n)) h

theorem Device.enqueueRaise_sameLatches (d : Device) (r : Raise) : d.SameLatches (d.enqueueRaise r) := by
  unfold Device.enqueueRaise
  split
  · exact Device.sameLatches_of_regs rfl rfl rfl
  · exact (Device.SameLatches.refl d).set _ (.inr (by decide))

/-- A trigger writes SMV_CHc_STATUS alone (R363). -/
theorem Device.smvTrigger_sameLatches (ev : Nat) (d : Device) (c : Nat) : d.SameLatches (Device.smvTrigger ev d c) := by
  have hk : (0x600C : Nat) < 0x1810C + 32 * c := by omega
  have hs : ∀ (f : Field) (v : Nat), f.key = 0x1810C + 32 * c → d.SameLatches (d.set f v) := fun f v hf =>
    (Device.SameLatches.refl d).set v (.inr (hf ▸ hk))
  unfold Device.smvTrigger
  split
  · split
    · exact hs _ _ rfl
    · split
      · exact hs _ _ rfl
      · exact hs _ _ rfl
  · exact Device.SameLatches.refl d

/-! ## The latching of a raise -/

theorem Device.latched_setLatch_ne (d : Device) {ev x : Nat} (h : x ≠ ev) :
    (d.setFieldBit (F.EV_LATCH_EVENTS (ev / 32)) (ev % 32)).latched x = d.latched x := by
  by_cases hk : x / 32 = ev / 32
  · have hm : x % 32 < 32 := Nat.mod_lt _ (by decide)
    have hx : ev % 32 ≠ x % 32 := by omega
    have hself := d.get_set_self (F.EV_LATCH_EVENTS (ev / 32)) (setBit (d.get (F.EV_LATCH_EVENTS (ev / 32))) (ev % 32))
      (Nat.zero_le _) (Nat.lt_succ_self 31)
    simp only [Device.latched, hk, Device.setFieldBit, hself, bit_eq_testBit, Nat.testBit_mod_two_pow, setBit_testBit]
    simp [hm, hx]
  · exact Device.latched_set _ _ _ _ (by show 0x6000 + 4 * (ev / 32) ≠ 0x6000 + 4 * (x / 32); omega)

theorem Device.latched_mirqUpdate (d : Device) (x : Nat) : d.mirqUpdate.latched x = d.latched x :=
  Device.latched_of_regs rfl

theorem Device.latched_withEv (d : Device) (v : EventState) (x : Nat) : { d with ev := v }.latched x = d.latched x :=
  Device.latched_of_regs rfl

theorem Device.latched_latchRaise_ne (d : Device) (r : Raise) {x : Nat} (h : x ≠ r.ev) :
    (d.latchRaise r).latched x = d.latched x := by
  unfold Device.latchRaise Device.when
  rw [Device.latched_mirqUpdate]
  split
  · exact (Device.latched_setLatch_ne _ h).trans (d.latched_withEv _ x)
  · exact d.latched_withEv _ x

theorem Device.count_latchRaise (d : Device) (r : Raise) : (d.latchRaise r).ev.count
    = Tab.set (fun _ => 0) d.ev.count r.ev ((Tab.get (fun _ => 0) d.ev.count r.ev + 1) % 65536) := by
  unfold Device.latchRaise Device.when
  split <;> rfl

theorem Device.unit_latchRaise (d : Device) (r : Raise) :
    (d.latchRaise r).ev.unit = Tab.set (fun _ => 0) d.ev.unit r.ev r.unit := by
  unfold Device.latchRaise Device.when
  split <;> rfl

/-! ## The record and the delivery of a raise -/

/-- The raise of event `ev` by `unit`, with machine time as its die holds it. -/
def Device.raiseRecord (d : Device) (ev unit payload : Nat) : Raise :=
  { ev := ev, unit := unit, payload := payload, mt := d.mtOf (unitDie unit) }

/-- The device after a raise was delivered and counted by the triggers, before it is latched (R510, R363). -/
def Device.delivered (d : Device) (r : Raise) : Device :=
  (d.enqueueRaise r).each (List.range 16) (Device.smvTrigger r.ev)

theorem Device.delivered_sameLatches (d : Device) (r : Raise) : d.SameLatches (d.delivered r) :=
  (d.enqueueRaise_sameLatches r).each _ _ (Device.smvTrigger_sameLatches r.ev)

theorem Device.delivered_board (d : Device) (r : Raise) : (d.delivered r).board = d.board :=
  (congrArg Device.board (((Device.Noted.refl d []).enqueueRaise r).each (List.range 16) (Device.smvTrigger r.ev)
    (fun _ c hc hg => hg.smvTrigger r.ev c (List.mem_range.1 hc))).1 :)

/-- A raise of a unit that is not silent is delivered, and latched while MCK runs; else it waits to be latched, but
MCK_RANGE does not (R505). -/
theorem Device.raiseCore_of_not_silent (d : Device) {ev unit : Nat} (payload : Nat) (hs : d.silent unit = false) :
    d.raiseCore ev unit payload =
      let r := d.raiseRecord ev unit payload
      let e := d.delivered r
      if d.board.mck || ev == Ev.MCK_RANGE then e.latchRaise r
      else { e with ev := { e.ev with waiting := e.ev.waiting ++ [r] } } := by
  rw [← d.delivered_board (d.raiseRecord ev unit payload)]
  unfold Device.raiseCore
  rw [hs]
  rfl

theorem Device.raiseCore_eq_latchRaise (d : Device) {ev unit : Nat} (payload : Nat) (hs : d.silent unit = false)
    (hm : d.board.mck = true ∨ ev = Ev.MCK_RANGE) : d.raiseCore ev unit payload
      = (d.delivered (d.raiseRecord ev unit payload)).latchRaise (d.raiseRecord ev unit payload) := by
  rw [d.raiseCore_of_not_silent payload hs]
  exact if_pos (by simpa using hm)

/-- Without MCK a raise of another event than MCK_RANGE leaves the latches, counts and units (R505). -/
theorem Device.raiseCore_sameLatches (d : Device) {ev : Nat} (unit payload : Nat) (hm : d.board.mck = false)
    (hv : ev ≠ Ev.MCK_RANGE) : d.SameLatches (d.raiseCore ev unit payload) := by
  cases hs : d.silent unit with
  | true =>
    have hd : d.raiseCore ev unit payload = d := if_pos hs
    rw [hd]
    exact Device.SameLatches.refl d
  | false =>
    rw [d.raiseCore_of_not_silent payload hs]
    dsimp only
    rw [if_neg (by simp [hm, hv])]
    exact (d.delivered_sameLatches _).trans (Device.sameLatches_of_regs rfl rfl rfl)

section
variable (d : Device) {ev unit : Nat} (payload : Nat) (hs : d.silent unit = false)
  (hm : d.board.mck = true ∨ ev = Ev.MCK_RANGE)
include hs hm

theorem Device.latched_raiseCore_self (hn : neverLatches ev = false) :
    (d.raiseCore ev unit payload).latched ev = true := by
  rw [d.raiseCore_eq_latchRaise payload hs hm]
  exact Device.latched_latchRaise _ (d.raiseRecord ev unit payload) hn

theorem Device.latched_raiseCore_ne {x : Nat} (hx : x < 128) (h : x ≠ ev) :
    (d.raiseCore ev unit payload).latched x = d.latched x := by
  rw [d.raiseCore_eq_latchRaise payload hs hm, Device.latched_latchRaise_ne _ _ h]
  exact (d.delivered_sameLatches _).latched x hx

/-- RAISE_CNT has 16 bits and wraps (R505). -/
theorem Device.count_raiseCore : (d.raiseCore ev unit payload).ev.count
    = Tab.set (fun _ => 0) d.ev.count ev ((Tab.get (fun _ => 0) d.ev.count ev + 1) % 65536) := by
  rw [d.raiseCore_eq_latchRaise payload hs hm, Device.count_latchRaise, (d.delivered_sameLatches _).count]
  rfl

theorem Device.unit_raiseCore : (d.raiseCore ev unit payload).ev.unit = Tab.set (fun _ => 0) d.ev.unit ev unit := by
  rw [d.raiseCore_eq_latchRaise payload hs hm, Device.unit_latchRaise, (d.delivered_sameLatches _).unit]
  rfl

end

/-! ## The power unit's part of a raise clears no latch (R495, R496, R499) -/

theorem Device.latched_refuseBy {take : Device → RefusalRec → Device} {d : Device} {x key : Nat} (why : Reason) (i : Nat)
    (hx : x < 128) (ht : ∀ g r, g.latched x = true → (take g r).latched x = true) (hk : key < 0x6000 ∨ 0x600C < key)
    (h : d.latched x = true) : (Device.refuseBy take d key why i).latched x = true := by
  have hw : (d.wr key (why.code * 256 + i % 256)).latched x = true :=
    (((Device.SameLatches.refl d).wr _ hk).latched x hx).trans h
  unfold Device.refuseBy
  dsimp only
  split
  · split
    · exact ht _ _ hw
    · exact hw
  · split <;> exact hw

theorem Device.lastRefusal_sameLatches (d : Device) (r : RefusalRec) : d.SameLatches (d.lastRefusal r) :=
  ((Device.SameLatches.refl d).setAll _ (by simp)).set _ (.inl (by decide))

theorem Device.latched_pwRefusal {d : Device} {x : Nat} (kind unit : Nat) (why : Reason) (ev : Nat) (hx : x < 128)
    (h : d.latched x = true) : (d.pwRefusal kind unit why ev).latched x = true := by
  have hrec : ∀ l : List (Field × Nat), (∀ y ∈ l, y.1.key < 0x6000 ∨ 0x600C < y.1.key) →
      ((d.inc F.PW_REFUSE_CNT_COUNT).setAll l).latched x = true := fun l hl =>
    ((((Device.SameLatches.refl d).set _ (.inl (by decide))).setAll l hl).latched x hx).trans h
  unfold Device.pwRefusal
  refine (Device.raiseCore_keeps _ _ _ (by decide)).1 x hx (Device.latched_refuseBy _ _ hx (fun g r hg => ?_)
    (.inl (by decide)) (hrec _ (by simp)))
  exact (Device.raiseCore_keeps _ _ _ (by decide)).1 x hx (((g.lastRefusal_sameLatches r).latched x hx).trans hg)

theorem Device.latched_pwAbort {d : Device} {x : Nat} (unit : Nat) (why : Reason) (ev : Nat) (hx : x < 128)
    (h : d.latched x = true) : (d.pwAbort unit why ev).latched x = true := by
  have hdrain := (Device.SameLatches.refl d).each d.pw.stops
    (fun d n => d.setTarget (zoneStop n) { d.target (zoneStop n) with drain := false })
    (fun _ _ => Device.sameLatches_of_regs rfl rfl rfl)
  unfold Device.pwAbort
  refine Device.latched_pwRefusal _ _ _ _ hx ((Device.SameLatches.latched ?_ x hx).trans h)
  exact (hdrain.trans (g := { d.each d.pw.stops (fun d n => d.setTarget (zoneStop n)
    { d.target (zoneStop n) with drain := false }) with pw := .idle })
      (Device.sameLatches_of_regs rfl rfl rfl)).setAll _ (by simp)

theorem Device.wakeBegin_sameLatches (d : Device) (source : Nat) : d.SameLatches (d.wakeBegin source) := by
  have hset := (Device.SameLatches.refl d).setAll [(F.PW_STATUS_PHASE, 5), (F.PW_WAKE_SRC_SOURCE, source)] (by simp)
  unfold Device.wakeBegin
  refine hset.trans ?_
  dsimp only
  repeat' split
  all_goals exact Device.sameLatches_of_regs rfl rfl rfl

theorem Device.latched_powerHook {d : Device} {x : Nat} (ev unit : Nat) (hx : x < 128) (h : d.latched x = true) :
    (d.powerHook ev unit).latched x = true := by
  have hwake : (d.wakeBegin ev).latched x = true := ((d.wakeBegin_sameLatches ev).latched x hx).trans h
  have habort : (d.pwAbort unit .busy ev).latched x = true := Device.latched_pwAbort unit .busy ev hx h
  unfold Device.powerHook
  dsimp only
  repeat' split
  all_goals assumption

/-! ## Whole raises -/

theorem Device.silent_eq_false {d : Device} {unit : Nat}
    (h : unitDie unit = 0 ∨ (d.fenced (unitDie unit) = false ∧ d.dormant = false)) : d.silent unit = false := by
  rcases h with h | ⟨hf, hd⟩
  · simp [Device.silent, h]
  · simp [Device.silent, hf, hd]

theorem Device.raise_of_silent {d : Device} {unit : Nat} (ev payload : Nat) (h : d.silent unit = true) :
    d.raise ev unit payload = d := if_pos h

/-- In any power state a raise sets its event's latch, while MCK runs or for MCK_RANGE. -/
theorem Device.latched_raise_self (d : Device) {ev unit : Nat} (payload : Nat) (hv : ev < 128)
    (hs : d.silent unit = false) (hm : d.board.mck = true ∨ ev = Ev.MCK_RANGE) (hn : neverLatches ev = false) :
    (d.raise ev unit payload).latched ev = true := by
  unfold Device.raise
  rw [hs]
  exact Device.latched_powerHook ev unit hv (d.latched_raiseCore_self payload hs hm hn)

theorem Device.raise_onlyNoted (d : Device) {ev : Nat} (unit payload : Nat) (hv : ev < 128)
    (hp : d.get F.PW_STATUS_PHASE = 0) : d.OnlyNoted (d.raise ev unit payload) [] (fieldsOf []) :=
  (Device.Keeps.refl d).raise_calm _ _ rfl rfl hv (fun _ hf => (by simpa [fieldsOf] using hf : _ ∧ _).2) hp

/-- EVENT_RAISE outside POR is the raise. -/
theorem completes_eventRaise {s : State} {ev : Fin 128} {unit : BitVec 12} {payload : BitVec 32} {P : Device → Prop}
    (hpor : s.dev.rst.por = false) (h : P (s.dev.raise ev.val unit.toNat payload.toNat)) :
    completes (.eventRaise ev unit payload) s P := by
  refine ⟨_, rfl, rfl, rfl, ?_⟩
  rw [State.on_dev, hpor]
  exact h

theorem completes_eventRaise_of_silent {s : State} {ev : Fin 128} {unit : BitVec 12} {payload : BitVec 32}
    (h : s.dev.silent unit.toNat = true) : completes (.eventRaise ev unit payload) s (fun d => d = s.dev) := by
  refine ⟨_, rfl, rfl, rfl, ?_⟩
  rw [State.on_dev, Device.raise_of_silent _ _ h, ite_self]

/-! ## The obligation of chapter 19 -/

/-- Settles O48: with no power entry or state under way a raise is its delivery and its latching, or without MCK its
delivery alone; the power unit's part of a raise in a power state clears no latch. -/
theorem raisesAreLatched : Obligations.RaisesAreLatched := by
  refine ⟨fun s ev unit payload hpor hn hd hp hm => ?_, fun s ev unit payload hpor hn hs hm => ?_,
    fun s ev unit payload hpor hp hm hv => ?_, fun s ev unit payload hu hd => ?_⟩
  · have hs := Device.silent_eq_false hd
    refine completes_eventRaise hpor ?_
    have hnoted := s.dev.raise_onlyNoted unit.toNat payload.toNat ev.isLt hp
    rw [s.dev.raise_calm _ _ ev.isLt hp] at hnoted ⊢
    rw [Device.count_raiseCore _ _ hs hm, Device.unit_raiseCore _ _ hs hm]
    exact ⟨Device.latched_raiseCore_self _ _ hs hm hn, Tab.get_set_self .., Tab.get_set_self ..,
      fun e he hne => ⟨Device.latched_raiseCore_ne _ _ hs hm he hne, Tab.get_set_ne _ _ _ hne, Tab.get_set_ne _ _ _ hne⟩,
      hnoted⟩
  · exact completes_eventRaise hpor (s.dev.latched_raise_self _ ev.isLt hs hm hn)
  · refine completes_eventRaise hpor ?_
    rw [s.dev.raise_calm _ _ ev.isLt hp]
    obtain ⟨hlatched, hcount, hunit⟩ := s.dev.raiseCore_sameLatches unit.toNat payload.toNat hm hv
    exact ⟨hlatched, hcount, hunit⟩
  · exact completes_eventRaise_of_silent (by simpa [Device.silent, hu] using hd)

end Sys2Proof.Machine
